-- ==== Sys2Proof/Word.lean ====
section
/-!
DEFINITION. The words of the ZQX-8C12: bytes, half words, words and register words (R5 to R7).
-/
namespace Sys2Proof

/-- A byte (R7). -/
abbrev Byte := BitVec 8
/-- A 16-bit value. -/
abbrev W16 := BitVec 16
/-- A 32-bit value. -/
abbrev W32 := BitVec 32
/-- A 64-bit value: a register or a scalar register. -/
abbrev W64 := BitVec 64

/-- A value with its poison mark (R35, R226). -/
structure PVal where
  val : W64
  poison : Bool
  deriving DecidableEq, Repr

/-- The unpoisoned zero. -/
def PVal.zero : PVal := ⟨0, false⟩

end Sys2Proof
end

