-- ==== Sys2Proof/Data.lean ====
section
/-!
DEFINITION. The data that commands carry: identities of units (R16, R357), headers and packets (R41 to R46),
instruction fields (R231), and the inputs that reach the module from outside.
-/
namespace Sys2Proof

/-- A cluster: compute die 0 to 7, cluster 0 to 15 (R16). -/
structure ClusterId where
  die : Nat
  cluster : Nat
  deriving DecidableEq, Repr

/-- A core. Compute die 0 to 7: core 0x00 to 0x21 is a compute core and 0x22 the control core of the cluster.
Die 8: core 0 to 3 is a steward (R37, R223). -/
structure CoreId where
  die : Nat
  cluster : Nat
  core : Nat
  deriving DecidableEq, Repr

/-- One register block of the register region (R357). -/
inductive Block where
  | hub | hubSec | hubStore | rst | opt | pci | dbg | memHub
  | peer (p : Nat)
  | steward (s : Nat)
  | hubStop (d : Nat)
  | die (d : Nat)
  | memGroup (d g : Nat)
  | cluster (d c : Nat)
  | core (d c k : Nat)
  deriving DecidableEq, Repr

/-- A chute: the block that holds its read side and its index there (R78, R358). -/
structure ChuteId where
  block : Block
  index : Nat
  deriving DecidableEq, Repr

/-- The header flit (R43). Reserved bits are not kept: every producer writes zero and every consumer ignores
them (R44). -/
structure Header where
  dstDie : BitVec 4
  dstCluster : BitVec 4
  dstCore : BitVec 8
  dstUnit : BitVec 8
  vnet : BitVec 2
  poison : Bool
  last : Bool
  compressed : Bool
  observed : Bool
  zmask : Bool
  srcDie : BitVec 4
  srcCluster : BitVec 4
  srcCore : BitVec 8
  srcUnit : BitVec 8
  codebook : BitVec 8
  opTag : W16
  width : BitVec 4
  len : BitVec 11
  blocks : BitVec 8
  tscale : BitVec 8
  epoch : W16
  deriving DecidableEq, Repr

/-- A packet: a header and its payload bytes (R41). -/
structure Packet where
  hdr : Header
  payload : List Byte
  deriving DecidableEq, Repr

/-- The fields of a Natos instruction word but for OPC, which the command's constructor stands for (R231). -/
structure Ins where
  gn : Bool
  gp : BitVec 3
  d : BitVec 5
  a : BitVec 5
  b : BitVec 5
  c : BitVec 5
  imm : W32
  deriving DecidableEq, Repr

/-- A narrow word written into a chute: 16 bytes with their byte enables (R55). `last`: the producer ends the packet with it;
only so can a packet's written byte count differ from its LEN (R57, DEDUCED, log 32). -/
structure NarrowWord where
  data : BitVec 128
  enable : W16
  last : Bool
  deriving DecidableEq, Repr

/-- Who writes a register (R427, R557): the host through BAR0 of a function, firmware on a control core. -/
inductive Writer where
  | host (fn : Nat)
  | firmware (c : CoreId)
  deriving DecidableEq, Repr

/-- How a read of host memory by the module ended (R446): the bytes, with the completions that were marked poisoned as offset and length
(R452), or an error. -/
inductive HostRead where
  | data (bytes : List Byte) (poison : List (Nat × Nat))
  | unsupported
  | abort
  | timeout
  deriving DecidableEq, Repr

/-- What one fetch of a stored block met on the channel: the symbols in error and the bits flipped in each
(R369). -/
structure FetchErr where
  symbols : List (Nat × W16)
  deriving DecidableEq, Repr

/-- The end of a page copy of a channel of a die: for each block of the page, the fetches of its read (R370, R372). -/
structure PageReads where
  chan : Nat
  fetches : List (List FetchErr)
  deriving DecidableEq, Repr

/-- One roster entry, the 64 bits of R487. -/
abbrev RosterEntry := W64

/-- What the security engine finds of a partner's certificate chain and signature (R482); the arithmetic of the
certificate chain is outside this model. -/
structure IdentityVerdict where
  chainOk : Bool
  signatureOk : Bool
  deriving DecidableEq, Repr

/-- What the boot sequence meets in boot flash, fuses and channel training (R564, R569, R571, R573). -/
structure BootInput where
  /-- the 512 bytes of the option block; none: the flash did not return them (R564) -/
  option : Option (List Byte)
  /-- an uncorrectable fuse word (R569) -/
  fuseFail : Bool
  /-- the flash image (R570) -/
  image : List Byte
  /-- straps sampled at a cold reset (R460) -/
  seat : BitVec 4
  feed : BitVec 2
  /-- global numbers of the channels that fail training or retraining (R573, R374) -/
  trainFail : List Nat
  deriving DecidableEq, Repr

/-- New stretch events of one island, named by the region offset of its ISL_STRETCH register (R26, R609). -/
structure IslandStretch where
  register : Nat
  events : Nat
  deriving DecidableEq, Repr

/-- A transfer at the boundary of a block in block reset (R559). -/
inductive WrapTransfer where
  | request (hdr : Header)
  | registerRead
  | registerWrite
  | response
  | item (hdr : Header)
  | grant (handle : Nat)
  | copy (handle step : Nat)
  deriving DecidableEq, Repr

end Sys2Proof
end

