-- ==== Sys2Proof/Syntax.lean ====
section
/-!
DEFINITION. The commands of the module: one constructor for each row of the table of operations and events.
A constructor's docstring names the rule its row cites. The operands are the model's: a Natos row carries the core
and the fields of its instruction word (R231); a row for an event of a unit names the unit; a row for something that
arrives from outside carries what arrives.
-/
namespace Sys2Proof

/-- A command: one row of the table. -/
inductive Instr where
  /-- REGISTER_WRITE (R12). -/
  | registerWrite (w : Writer) (reg : Nat) (v : W64)
  /-- ROUTE_PACKET (R49). -/
  | routePacket (r : ClusterId) (port net : Nat) (upsets : BitVec 128)
  /-- CHUTE_WRITE (R55). -/
  | chuteWrite (ch : ChuteId) (word : NarrowWord)
  /-- PACKET_TAKE_START (R64). -/
  | packetTakeStart (ch : ChuteId)
  /-- CHUTE_READ (R58). -/
  | chuteRead (ch : ChuteId) (upsets : BitVec 512)
  /-- PEER_HOLD_IN_ASSERT (R67). -/
  | peerHoldInAssert (port : Nat)
  /-- PEER_HOLD_IN_RELEASE (R67). -/
  | peerHoldInRelease (port : Nat)
  /-- FLUSH (R72). -/
  | flush (ch : ChuteId)
  /-- CHUTE_STAT_READ (R78). -/
  | chuteStatRead (ch : ChuteId)
  /-- CB_DESC_WRITE (R93). -/
  | cbDescWrite (cl : ClusterId) (n : Nat) (v : W64)
  /-- CB_ENTRY_WRITE (R93). -/
  | cbEntryWrite (cl : ClusterId) (n k : Nat) (v : W16)
  /-- TSCALE_ENT_WRITE (R214). -/
  | tscaleEntWrite (cl : ClusterId) (i : Nat) (v : W64)
  /-- TSCALE_NEXT_WRITE (R219). -/
  | tscaleNextWrite (cl : ClusterId) (i : Nat) (v : W64)
  /-- LAYER_DESC_WRITE (R185). -/
  | layerDescWrite (cl : ClusterId) (n word : Nat) (v : W64)
  /-- LAYER_NEXT_WRITE (R186). -/
  | layerNextWrite (cl : ClusterId) (n word : Nat) (v : W64)
  /-- WC_LADDER_WRITE (R183). -/
  | wcLadderWrite (cl : ClusterId) (v : W64)
  /-- WC_RULE_WRITE (R200). -/
  | wcRuleWrite (cl : ClusterId) (k : Nat) (threshold : Bool) (v : W64)
  /-- WC_STEP_WRITE (R216). -/
  | wcStepWrite (cl : ClusterId) (seed : Bool) (v : W64)
  /-- WC_ENABLE (R203). -/
  | wcEnable (cl : ClusterId) (enable : Bool)
  /-- CLOSE (R218). -/
  | close (cl : ClusterId)
  /-- CLOSE_BANK_SWAP (R218). -/
  | closeBankSwap (cl : ClusterId)
  /-- COMMIT (R219). -/
  | commit (cl : ClusterId)
  /-- GENERATION_SWAP (R219). -/
  | generationSwap (cl : ClusterId)
  /-- NEXT_COPY_DONE (R219). -/
  | nextCopyDone (cl : ClusterId)
  /-- WC_ABANDON (R543). -/
  | wcAbandon (cl : ClusterId)
  /-- AGREEMENT_SAMPLE (R199). -/
  | agreementSample (cl : ClusterId) (weights : List (List W32))
  /-- MERGE_TIMEOUT (R221). -/
  | mergeTimeout (steward seat : Nat)
  /-- ADD (R235). -/
  | add (c : CoreId) (w : Ins)
  /-- SUB (R235). -/
  | sub (c : CoreId) (w : Ins)
  /-- MUL (R235). -/
  | mul (c : CoreId) (w : Ins)
  /-- MULH (R235). -/
  | mulh (c : CoreId) (w : Ins)
  /-- MULHU (R235). -/
  | mulhu (c : CoreId) (w : Ins)
  /-- DIV (R237). -/
  | div (c : CoreId) (w : Ins)
  /-- DIVU (R237). -/
  | divu (c : CoreId) (w : Ins)
  /-- REM (R237). -/
  | rem (c : CoreId) (w : Ins)
  /-- REMU (R237). -/
  | remu (c : CoreId) (w : Ins)
  /-- AND (R235). -/
  | and (c : CoreId) (w : Ins)
  /-- OR (R235). -/
  | or (c : CoreId) (w : Ins)
  /-- XOR (R235). -/
  | xor (c : CoreId) (w : Ins)
  /-- SHL (R235). -/
  | shl (c : CoreId) (w : Ins)
  /-- SHR (R235). -/
  | shr (c : CoreId) (w : Ins)
  /-- SRA (R235). -/
  | sra (c : CoreId) (w : Ins)
  /-- MIN (R235). -/
  | min (c : CoreId) (w : Ins)
  /-- MAX (R235). -/
  | max (c : CoreId) (w : Ins)
  /-- MINU (R235). -/
  | minu (c : CoreId) (w : Ins)
  /-- MAXU (R235). -/
  | maxu (c : CoreId) (w : Ins)
  /-- SEL (R235). -/
  | sel (c : CoreId) (w : Ins)
  /-- CLZ (R235). -/
  | clz (c : CoreId) (w : Ins)
  /-- POPC (R235). -/
  | popc (c : CoreId) (w : Ins)
  /-- MADD (R235). -/
  | madd (c : CoreId) (w : Ins)
  /-- ADDI (R235). -/
  | addi (c : CoreId) (w : Ins)
  /-- ANDI (R235). -/
  | andi (c : CoreId) (w : Ins)
  /-- ORI (R235). -/
  | ori (c : CoreId) (w : Ins)
  /-- XORI (R235). -/
  | xori (c : CoreId) (w : Ins)
  /-- SHLI (R235). -/
  | shli (c : CoreId) (w : Ins)
  /-- SHRI (R235). -/
  | shri (c : CoreId) (w : Ins)
  /-- SRAI (R235). -/
  | srai (c : CoreId) (w : Ins)
  /-- LI (R235). -/
  | li (c : CoreId) (w : Ins)
  /-- LIH (R235). -/
  | lih (c : CoreId) (w : Ins)
  /-- ADDPC (R235). -/
  | addpc (c : CoreId) (w : Ins)
  /-- CMP (R236). -/
  | cmp (c : CoreId) (w : Ins)
  /-- CMPI (R236). -/
  | cmpi (c : CoreId) (w : Ins)
  /-- PLOG (R235). -/
  | plog (c : CoreId) (w : Ins)
  /-- LD_B (R238). -/
  | ldB (c : CoreId) (w : Ins)
  /-- LD_BU (R238). -/
  | ldBu (c : CoreId) (w : Ins)
  /-- LD_H (R238). -/
  | ldH (c : CoreId) (w : Ins)
  /-- LD_HU (R238). -/
  | ldHu (c : CoreId) (w : Ins)
  /-- LD_W (R238). -/
  | ldW (c : CoreId) (w : Ins)
  /-- LD_WU (R238). -/
  | ldWu (c : CoreId) (w : Ins)
  /-- LD_D (R238). -/
  | ldD (c : CoreId) (w : Ins)
  /-- ST_B (R238). -/
  | stB (c : CoreId) (w : Ins)
  /-- ST_H (R238). -/
  | stH (c : CoreId) (w : Ins)
  /-- ST_W (R238). -/
  | stW (c : CoreId) (w : Ins)
  /-- ST_D (R238). -/
  | stD (c : CoreId) (w : Ins)
  /-- BRA (R242). -/
  | bra (c : CoreId) (w : Ins)
  /-- CALL (R242). -/
  | call (c : CoreId) (w : Ins)
  /-- JMP (R242). -/
  | jmp (c : CoreId) (w : Ins)
  /-- JAL (R242). -/
  | jal (c : CoreId) (w : Ins)
  /-- END (R244). -/
  | endProgram (c : CoreId) (w : Ins)
  /-- PROGRAM_END (R244). -/
  | programEnd (c : CoreId)
  /-- TRAP (R242). -/
  | trap (c : CoreId) (w : Ins)
  /-- NOP (R242). -/
  | nop (c : CoreId) (w : Ins)
  /-- CSRR (R634). -/
  | csrr (c : CoreId) (w : Ins)
  /-- CSRW (R634). -/
  | csrw (c : CoreId) (w : Ins)
  /-- SEM_ADD (R245). -/
  | semAdd (c : CoreId) (w : Ins)
  /-- SEM_CAS (R245). -/
  | semCas (c : CoreId) (w : Ins)
  /-- SEM_SET (R245). -/
  | semSet (c : CoreId) (w : Ins)
  /-- WAIT (R247). -/
  | wait (c : CoreId) (w : Ins)
  /-- WAIT_SUCCESS (R247). -/
  | waitSuccess (c : CoreId)
  /-- WAIT_TIMEOUT (R247). -/
  | waitTimeout (c : CoreId)
  /-- FENCE (R249). -/
  | fence (c : CoreId) (w : Ins)
  /-- FENCE_COMPLETE (R249). -/
  | fenceComplete (c : CoreId)
  /-- ERET (R250). -/
  | eret (c : CoreId) (w : Ins)
  /-- CSWAP (R251). -/
  | cswap (c : CoreId) (w : Ins)
  /-- TRACE (R250). -/
  | trace (c : CoreId) (w : Ins)
  /-- WCOMMIT (R252). -/
  | wcommit (c : CoreId) (w : Ins)
  /-- WDOG (R250). -/
  | wdog (c : CoreId) (w : Ins)
  /-- IDLE (R250). -/
  | idle (c : CoreId) (w : Ins)
  /-- IDLE_WAKE (R250). -/
  | idleWake (c : CoreId)
  /-- IDLE_TIMEOUT (R250). -/
  | idleTimeout (c : CoreId)
  /-- TIMER_EXPIRY (R229). -/
  | timerExpiry (c : CoreId)
  /-- EXCEPTION_END (R255). -/
  | exceptionEnd (c : CoreId)
  /-- SARM (R276). -/
  | sarm (c : CoreId) (w : Ins)
  /-- STREAM_ARMED (R310). -/
  | streamArmed (c : CoreId) (h : Nat)
  /-- SREARM (R346). -/
  | srearm (c : CoreId) (w : Ins)
  /-- REARM_TAKE_EFFECT (R346). -/
  | rearmTakeEffect (c : CoreId) (h : Nat)
  /-- SLINK (R276). -/
  | slink (c : CoreId) (w : Ins)
  /-- SDRAIN (R276). -/
  | sdrain (c : CoreId) (w : Ins)
  /-- SPOS (R350). -/
  | spos (c : CoreId) (w : Ins)
  /-- LLOAD (R278). -/
  | lload (c : CoreId) (w : Ins)
  /-- LOAD_DONE (R127). -/
  | loadDone (c : CoreId)
  /-- LSWAP (R128). -/
  | lswap (c : CoreId) (w : Ins)
  /-- SWAP_TAKE_EFFECT (R128). -/
  | swapTakeEffect (c : CoreId)
  /-- LRUN (R279). -/
  | lrun (c : CoreId) (w : Ins)
  /-- RUN_START (R344). -/
  | runStart (c : CoreId)
  /-- ANCHOR_FIXED (R153). -/
  | anchorFixed (c : CoreId)
  /-- PASS_BROADCAST (R132). -/
  | passBroadcast (c : CoreId)
  /-- TALLY_UPDATE (R156). -/
  | tallyUpdate (c : CoreId)
  /-- OUTLIER_PRODUCT (R158). -/
  | outlierProduct (c : CoreId)
  /-- RUN_END (R283). -/
  | runEnd (c : CoreId)
  /-- LDRAIN (R284). -/
  | ldrain (c : CoreId) (w : Ins)
  /-- DRAIN_TILE (R162). -/
  | drainTile (c : CoreId)
  /-- CVT (R285). -/
  | cvt (c : CoreId) (w : Ins)
  /-- CVTIN (R285). -/
  | cvtin (c : CoreId) (w : Ins)
  /-- CVTOUT (R285). -/
  | cvtout (c : CoreId) (w : Ins)
  /-- CONVERSION_EXECUTE (R286). -/
  | conversionExecute (c : CoreId)
  /-- VLD (R294). -/
  | vld (c : CoreId) (w : Ins)
  /-- VST (R294). -/
  | vst (c : CoreId) (w : Ins)
  /-- VGET (R294). -/
  | vget (c : CoreId) (w : Ins)
  /-- VPUT (R294). -/
  | vput (c : CoreId) (w : Ins)
  /-- VBCAST (R291). -/
  | vbcast (c : CoreId) (w : Ins)
  /-- VEXT (R291). -/
  | vext (c : CoreId) (w : Ins)
  /-- VINS (R291). -/
  | vins (c : CoreId) (w : Ins)
  /-- VMOV (R291). -/
  | vmov (c : CoreId) (w : Ins)
  /-- VCVT (R291). -/
  | vcvt (c : CoreId) (w : Ins)
  /-- VADD (R290). -/
  | vadd (c : CoreId) (w : Ins)
  /-- VSUB (R290). -/
  | vsub (c : CoreId) (w : Ins)
  /-- VMUL (R290). -/
  | vmul (c : CoreId) (w : Ins)
  /-- VFMA (R290). -/
  | vfma (c : CoreId) (w : Ins)
  /-- VMIN (R292). -/
  | vmin (c : CoreId) (w : Ins)
  /-- VMAX (R292). -/
  | vmax (c : CoreId) (w : Ins)
  /-- VABS (R291). -/
  | vabs (c : CoreId) (w : Ins)
  /-- VNEG (R291). -/
  | vneg (c : CoreId) (w : Ins)
  /-- VRCP (R292). -/
  | vrcp (c : CoreId) (w : Ins)
  /-- VRSQRT (R292). -/
  | vrsqrt (c : CoreId) (w : Ins)
  /-- VEXP2 (R292). -/
  | vexp2 (c : CoreId) (w : Ins)
  /-- VLOG2 (R292). -/
  | vlog2 (c : CoreId) (w : Ins)
  /-- VCMP (R292). -/
  | vcmp (c : CoreId) (w : Ins)
  /-- VSEL (R291). -/
  | vsel (c : CoreId) (w : Ins)
  /-- VRED (R293). -/
  | vred (c : CoreId) (w : Ins)
  /-- VDIV (R292). -/
  | vdiv (c : CoreId) (w : Ins)
  /-- BSAVE (R296). -/
  | bsave (c : CoreId) (w : Ins)
  /-- SAVE_EXECUTE (R392). -/
  | saveExecute (c : CoreId)
  /-- BREST (R296). -/
  | brest (c : CoreId) (w : Ins)
  /-- RESTORE_EXECUTE (R393). -/
  | restoreExecute (c : CoreId)
  /-- UPD (R299). -/
  | upd (c : CoreId) (w : Ins)
  /-- UPDATE_PROGRAM (R303). -/
  | updateProgram (cl : ClusterId)
  /-- TILE_REQUEST (R323). -/
  | tileRequest (c : CoreId) (h : Nat)
  /-- TILE_STAGED (R323). -/
  | tileStaged (c : CoreId) (h tile : Nat)
  /-- FEEDER_REFILL (R327). -/
  | feederRefill (c : CoreId) (feeder : Nat)
  /-- TILE_TAKEN (R323). -/
  | tileTaken (c : CoreId) (h : Nat)
  /-- STREAM_WRITE_TILE (R324). -/
  | streamWriteTile (c : CoreId) (h : Nat)
  /-- WRITE_BUFFER_FREE (R324). -/
  | writeBufferFree (c : CoreId) (h : Nat)
  /-- CHAIN_GRANT (R341). -/
  | chainGrant (c : CoreId) (h : Nat)
  /-- CHAIN_TILE_SEND (R341). -/
  | chainTileSend (c : CoreId) (h : Nat)
  /-- CHAIN_ITEM_RECEIVE (R341). -/
  | chainItemReceive (c : CoreId) (h : Nat)
  /-- ORBIT_COPY (R336). -/
  | orbitCopy (c : CoreId) (h : Nat)
  /-- ORBIT_READY (R336). -/
  | orbitReady (c : CoreId) (h : Nat)
  /-- MEM_READ (R365). -/
  | memRead (src : Header) (ctl : W64) (rlen : Nat)
  /-- MEM_WRITE (R367). -/
  | memWrite (src : Header) (ctl : W64) (bytes : List Byte)
  /-- SET_BIT_WRITE (R366). -/
  | setBitWrite (src : Header) (ctl : W64) (bytes : List Byte)
  /-- BLOCK_ARRIVAL (R370). -/
  | blockArrival (addr : Nat) (fetches : List FetchErr)
  /-- PATROL_READ (R371). -/
  | patrolRead (die chan loc blk : Nat) (fetches : List FetchErr)
  /-- PAGE_REQ (R371). -/
  | pageReq (die chan : Nat) (v : W64)
  /-- PAGE_RETIRE (R372). -/
  | pageRetire (die chan : Nat)
  /-- PAGE_COPY_END (R372). -/
  | pageCopyEnd (die : Nat) (page : PageReads)
  /-- CHANNEL_RETIRE (R374). -/
  | channelRetire (die chan : Nat) (v : W64)
  /-- CHANNEL_TIMEOUT (R374). -/
  | channelTimeout (die chan : Nat)
  /-- CHANNEL_REMAPPED (R377). -/
  | channelRemapped (die chan : Nat)
  /-- XLAT_INV (R364). -/
  | xlatInv (v : W64)
  /-- XLAT_INV_DONE (R364). -/
  | xlatInvDone
  /-- ERR_CNT_READ (R381). -/
  | errCntRead (die chan : Nat)
  /-- PACK (R405). -/
  | pack (cl : ClusterId)
  /-- WIRE_ADD (R406). -/
  | wireAdd (cl : ClusterId)
  /-- UNPACK (R407). -/
  | unpack (cl : ClusterId)
  /-- WIRE_RING_WRITE (R403). -/
  | wireRingWrite (cl : ClusterId) (v : W64)
  /-- WIRE_STAT_READ (R403). -/
  | wireStatRead (cl : ClusterId)
  /-- CONFIG_REQUEST (R423). -/
  | configRequest (fn : Nat) (write : Bool) (off size : Nat) (v : W32)
  /-- BAR0_ACCESS (R427). -/
  | bar0Access (fn : Nat) (write : Bool) (off size : Nat) (v : W64) (poison : Bool)
  /-- APERTURE_READ (R428). -/
  | apertureRead (fn off size : Nat)
  /-- APERTURE_WRITE (R428). -/
  | apertureWrite (fn off : Nat) (bytes : List Byte) (poison : Bool)
  /-- FN_STAT_READ (R430). -/
  | fnStatRead (fn : Nat)
  /-- LOAD_QUEUE (R434). -/
  | loadQueue (fn idx : Nat) (ctx : HostRead)
  /-- STOP_QUEUE (R434). -/
  | stopQueue (fn idx : Nat)
  /-- STOP_QUEUE_DONE (R434). -/
  | stopQueueDone (fn : Nat)
  /-- LOAD_COMPLETION_RING (R434). -/
  | loadCompletionRing (fn idx : Nat) (ctx : HostRead)
  /-- STOP_COMPLETION_RING (R434). -/
  | stopCompletionRing (fn idx : Nat)
  /-- LOAD_EVENT_RING (R434). -/
  | loadEventRing (fn idx : Nat) (ctx : HostRead)
  /-- STOP_EVENT_RING (R434). -/
  | stopEventRing (fn idx : Nat)
  /-- SQ_DOORBELL (R441, R442): size 0 reads the doorbell, n + 16 × k writes n bytes from k bytes above it on. -/
  | sqDoorbell (fn idx size : Nat) (v : W64) (poison : Bool)
  /-- CQ_DOORBELL (R441, R442); size as for SQ_DOORBELL. -/
  | cqDoorbell (fn idx size : Nat) (v : W64) (poison : Bool)
  /-- EQ_DOORBELL (R441, R442); size as for SQ_DOORBELL. -/
  | eqDoorbell (fn idx size : Nat) (v : W64) (poison : Bool)
  /-- ENTRY_FETCH (R439). -/
  | entryFetch (cl : ClusterId) (heads : List HostRead)
  /-- LAUNCH (R437). -/
  | launch (fn queue slot : Nat)
  /-- LAUNCH_START (R437). -/
  | launchStart (fn queue slot : Nat)
  /-- LAUNCH_TIME_LIMIT (R440). -/
  | launchTimeLimit (fn queue slot : Nat)
  /-- LAUNCH_COMPLETE (R440). -/
  | launchComplete (fn queue slot : Nat)
  /-- COPY (R437). -/
  | copy (fn queue slot : Nat)
  /-- COPY_COMPLETE (R447). -/
  | copyComplete (fn queue slot : Nat) (src : HostRead)
  /-- FENCE_ENTRY (R437). -/
  | fenceEntry (fn queue slot : Nat)
  /-- SIGNAL (R437). -/
  | signal (fn queue slot : Nat)
  /-- WAIT_ENTRY (R437). -/
  | waitEntry (fn queue slot : Nat)
  /-- CHECKPOINT (R437). -/
  | checkpoint (fn queue slot : Nat)
  /-- BARRIER (R437). -/
  | barrier (fn queue slot : Nat)
  /-- BARRIER_TIMEOUT (R437). -/
  | barrierTimeout (fn queue slot : Nat)
  /-- INTERRUPT_MODERATION (R451). -/
  | interruptModeration (fn : Nat) (event : Bool) (ring : Nat)
  /-- RING_STALL (R448). -/
  | ringStall (fn ring : Nat)
  /-- FUNCTION_LEVEL_RESET (R453). -/
  | functionLevelReset (fn : Nat)
  /-- LINK_RETRAIN (R417). -/
  | linkRetrain (rate width : Nat) (flit : Bool)
  /-- FW_LOAD (R456). -/
  | fwLoad
  /-- FW_VERIFY_DONE (R456). -/
  | fwVerifyDone (flash : List Byte)
  /-- CORE_SWITCH (R457). -/
  | coreSwitch (k : Nat)
  /-- FW_COMMIT (R458). -/
  | fwCommit
  /-- FW_FLASH_DONE (R458). -/
  | fwFlashDone
  /-- FW_REVERT (R458). -/
  | fwRevert
  /-- PORT_ENABLE (R480). -/
  | portEnable (port : Nat) (enable : Bool)
  /-- PORT_FENCE (R486). -/
  | portFence (port : Nat)
  /-- UNFENCE (R480). -/
  | unfence (port : Nat)
  /-- CODEWORD (R465). -/
  | codeword (port : Nat) (symbolErrors : Nat) (pair : Bool) (pcount : Nat) (bytes : List Byte)
  /-- DATA_FLIT (R475). -/
  | dataFlit (port : Nat)
  /-- IDLE_FLIT (R466). -/
  | idleFlit (port : Nat)
  /-- NAK (R476). -/
  | nak (port : Nat)
  /-- CREDIT (R478). -/
  | credit (port : Nat)
  /-- TIME (R503). -/
  | time (port : Nat)
  /-- FENCE_FLIT (R486). -/
  | fenceFlit (port : Nat)
  /-- RESEND_TIMEOUT (R476). -/
  | resendTimeout (port : Nat)
  /-- STARVE_TIMEOUT (R479). -/
  | starveTimeout (port : Nat)
  /-- HELLO (R483). -/
  | hello (port : Nat) (msg : List Byte)
  /-- CERT (R483). -/
  | cert (port : Nat) (msg : List Byte)
  /-- PROOF (R482). -/
  | proof (port : Nat) (msg : List Byte) (verdict : IdentityVerdict)
  /-- IDENT_TIMEOUT (R482). -/
  | identTimeout (port : Nat)
  /-- PEER_PACKET_SEND (R469). -/
  | peerPacketSend (pkt : Packet)
  /-- PEER_PACKET_RECEIVE (R491). -/
  | peerPacketReceive (port : Nat)
  /-- LEDGER_TIMEOUT (R472). -/
  | ledgerTimeout (entry : Nat)
  /-- MSG_TX (R492). -/
  | msgTx (v : W64)
  /-- JOIN (R498). -/
  | join (seat : Nat)
  /-- LEAVE (R498). -/
  | leave (seat : Nat)
  /-- TABLE_LEAVE (R498). -/
  | tableLeave
  /-- REPORT (R498). -/
  | report (seat live : Nat) (suspect : Option Nat)
  /-- PROPOSE (R497). -/
  | propose (seat : Nat) (epoch : W16) (entries : List RosterEntry)
  /-- ACCEPT (R497). -/
  | accept (seat : Nat) (epoch : W16) (live : Nat)
  /-- COMMIT_MESSAGE (R497). -/
  | commitMessage (seat : Nat) (epoch : W16) (entries : List RosterEntry)
  /-- SYNC (R492). -/
  | sync (seat : Nat)
  /-- MERGE (R220). -/
  | merge (seat cluster : Nat) (words : List (Nat × W64)) (maxima : List (Nat × W32))
  /-- ROSTER_TIMEOUT (R497). -/
  | rosterTimeout
  /-- FORM_TIMEOUT (R498). -/
  | formTimeout
  /-- ROSTER_COMMIT (R488). -/
  | rosterCommit
  /-- TIME_REQUEST_TIMER (R503). -/
  | timeRequestTimer
  /-- PTM_RESULT (R613). -/
  | ptmResult (offset : Int)
  /-- LINK_CNT_READ (R506). -/
  | linkCntRead (port : Nat) (fec : Bool)
  /-- SLOT_LOSS (R515). -/
  | slotLoss (slot step : Nat) (sum crc : W32)
  /-- GO (R515). -/
  | go (record : List Byte)
  /-- CKPT_DONE (R521). -/
  | ckptDone (step slot : Nat) (crc : W32)
  /-- CKPT_STORE_WRITE (R522). -/
  | ckptStoreWrite (v : W64)
  /-- SURV_REG_WRITE (R513). -/
  | survRegWrite (v : W64)
  /-- ODDS_TIMER (R526). -/
  | oddsTimer
  /-- ODDS (R527). -/
  | odds (seat odds : Nat)
  /-- HALTED (R529). -/
  | halted (seat : Nat) (epoch : W16)
  /-- HALT_TIMEOUT (R528). -/
  | haltTimeout
  /-- RESTORE (R530). -/
  | restore (point mode : Nat) (current : W16)
  /-- FILL_DONE (R531). -/
  | fillDone (slot point : Nat)
  /-- RESUME (R532). -/
  | resume (point : Nat)
  /-- CKPT_REQ (R519). -/
  | ckptReq (step : Nat)
  /-- SEAT_TO_SEAT (R542). -/
  | seatToSeat
  /-- DEVICE_TO_STORE (R542). -/
  | deviceToStore (writeError : Bool)
  /-- STORE_TO_DEVICE (R542). -/
  | storeToDevice (src : HostRead)
  /-- CORE_PROBE_TIMEOUT (R537). -/
  | coreProbeTimeout (c : CoreId)
  /-- CORE_RELAUNCH (R538). -/
  | coreRelaunch (c : CoreId)
  /-- POWER_ON_RESET (R545). -/
  | powerOnReset (seat : BitVec 4) (feed : BitVec 2)
  /-- MODULE_RESET_COLD (R553). -/
  | moduleResetCold (w : Writer) (v : W64)
  /-- MODULE_RESET_WARM (R553). -/
  | moduleResetWarm (w : Writer) (v : W64)
  /-- PERST_ASSERT (R546). -/
  | perstAssert
  /-- PERST_PULSE_FILTERED (R546). -/
  | perstPulseFiltered
  /-- PERST_RELEASE (R546). -/
  | perstRelease
  /-- WATCHDOG_EXPIRY (R545). -/
  | watchdogExpiry (steward : Nat)
  /-- WATCHDOG (R554). -/
  | watchdog (cl : ClusterId)
  /-- CRIT_ERROR (R549). -/
  | critError (which : Nat) (correctable : Bool)
  /-- HOT_RESET (R552). -/
  | hotReset
  /-- RESET_RELEASE (R547). -/
  | resetRelease (boot : BootInput)
  /-- BLOCK_RESET_ASSERT (R558). -/
  | blockResetAssert (w : CoreId) (v : W64)
  /-- BLOCK_RESET_RELEASE (R560). -/
  | blockResetRelease (w : CoreId) (v : W64)
  /-- WRAPPER_ANSWER (R559). -/
  | wrapperAnswer (b : Block) (t : WrapTransfer)
  /-- OPT_PROGRAM (R566). -/
  | optProgram
  /-- OPT_PROGRAM_DONE (R566). -/
  | optProgramDone
  /-- OPT_STAT_READ (R565). -/
  | optStatRead
  /-- RST_STAT_READ (R576). -/
  | rstStatRead
  /-- RST_CAUSE_WRITE (R576). -/
  | rstCauseWrite (v : W64)
  /-- CALIBRATION_END (R587). -/
  | calibrationEnd (before after : Int)
  /-- POWER_CONTROL_PERIOD (R583). -/
  | powerControlPeriod (watts millivolts : Nat) (stretched : List IslandStretch)
  /-- SENSOR_READ (R590). -/
  | sensorRead (readings : List (Option Int))
  /-- THERMAL_LIMIT_STEP (R591). -/
  | thermalLimitStep
  /-- COOL_REQ_WRITE (R594). -/
  | coolReqWrite (v : W64)
  /-- RAIL_LEAVES_WINDOW (R28). -/
  | railLeavesWindow
  /-- INPUT_REMOVED (R581). -/
  | inputRemoved
  /-- I3C_READ (R599). -/
  | i3cRead (off len : Nat)
  /-- I3C_ADDRESS_ASSIGN (R599). -/
  | i3cAddressAssign (addr : BitVec 7)
  /-- TRACE_START (R623). -/
  | traceStart (part : Nat)
  /-- TRACE_STOP (R623). -/
  | traceStop (part : Nat)
  /-- TRACE_TRIGGER (R619). -/
  | traceTrigger (part : Nat)
  /-- BR_FLUSH (R616). -/
  | brFlush (part : Nat)
  /-- TRACE_RESUME (R620). -/
  | traceResume (part : Nat)
  /-- TRACE_DATA_READ (R624). -/
  | traceDataRead
  /-- DUMP (R626). -/
  | dump (writeError : Bool)
  /-- DUMP_RELEASE (R629). -/
  | dumpRelease (v : W64)
  /-- LEADER_WAIT_EXPIRY (R498). -/
  | leaderWaitExpiry
  /-- WAIT_ENTRY_TIMEOUT (R437). -/
  | waitEntryTimeout (fn queue slot : Nat)
  /-- COMPLETION_TIMEOUT (R446). -/
  | completionTimeout (fn queue slot : Nat) (addr : W64)
  /-- SPDM_REQUEST (R419). -/
  | spdmRequest (version : Nat) (secured : Bool) (request : List Byte)
  /-- ATS_INVALIDATE_REQUEST (R418). -/
  | atsInvalidateRequest (fn : Nat) (addr : W64) (size itag : Nat)
  deriving DecidableEq, Repr

end Sys2Proof
end

