-- ==== Sys2Proof/Config.lean ====
section
/-!
DEFINITION. What the manual leaves open: free values with no body, applied to the counter of free values that the
state holds, and the arithmetic of certificates and images that the manual names but does not define. Nothing can be
proved of their values.
-/
namespace Sys2Proof

/-- Free: whether the decoder takes a block with errors in six or more symbols for the codeword at distance zero or one from it, where
there is one (R369). -/
opaque Config.beyondTaken : Nat → Bool
/-- Free: the reading of an island cycle counter (R24, R609). -/
opaque Config.cycles : Nat → W64
/-- Free: byte i of poisoned data whose value the manual does not give (R277, R319, R320). -/
opaque Config.poisonData : Nat → Nat → BitVec 8
/-- A signature over P-521 verifies: key, digest, signature (R419, R571). -/
opaque Config.signatureOk : List Byte → List Byte → List Byte → Bool
/-- Free: the buddy's wire buffer that matches one of this seat's, by its address (R524). -/
opaque Config.matchingBuffer : Nat → W64
/-- Free: the eight bytes of the manifest that hold the serial number of twelve characters (R523, R568). -/
opaque Config.manifestSerial : W64
/-- Free: how firmware lays out the cluster state of R521 in a manifest, from the registers and bytes saved (R523). -/
opaque Config.stateBytes : List (Nat × Nat) → List Byte
/-- Free: the registers, by offset, and the bytes, by device address, that firmware reads out of such cluster state (R531). -/
opaque Config.savedState : List Byte → List (Nat × Nat) × List (Nat × Byte)
/-- Free: the 64 KiB pages of LPDDR that firmware uses as buffers: 0 for the cluster state it sends, 1 for that it receives, 2 + n for the
manifest of slot n, and 16 + s for the buffer of seat s that corresponds to 1 (R530, R533). -/
opaque Config.bufferPage : Nat → BitVec 27
/-- Free: where another seat keeps a tensor, by seat and tensor: its registry is not here (R509, R510, R530). -/
opaque Config.farBase : Nat → Nat → W64
/-- Free: a bit of the hot map (true) or the candidate map of a layer of another seat, by seat, step, layer and bit (R220). -/
opaque Config.farMap : Nat → Nat → Nat → Bool → Nat → Bool
/-- Free: whether the registry of the buddy seat holds the hosted entry of a shadow-class tensor (R512, R513). -/
opaque Config.hostedEntry : Nat → Nat → Bool
/-- Free: whether the slot lost has a changing tensor (bit 0) and a shadow-class one (bit 1), where its registry is not here (R529). -/
opaque Config.lostState : Nat → Nat → BitVec 2
/-- Free: the largest CURRENT among the other kept seats (R533). -/
opaque Config.keptEpoch : Nat → W16
/-- Free: how many steps after the next one a CHECKPOINT entry's step comes while that is not yet decided (R519). -/
opaque Config.ckptDelay : Nat → Nat
/-- The boot ROM's contents (R419). -/
opaque Config.bootRom : List Byte
/-- Fuse SERIAL, twelve characters (R568). -/
opaque Config.serial : List Byte
/-- Fuse DSN (R568). -/
opaque Config.dsn : W64
/-- Fuse ROOT_DIGEST (R568). -/
opaque Config.rootDigest : List Byte
/-- Free: how many pieces a copy that a function-level reset stops has moved (R453). -/
opaque Config.copyStop : Nat → Nat
/-- Fuse FWKEY[k] (R568). -/
opaque Config.fwKey : Nat → List Byte
/-- Fuse FWKEY_REVOKE (R568). -/
opaque Config.fwRevoke : BitVec 4
/-- Fuse FW_FLOOR (R568). -/
opaque Config.fwFloor : W32
/-- Free: how long a hot reset takes, in tenths of ns; the bound of R552 limits it. -/
opaque Config.hotTime : Nat → Nat
/-- Free: the bytes of an SPDM response that the SPDM specification lays out (R418). -/
opaque Config.spdmReply : Nat → List Byte → List Byte
/-- Free: a dword of configuration space whose contents the PCI Express specification lays out (R422). -/
opaque Config.configDword : Nat → Nat → W32
/-- Free: the event code of the record of R36 of a unit, by unit code, that the manual lists no code for. -/
opaque Config.poisonCode : Nat → W16
/-- Free: what byte 2 of POISON_CONSUMED holds for a poisoned seed item, an operand that R149 gives no code. -/
opaque Config.seedOperand : BitVec 8

/-- Free: the 32 random bytes of a HELLO (R483). -/
opaque Config.nonce : Nat → List Byte
/-- The certificate chain of SPDM slot 0 (R483). -/
opaque Config.certChain : List Byte
/-- The device's P-521 signature over bytes, r then s (R481, R483). -/
opaque Config.signature : List Byte → List Byte
/-- Free: the conversation number of a message that firmware sends (R492). -/
opaque Config.conversation : Nat → W16

/-- Free: by how many parts per million a seat changes its clock rate while it steers; R503 allows up to 50. -/
opaque Config.slewPpm : Nat

/-- Free: the cause that PEER_RETRY names for a packet discarded under R491 (R484, R506). -/
opaque Config.faultCause : Nat → BitVec 8
/-- Free: a byte of the option shadow for which the Default column names no value (R563, R564). -/
opaque Config.optDefault : Nat → BitVec 8
/-- Free: the verdict on a flash image whose writing a reset cut short (R458, R571). -/
opaque Config.tornImage : Nat → BitVec 2
/-- Free: how TJ_MAX and TMEM_MAX show a temperature below 0 °C (R589). -/
opaque Config.coldReading : Int → BitVec 8
/-- Where the boot ROM of steward 0 starts, and where its csr.evec points (R575). -/
opaque Config.romEntry : W64
/-- Free: a lowering of the island setpoints has reached their floor (R583). -/
opaque Config.atFloor : Nat → Bool
/-- Free: a byte of the I3C target that no register holds (R599). -/
opaque Config.i3cByte : Nat → BitVec 8

end Sys2Proof
end

