-- ==== Sys2Proof/Machine/Base.lean ====
section
/-!
DEFINITION. Bit fields (R6), little-endian bytes (R7), sparse tables in one canonical order, and small list helpers
that the whole machine uses.
-/
namespace Sys2Proof.Machine

/-- Bits [hi:lo] of a number, as an unsigned integer (R6, R15). -/
def bitsOf (v hi lo : Nat) : Nat := (v >>> lo) % 2 ^ (hi + 1 - lo)

/-- A number with its bits [hi:lo] replaced by the low bits of x. -/
def setBits (v hi lo x : Nat) : Nat :=
  v - (bitsOf v hi lo) <<< lo + (x % 2 ^ (hi + 1 - lo)) <<< lo

/-- Bit i of a number. -/
def bitAt (v i : Nat) : Bool := v.testBit i

/-- One bit as a number. -/
def ofBool (b : Bool) : Nat := if b then 1 else 0

/-- The w-bit value v read as two's complement (R15). -/
def sext (v w : Nat) : Int :=
  if v % 2 ^ w < 2 ^ (w - 1) then Int.ofNat (v % 2 ^ w) else Int.ofNat (v % 2 ^ w) - Int.ofNat (2 ^ w)

/-- An integer narrowed to w bits. -/
def wrapInt (x : Int) (w : Nat) : Nat := (x % Int.ofNat (2 ^ w)).toNat

/-- The n low bytes of v, least significant first (R7). -/
def leBytes (n v : Nat) : List Byte := (List.range n).map fun i => BitVec.ofNat 8 (v >>> (8 * i))

/-- The number that little-endian bytes spell (R7). -/
def leNat (bs : List Byte) : Nat := bs.foldr (fun b acc => b.toNat + 256 * acc) 0

/-- Bytes from to from + n − 1 of a list; bytes past its end read zero. -/
def slice (bs : List Byte) (from' n : Nat) : List Byte :=
  let t := (bs.drop from').take n
  t ++ List.replicate (n - t.length) 0

/-- The little-endian number in bytes from to from + n − 1. -/
def leAt (bs : List Byte) (from' n : Nat) : Nat := leNat ((bs.drop from').take n)

/-- x saturated at the largest n-bit value: counters that stop (R608). -/
def satBits (n x : Nat) : Nat := Nat.min x (2 ^ n - 1)

/-- A sparse table: pairs of a key and a value, keys strictly rising. -/
abbrev Table (α : Type) := List (Nat × α)

/-- The entry of a key. -/
def tfind {α : Type} (t : Table α) (k : Nat) : Option α :=
  match t with
  | [] => none
  | (j, v) :: r => if j = k then some v else tfind r k

/-- The entry of a key, or the value that an unlisted key reads as. -/
def tget {α : Type} (t : Table α) (d : α) (k : Nat) : α := (tfind t k).getD d

/-- A table with the entry of a key set. -/
def tput {α : Type} (t : Table α) (k : Nat) (v : α) : Table α :=
  match t with
  | [] => [(k, v)]
  | (j, w) :: r =>
    if k < j then (k, v) :: (j, w) :: r
    else if k = j then (k, v) :: r
    else (j, w) :: tput r k v

/-- A table without the entry of a key. -/
def tdel {α : Type} (t : Table α) (k : Nat) : Table α :=
  match t with
  | [] => []
  | (j, w) :: r => if j = k then r else (j, w) :: tdel r k

/-- Keys strictly rising. -/
def tsorted {α : Type} (t : Table α) : Bool :=
  match t with
  | [] => true
  | [_] => true
  | (j, _) :: (k, v) :: r => decide (j < k) && tsorted ((k, v) :: r)

/-- A set of numbers kept in rising order: insertion. -/
def sinsert (t : List Nat) (k : Nat) : List Nat :=
  match t with
  | [] => [k]
  | j :: r => if k < j then k :: j :: r else if k = j then j :: r else j :: sinsert r k

/-- A set without one number. -/
def sremove (t : List Nat) (k : Nat) : List Nat := t.filter (fun j => !(j == k))

/-- The least n with 2^n greater than v (the number of bits of v). -/
def bitLen (v : Nat) : Nat := if v = 0 then 0 else Nat.log2 v + 1

/-- Number of one-bits among the low n bits. -/
def popCount (n v : Nat) : Nat := (List.range n).foldl (fun a i => a + ofBool (v.testBit i)) 0

/-- A list with its element i replaced (unchanged where i is past the end). -/
def setAt {α : Type} (l : List α) (i : Nat) (v : α) : List α := l.set i v

/-- Integer power of two of an integer exponent, exact. -/
def pow2 (e : Int) : Rat := if e ≥ 0 then ((2 : Rat) ^ e.toNat) else 1 / ((2 : Rat) ^ (-e).toNat)

/-- Sixteen bytes of event detail from (byte offset, size, value) triples; other bytes are zero (R37). -/
def detail (fs : List (Nat × Nat × Nat)) : List Byte :=
  leBytes 16 (fs.foldl (fun a f => a + (f.2.2 % 2 ^ (8 * f.2.1)) <<< (8 * f.1)) 0)

/-- Sixteen bytes of event detail that begin with the bytes given. -/
def detailOf (bs : List Byte) : List Byte := slice bs 0 16

end Sys2Proof.Machine
end

