-- ==== Sys2Proof/Machine/Sha.lean ====
section
/-!
DEFINITION. SHA-512, which R419 names for measurements and R571 and R484 for signed messages. The rules name the function and FIPS
180-4 gives it (PRESUMED, log 158).
-/
namespace Sys2Proof.Machine

/-- The first 80 primes. -/
def shaPrimes : List Nat :=
  [2, 3, 5, 7, 11, 13, 17, 19, 23, 29, 31, 37, 41, 43, 47, 53, 59, 61, 67, 71, 73, 79, 83, 89, 97, 101, 103, 107, 109, 113, 127,
    131, 137, 139, 149, 151, 157, 163, 167, 173] ++
  [179, 181, 191, 193, 197, 199, 211, 223, 227, 229, 233, 239, 241, 251, 257, 263, 269, 271, 277, 281, 283, 293, 307, 311, 313, 317,
    331, 337, 347, 349, 353, 359, 367, 373, 379, 383, 389, 397, 401, 409]

/-- The greatest n below 2 ^ 68 with n ^ k ≤ x, bit by bit. -/
def shaRoot (k x : Nat) : Nat :=
  (List.range 68).foldl (fun n i => let m := n + 2 ^ (67 - i); if m ^ k ≤ x then m else n) 0

/-- The constants K: 64 fraction bits of the cube root of each prime. -/
def shaK : List W64 := shaPrimes.map fun p => BitVec.ofNat 64 (shaRoot 3 (p * 2 ^ 192))

/-- The initial hash value: 64 fraction bits of the square root of each of the first eight primes. -/
def shaInit : List W64 := (shaPrimes.take 8).map fun p => BitVec.ofNat 64 (shaRoot 2 (p * 2 ^ 128))

/-- The message with its padding: 0x80, zeros, and the length in bits in 16 bytes, most significant first. -/
def shaPad (bs : List Byte) : List Byte :=
  bs ++ (0x80 : Byte) :: List.replicate ((239 - bs.length % 128) % 128) 0 ++ (leBytes 16 (8 * bs.length)).reverse

/-- The 16 words of a block of 128 bytes, most significant byte first. -/
def shaWords (block : List Byte) : List W64 :=
  (List.range 16).map fun i => BitVec.ofNat 64 (leNat ((block.drop (8 * i)).take 8).reverse)

/-- The message schedule of a block: 80 words. -/
def shaSchedule (block : List Byte) : List W64 :=
  (List.range 64).foldl (fun w t =>
    let at' := fun k => w.getD (t + 16 - k) 0
    let s0 := fun x : W64 => x.rotateRight 1 ^^^ x.rotateRight 8 ^^^ x >>> 7
    let s1 := fun x : W64 => x.rotateRight 19 ^^^ x.rotateRight 61 ^^^ x >>> 6
    w ++ [s1 (at' 2) + at' 7 + s0 (at' 15) + at' 16]) (shaWords block)

/-- The eight working variables. -/
structure ShaVars where
  a : W64
  b : W64
  c : W64
  d : W64
  e : W64
  f : W64
  g : W64
  h : W64

/-- One round, with its constant and its schedule word. -/
def shaRound (v : ShaVars) (kw : W64 × W64) : ShaVars :=
  let s1 := v.e.rotateRight 14 ^^^ v.e.rotateRight 18 ^^^ v.e.rotateRight 41
  let s0 := v.a.rotateRight 28 ^^^ v.a.rotateRight 34 ^^^ v.a.rotateRight 39
  let t1 := v.h + s1 + ((v.e &&& v.f) ^^^ (~~~v.e &&& v.g)) + kw.1 + kw.2
  let t2 := s0 + ((v.a &&& v.b) ^^^ (v.a &&& v.c) ^^^ (v.b &&& v.c))
  ⟨t1 + t2, v.a, v.b, v.c, v.d + t1, v.e, v.f, v.g⟩

/-- The hash value after one more block. -/
def shaBlock (hs : List W64) (block : List Byte) : List W64 :=
  let at' := fun i => hs.getD i 0
  let v := (shaK.zip (shaSchedule block)).foldl shaRound ⟨at' 0, at' 1, at' 2, at' 3, at' 4, at' 5, at' 6, at' 7⟩
  (hs.zip [v.a, v.b, v.c, v.d, v.e, v.f, v.g, v.h]).map fun p => p.1 + p.2

/-- SHA-512 of a message: 64 bytes. -/
def sha512 (bs : List Byte) : List Byte :=
  let m := shaPad bs
  let hs := (List.range (m.length / 128)).foldl (fun hs i => shaBlock hs ((m.drop (128 * i)).take 128)) shaInit
  hs.flatMap fun x => (leBytes 8 x.toNat).reverse

end Sys2Proof.Machine
end

