-- ==== Sys2Proof/Hub.lean ====
section
/-!
DEFINITION. What the units of the hub die hold beside their registers, as plain data: survival, the host link and the firmware
loader, peer ports and the peer unit.
-/
namespace Sys2Proof.Machine

/-- A checkpoint being taken (R519 to R522): its step, the generation it writes, the slots that sent CKPT_DONE with
their manifest CRCs, and the tensors that an UPD of the step wrote (R521). -/
structure CkptRun where
  step : Nat
  gen : Nat
  done : List (Nat × W32)
  written : List Nat
  deriving DecidableEq, Repr

/-- A registry entry as firmware last read it (R510 to R513): tensor, owning slot, class in force and class assigned (0 none,
1 static, 2 changing, 3 shadow), base and length, and whether it breaks R510 or R512. -/
structure RegEntry where
  tensor : Nat
  slot : Nat
  cls : Nat
  assigned : Nat
  base : Nat
  bytes : Nat
  bad : Bool
  deriving DecidableEq, Repr

/-- A logical core still to be relaunched (R538, R539): the core whose part ended, the core it starts on (none: the lowest core
of its launch), the entry, its index in the launch, and PASS_STAT to copy. -/
structure Relaunch where
  failed : Nat
  target : Option Nat
  fn : Nat
  queue : Nat
  slot : Nat
  index : Nat
  passStat : W64
  deriving DecidableEq, Repr

/-- Survival (chapter 14). `log`: step-log records of 64 bytes, newest first, at most 1,024 (R516). `losses`: at the leader, the
slot losses received for the open step, as (step, slot, SUM, CRC) (R515, R516). `go`: the last step whose GO the seat holds.
`fresh`: the next GO makes a checkpoint step (R519, R522). `requests`: steps of CHECKPOINT entries recorded. `ckpt`: the
checkpoint under way. `odds`: the last odds of each seat with their time (R526). `counts`: what each second added to the
memory, link, parity and stretch counts, newest first (R526). `halted`: seats that sent HALTED since the halt, `haltAt`: when
it began (R528). `lost`: the slot being restored and the step it was lost in (R529); `lostNext`: slots whose restore waits (R535);
`forced`: the restore must be a rollback, and `voidLost`: it must where the slot has shadow-class tensors (R509, R529, R535). `restoring`: point and mode of the restore under
way, `filled`: slots that sent FILL_DONE, `expect`:
slot, SUM and CRC[15:0] that the replayed step is to show (R532). `verify`: the step to verify after RESUME. `rolled`: the restore was a rollback
(R534). `registry`: as last read (R513). `relaunch`: R538. `manifests`: manifests read back from the store, by slot (R530, R533). `moves`: mover commands that firmware has
still to post (R542). `voided`: shadow-class tensors of this seat whose copy to a new buddy is not complete (R509).
`current`: CURRENT as RESTORE gave it for a rollback (R533).
`parity`: parity failures of compute cores' chutes of the last millisecond: core, time, number (R537). -/
structure Surv where
  log : List (List Byte)
  losses : List (Nat × Nat × W32 × W32)
  go : Option Nat
  fresh : Bool
  requests : List Nat
  ckpt : Option CkptRun
  odds : List (Nat × Nat × Nat)
  counts : List (Nat × Nat × Nat × Nat)
  halted : List Nat
  haltAt : Nat
  lost : Option (Nat × Nat)
  restoring : Option (Nat × Nat)
  filled : List Nat
  expect : List (Nat × Nat × Nat)
  verify : Option Nat
  rolled : Bool
  registry : List RegEntry
  relaunch : List Relaunch
  manifests : List (Nat × List Byte)
  moves : List (List Byte)
  voided : List Nat
  current : Nat
  lostNext : List Nat
  forced : Bool
  voidLost : Bool
  parity : List (Nat × Nat × Nat)
  deriving DecidableEq, Repr

/-- A firmware image that has been verified (R570): version, entry offsets, the hub-store bank it stands in (R572) and its
bytes. -/
structure Image where
  version : Nat
  entryHub : Nat
  entryClu : Nat
  bank : Nat
  bytes : List Byte
  deriving DecidableEq, Repr

/-- The PCIe controller and the firmware loader beside their registers. `ready`: configuration requests complete normally
(R423). `busyUntil`: the table-clock time, in tenths of ns, until which a hot reset has them answered with RRS, and `linkReset`: a function
that it resets is not done (R552). `rate`, `width`, `flit`: the link as trained (R417). `rings`: doorbells that made a queue pending (R439). `image`:
the image running. `next`: the image verified and being switched to. `prior`: FW_STAT.STATE before the LOAD (R456).
`revert`: the sequence under way is a REVERT (R458). `flash`: the image last seen in or written to boot flash.
`masks`: layers whose mask was reported invalid, with the step (R400). `toHost`: operation tags for which POISON_TO_HOST
was emitted (R452). `doeIn`, `doeOut`: dwords written to the DOE mailbox, and those of the response still to be read (R418). -/
structure HostUnit where
  ready : Bool
  busyUntil : Nat
  linkReset : Bool
  rate : Nat
  width : Nat
  flit : Bool
  rings : Nat
  image : Option Image
  next : Option Image
  prior : Nat
  revert : Bool
  flash : List Byte
  masks : List (Nat × Nat)
  toHost : List Nat
  doeIn : List W32
  doeOut : List W32
  deriving DecidableEq, Repr

/-- A packet of a peer port: its virtual channel, the bytes of R470, the ledger entry it carries and when it began to
wait. -/
structure PeerPacket where
  vc : Nat
  bytes : List Byte
  entry : Option Nat
  since : Nat
  deriving DecidableEq, Repr

/-- A data flit in the re-send buffer (R474): its number, header bits but for ACK and credits, payload, and the ledger
entry that its acknowledgement completes. -/
structure TxFlit where
  seq : Nat
  hdr : Nat
  payload : List Byte
  entry : Option Nat
  deriving DecidableEq, Repr

/-- The certificate chain received so far: next fragment, COUNT, TOTAL, bytes (R483). -/
structure CertRun where
  next : Nat
  count : Nat
  total : Nat
  bytes : List Byte
  deriving DecidableEq, Repr

/-- A peer port beside its registers. `good`, `uncorr`: codewords in step, uncorrectable ones in a row (R465); `tag`: PAIR and
PCOUNT of the last good one; `half`: bytes 0 to 127 of flit 2 of the pair; received flits stand in the port's receive chute (R47). `expect`, `discarding`: R475. `parts`: the packet being received. `buffer`:
packets received (R478). `granted`: credits the partner holds, per VC; `returns`: credits to give back. `sent`: the next number;
`acked`: the last acknowledged (R474). `resend`: unacknowledged flits, oldest first. `progress`: when ACK last advanced.
`back`, `retries`: R476. `unsent`: flits to be sent, header bits and payload, that PEER_HOLD_IN or the transmit chute holds off. `credits`, `gotCredit`: credits held per VC and when one last came. `queue`: packets waiting to be
sent. `hold`, `holdAt`: PEER_HOLD_IN and when it was asserted; its pull-up asserts it (R67). `faults`: times of faults
(R484). `linkedAt`: R482. `sentHello`, `hello`, `cert`, `serial`: the identity exchange (R481 to R483). -/
structure Port where
  good : Nat
  uncorr : Nat
  tag : Option (Bool × Nat)
  half : Option (List Byte × Bool)
  expect : Nat
  discarding : Bool
  parts : Option PeerPacket
  buffer : List PeerPacket
  granted : List Nat
  returns : List Nat
  sent : Nat
  acked : Nat
  resend : List TxFlit
  progress : Nat
  back : Option Nat
  retries : Nat
  unsent : List (Nat × List Byte)
  credits : List Nat
  gotCredit : List Nat
  queue : List PeerPacket
  hold : Bool
  holdAt : Nat
  faults : List Nat
  linkedAt : Nat
  sentHello : List Byte
  hello : Option (List Byte)
  cert : Option CertRun
  serial : Option (List Byte)
  deriving DecidableEq, Repr

/-- A ledger entry (R472): the seat asked, the requester's header, when it was sent, the port it went out on, and whether
it is fully acknowledged there. -/
structure LedgerEntry where
  seat : Nat
  hdr : Header
  since : Nat
  port : Nat
  acked : Bool
  deriving DecidableEq, Repr

/-- A proxy entry (R471): the source seat and the request's header as it came. -/
structure ProxyEntry where
  seat : Nat
  hdr : Header
  deriving DecidableEq, Repr

/-- A proposal of the leader (R497): its epoch, entries, kept seats, the seats that have accepted, and when it was made. -/
structure Proposal where
  epoch : Nat
  entries : List W64
  kept : List Nat
  accepted : List Nat
  since : Nat
  deriving DecidableEq, Repr

/-- The peer unit and the roster firmware beside their registers. `waiting`: requests that wait for the ledger. `stale`,
`unreached`: (seat, epoch) and (tag, seat) already reported (R491, R501). `live`: the latest LIVE mask of each seat (R494).
`left`, `silent`, `unheard`, `joiners`: seats that sent LEAVE, did not accept, did not send HALTED in time (R528), sent JOIN. `waitUntil`: the leader's wait of 100 µs
(R498). `proposal`: R497. `proposer`: who sent the proposal pending here. `firstUp`: when the first port came up (R498).
`lastLive`, `lastLeader`: the LIVE mask reported and the leader computed last. `stepDue`: the next TIME answer steps the
clock (R504, R612). `refAt`: since when the reference or the clock has not jumped (R611). `steer`: the offset still to be steered away, in tenths of
ns, and `slew` the part of a tenth gathered for it, in millionths; `asked`: when TIME was last asked for (R503).
`ptmAt`, `ptmFirst`: times of the last and the first PTM result (R613). `merges`: the merges that wait, by the epoch that they are to
commit, and since when; `mergedFrom`: the seats whose MERGE has reached a cluster, as 256 × seat + cluster; `mergeHeld`: whether commits
wait for the roster to settle (R221). `slots`: W as formation fixed it
(R507). -/
structure PeerUnit where
  ledger : List (Nat × LedgerEntry)
  proxy : List (Nat × ProxyEntry)
  waiting : List Packet
  stale : List (Nat × Nat)
  unreached : List (Nat × Nat)
  live : List (Nat × Nat)
  left : List Nat
  silent : List Nat
  unheard : List Nat
  joiners : List Nat
  waitUntil : Option Nat
  proposal : Option Proposal
  proposer : Nat
  firstUp : Option Nat
  lastLive : Nat
  lastLeader : Nat
  stepDue : Bool
  refAt : Nat
  steer : Int
  slew : Nat
  asked : Option Nat
  ptmAt : Option Nat
  ptmFirst : Option Nat
  merges : List (Nat × Nat)
  mergedFrom : List Nat
  mergeHeld : Bool
  slots : Option Nat
  deriving DecidableEq, Repr

/-- The reset controller beside its registers. `held`: a cold or warm reset is taken and its boot sequence has not run
(R547); `cold`: that sequence is cold; `causes`: RST.CAUSE of the resets merged into it; `perst`: PERST_N is taken low; `byPerst`: a reset merged into it came from PERST_N (R550,
R551). `clusters`, `ports`: clusters and peer ports in block reset (R557). `report`: RESET_REPORT is still to be emitted, `stat`: RST.STAT at the end of the boot sequence (R577).
`optTorn`, `flashTorn`: a reset cut short the programming of the option block or the image (R458, R566). `optFlash`: the option
block last programmed (R566). `committed`: the image in boot flash is one that a COMMIT wrote (R458). -/
structure ResetUnit where
  held : Bool
  cold : Bool
  causes : Nat
  perst : Bool
  byPerst : Bool
  clusters : List Nat
  ports : List Nat
  report : Bool
  stat : W64
  optTorn : Bool
  flashTorn : Bool
  optFlash : Option (List Byte)
  committed : Bool
  deriving DecidableEq, Repr

/-- The power and thermal controller beside its registers, and the pins it drives. `input`: the 40 V input is present (R581).
`fault`: FAULT_N asserted (R556). `duty`: the duty of COOL_REQ; `dutySet`: DUTY was written since the reset (R594). `calib`:
the handshake is running (R586). `cap`: the cap that has taken effect (R585). `therm`: the thermal limit, W; `thermAt`: when it
last moved (R591). `hot`: the last reading met the trip condition; `trip`: a trip holds the reset (R592). `failed`: sensors
reported as failed (R593). `atFloor`: island setpoints are at their lowest; `parked`: clusters whose idle cores are parked,
last first; `turn`: the cluster parking starts from (R583). `watts`: the readings of the last 10 ms, newest first; `overSince`:
since when the bound of R584 is broken; `told`: CAP_UNMET was emitted. `addr`: the dynamic I3C address (R599). `led`: LED is lit (R555). -/
structure PowerUnit where
  input : Bool
  fault : Bool
  duty : Nat
  dutySet : Bool
  calib : Bool
  cap : Nat
  therm : Nat
  thermAt : Nat
  hot : Bool
  trip : Bool
  failed : List Nat
  atFloor : Bool
  parked : List Nat
  turn : Nat
  watts : List Nat
  overSince : Option Nat
  told : Bool
  addr : Option (BitVec 7)
  led : Bool
  deriving DecidableEq, Repr

end Sys2Proof.Machine
end

