-- ==== Sys2Proof/Machine/RegTable.lean ====
section
/-!
DEFINITION. The register region: where each block stands (R357), which registers a block holds (R358, R426, R430,
R631) and the fields of each register with their types, reset values and legal encodings (the Bits, Field, Type, Reset
tables of every chapter, R9, R10). A register is named by its offset in the region.
-/
namespace Sys2Proof.Machine

/-- The Type column (R9). Bits that no field covers are RV. -/
inductive FieldTy where
  | ro | rw | w1c | w1s | rc | wo
  deriving DecidableEq, Repr

/-- One field: its bits, type, reset value, and the ranges of legal encodings (empty: every encoding). -/
structure RegField where
  hi : Nat
  lo : Nat
  ty : FieldTy
  reset : Nat
  legal : List (Nat × Nat)
  deriving DecidableEq, Repr

/-- An RO field. -/
def fRo (hi lo reset : Nat) : RegField := ⟨hi, lo, .ro, reset, []⟩
/-- An RW field every encoding of which is legal. -/
def fRw (hi lo reset : Nat) : RegField := ⟨hi, lo, .rw, reset, []⟩
/-- An RW field with reserved encodings. -/
def fRwIn (hi lo reset : Nat) (legal : List (Nat × Nat)) : RegField := ⟨hi, lo, .rw, reset, legal⟩
/-- A WO field. -/
def fWo (hi lo : Nat) : RegField := ⟨hi, lo, .wo, 0, []⟩
/-- A WO field with reserved encodings. -/
def fWoIn (hi lo : Nat) (legal : List (Nat × Nat)) : RegField := ⟨hi, lo, .wo, 0, legal⟩
/-- An RC field. -/
def fRc (hi lo : Nat) : RegField := ⟨hi, lo, .rc, 0, []⟩
/-- A W1C field. -/
def fW1c (hi lo reset : Nat) : RegField := ⟨hi, lo, .w1c, reset, []⟩
/-- A W1S field. -/
def fW1s (hi lo : Nat) : RegField := ⟨hi, lo, .w1s, 0, []⟩

/-- Eight RW byte fields with the reset values given. -/
def fBytes (resets : List Nat) : List RegField :=
  (List.range 8).map fun b => fRw (8 * b + 7) (8 * b) (resets.getD b 0)

/-! ## Blocks (R357) -/

/-- Offset of a block in the register region. -/
def blockBase : Block → Nat
  | .hub => 0
  | .hubSec => 0x1_0000
  | .hubStore => 0x2_0000
  | .rst => 0x8_0000
  | .opt => 0xC_0000
  | .pci => 0x10_0000
  | .peer p => 0x20_0000 + p * 0x1_0000
  | .dbg => 0x30_0000
  | .memHub => 0x34_0000
  | .steward s => 0x38_0000 + s * 0x1000
  | .hubStop d => 0x3C_0000 + d * 0x1000
  | .die d => 0x40_0000 + d * 0x50_0000
  | .memGroup d g => 0x40_0000 + d * 0x50_0000 + 0x4_0000 + g * 0x1_0000
  | .cluster d c => 0x40_0000 + d * 0x50_0000 + 0x10_0000 + c * 0x4_0000
  | .core d c k => 0x40_0000 + d * 0x50_0000 + 0x10_0000 + c * 0x4_0000 + 0x1_0000 + k * 0x1000

/-- The block that holds an offset inside a compute die's block. -/
def dieBlockAt (d o : Nat) : Option (Block × Nat) :=
  if o < 0x4_0000 then some (.die d, o)
  else if o < 0x10_0000 then some (.memGroup d ((o - 0x4_0000) / 0x1_0000), (o - 0x4_0000) % 0x1_0000)
  else
    let c := (o - 0x10_0000) / 0x4_0000
    let p := (o - 0x10_0000) % 0x4_0000
    if p < 0x1_0000 then some (.cluster d c, p)
    else if (p - 0x1_0000) / 0x1000 < 0x23 then some (.core d c ((p - 0x1_0000) / 0x1000), (p - 0x1_0000) % 0x1000)
    else none

/-- The block that an offset of the region falls in, and the offset within it (R357). -/
def blockAt (o : Nat) : Option (Block × Nat) :=
  if o < 0x1_0000 then some (.hub, o)
  else if o < 0x2_0000 then some (.hubSec, o - 0x1_0000)
  else if o < 0x3_0000 then some (.hubStore, o - 0x2_0000)
  else if o < 0x8_0000 then none
  else if o < 0xC_0000 then some (.rst, o - 0x8_0000)
  else if o < 0x10_0000 then some (.opt, o - 0xC_0000)
  else if o < 0x20_0000 then some (.pci, o - 0x10_0000)
  else if o < 0x30_0000 then some (.peer ((o - 0x20_0000) / 0x1_0000), (o - 0x20_0000) % 0x1_0000)
  else if o < 0x34_0000 then some (.dbg, o - 0x30_0000)
  else if o < 0x38_0000 then some (.memHub, o - 0x34_0000)
  else if o < 0x38_4000 then some (.steward ((o - 0x38_0000) / 0x1000), (o - 0x38_0000) % 0x1000)
  else if o < 0x3C_0000 then none
  else if o < 0x3C_8000 then some (.hubStop ((o - 0x3C_0000) / 0x1000), (o - 0x3C_0000) % 0x1000)
  else if o < 0x40_0000 then none
  else if o < 0x2C0_0000 then dieBlockAt ((o - 0x40_0000) / 0x50_0000) ((o - 0x40_0000) % 0x50_0000)
  else none

/-! ## Registers by name -/

namespace Reg

/-- Offset in the region of a register of the HUB block. -/
def hub (o : Nat) : Nat := o
/-- HUB.PART_ID (R2). -/
def partId : Nat := 0x0000
/-- HUB.TIME (R613). -/
def time : Nat := 0x0008
/-- HUB.TIME_STAT (R613). -/
def timeStat : Nat := 0x0010
/-- HUB.WC_MERGE_TMO (R221). -/
def wcMergeTmo : Nat := 0x0040
/-- HUB.TRAIN_MASK (R400). -/
def trainMask : Nat := 0x0048
/-- HUB.SURV_CTL. -/
def survCtl : Nat := 0x0100
/-- HUB.SURV_STAT. -/
def survStat : Nat := 0x0108
/-- HUB.SURV_REG (R510). -/
def survReg : Nat := 0x0110
/-- HUB.STATE_BASE. -/
def stateBase : Nat := 0x0118
/-- HUB.CKPT_STORE. -/
def ckptStore : Nat := 0x0120
/-- HUB.CKPT_SIZE. -/
def ckptSize : Nat := 0x0128
/-- HUB.ODDS_W. -/
def oddsW : Nat := 0x0130
/-- HUB.ODDS_REF. -/
def oddsRef : Nat := 0x0138
/-- HUB.ODDS. -/
def odds : Nat := 0x0140
/-- HUB.MOVE_RING (R542). -/
def moveRing : Nat := 0x0148
/-- HUB.RESUME_CTL (R538). -/
def resumeCtl : Nat := 0x0150
/-- HUB.PWR_CAP (R585). -/
def pwrCap : Nat := 0x0200
/-- HUB.PWR_STAT. -/
def pwrStat : Nat := 0x0208
/-- HUB.THERM_CTL. -/
def thermCtl : Nat := 0x0210
/-- HUB.THERM_STAT. -/
def thermStat : Nat := 0x0218
/-- HUB.COOL_REQ (R594). -/
def coolReq : Nat := 0x0220
/-- RST.MODULE_RESET (R553). -/
def moduleReset : Nat := 0x8_0000
/-- RST.BLOCK_CMD (R557). -/
def blockCmd : Nat := 0x8_0008
/-- RST.CAUSE (R576). -/
def rstCause : Nat := 0x8_0010
/-- RST.STAT (R576). -/
def rstStat : Nat := 0x8_0018
/-- OPT.BLOCK[k] (R565). -/
def optBlock (k : Nat) : Nat := 0xC_0000 + 8 * k
/-- OPT.STAGE[k] (R565). -/
def optStage (k : Nat) : Nat := 0xC_0200 + 8 * k
/-- OPT.CTL. -/
def optCtl : Nat := 0xC_0400
/-- OPT.STAT. -/
def optStat : Nat := 0xC_0408
/-- A register of the function page of function f (R430). -/
def fn (f o : Nat) : Nat := 0x11_0000 + 0x1000 * f + o
/-- PCI.FN_STAT. -/
def fnStat (f : Nat) : Nat := fn f 0
/-- PCI.FN_CTL. -/
def fnCtl (f : Nat) : Nat := fn f 8
/-- PCI.FN_CMD. -/
def fnCmd (f : Nat) : Nat := fn f 0x10
/-- PCI.QTAB. -/
def qtab (f : Nat) : Nat := fn f 0x18
/-- PCI.CRTAB. -/
def crtab (f : Nat) : Nat := fn f 0x20
/-- PCI.ERTAB. -/
def ertab (f : Nat) : Nat := fn f 0x28
/-- PCI.AP_BASE. -/
def apBase (f : Nat) : Nat := fn f 0x30
/-- PCI.FN_CLMASK[f][j] (R431). -/
def fnClmask (f j : Nat) : Nat := 0x15_0000 + 16 * f + 8 * j
/-- PCI.FW_CTL (R455). -/
def fwCtl : Nat := 0x16_0000
/-- PCI.FW_ADDR. -/
def fwAddr : Nat := 0x16_0008
/-- PCI.FW_LEN. -/
def fwLen : Nat := 0x16_0010
/-- PCI.FW_STAT. -/
def fwStat : Nat := 0x16_0018
/-- A register of a peer port (R631). -/
def port (p o : Nat) : Nat := 0x20_0000 + p * 0x1_0000 + o
/-- PEER.PORT_CTL. -/
def portCtl (p : Nat) : Nat := port p 0
/-- PEER.PORT_STAT. -/
def portStat (p : Nat) : Nat := port p 8
/-- PEER.LINK_CNT. -/
def linkCnt (p : Nat) : Nat := port p 0x10
/-- PEER.FEC_CNT. -/
def fecCnt (p : Nat) : Nat := port p 0x18
/-- PEER.VC_CREDIT. -/
def vcCredit (p : Nat) : Nat := port p 0x20
/-- PEER.TABLE_STAT. -/
def tableStat : Nat := 0x20_1000
/-- PEER.TABLE_CTL. -/
def tableCtl : Nat := 0x20_1008
/-- PEER.ROSTER_CTL (R488). -/
def rosterCtl : Nat := 0x20_1010
/-- PEER.MSG_TX (R492). -/
def msgTx : Nat := 0x20_1018
/-- PEER.MSG_RX. -/
def msgRx : Nat := 0x20_1020
/-- PEER.ROUTE[d]. -/
def route (d : Nat) : Nat := 0x20_1100 + 8 * d
/-- PEER.ROSTER[s] (R487). -/
def roster (s : Nat) : Nat := 0x20_1200 + 8 * s
/-- PEER.ROSTER_NEXT[s]. -/
def rosterNext (s : Nat) : Nat := 0x20_1280 + 8 * s
/-- DBG.CNT[k] (R608). -/
def dbgCnt (k : Nat) : Nat := 0x30_0000 + 8 * k
/-- DBG.TRACE_CMD. -/
def traceCmd : Nat := 0x30_0100
/-- DBG.TRACE_PTR (R624). -/
def tracePtr : Nat := 0x30_0108
/-- DBG.TRACE_DATA. -/
def traceData : Nat := 0x30_0110
/-- DBG.DUMP_STAT (R629). -/
def dumpStat : Nat := 0x30_0118
/-- DBG.DUMP_CTL. -/
def dumpCtl : Nat := 0x30_0120
/-- DBG.TRACE_CTL[p] (R623). -/
def traceCtl (p : Nat) : Nat := 0x30_1000 + 16 * p
/-- DBG.TRACE_STAT[p]. -/
def traceStat (p : Nat) : Nat := 0x30_1008 + 16 * p
/-- MEM.CAP (R380). -/
def memCap : Nat := 0x34_0000
/-- MEM.XLAT_INV. -/
def xlatInv : Nat := 0x34_0008
/-- MEM.XLAT_ROOT[f]. -/
def xlatRoot (f : Nat) : Nat := 0x34_0100 + 8 * f
/-- A register of a memory channel: die, channel within the die, offset (R357, R631). -/
def chan (d j o : Nat) : Nat := blockBase (.memGroup d (j / 4)) + 0x1000 * (1 + j % 4) + o
/-- MEM.CHAN_STAT. -/
def chanStat (d j : Nat) : Nat := chan d j 0
/-- MEM.ERR_CNT. -/
def errCnt (d j : Nat) : Nat := chan d j 8
/-- MEM.RETIRE_CTL. -/
def retireCtl (d j : Nat) : Nat := chan d j 0x10
/-- MEM.CHAN_CTL. -/
def chanCtl (d j : Nat) : Nat := chan d j 0x18
/-- MEM.PAGE_REQ. -/
def pageReq (d j : Nat) : Nat := chan d j 0x20
/-- DIE.CNT[k] (R608). -/
def dieCnt (d k : Nat) : Nat := blockBase (.die d) + 0x100 + 8 * k
/-- A register of a cluster. -/
def clu (cl : ClusterId) (o : Nat) : Nat := blockBase (.cluster cl.die cl.cluster) + o
/-- CLU.WC_CTL (R216). -/
def wcCtl (cl : ClusterId) : Nat := clu cl 0
/-- CLU.WC_STAT. -/
def wcStat (cl : ClusterId) : Nat := clu cl 8
/-- CLU.WC_STEP. -/
def wcStep (cl : ClusterId) : Nat := clu cl 0x10
/-- CLU.WC_SEED. -/
def wcSeed (cl : ClusterId) : Nat := clu cl 0x18
/-- CLU.WC_EPOCH (R206). -/
def wcEpoch (cl : ClusterId) : Nat := clu cl 0x20
/-- CLU.WC_LADDER (R182). -/
def wcLadder (cl : ClusterId) : Nat := clu cl 0x28
/-- CLU.WC_ABANDON (R543). -/
def wcAbandon (cl : ClusterId) : Nat := clu cl 0x30
/-- CLU.ORBIT_CTL (R334). -/
def orbitCtl (cl : ClusterId) : Nat := clu cl 0x38
/-- CLU.ORBIT_RING[j]. -/
def orbitRing (cl : ClusterId) (j : Nat) : Nat := clu cl (0x40 + 8 * j)
/-- CLU.WIRE_RING (R403). -/
def wireRing (cl : ClusterId) : Nat := clu cl 0x60
/-- CLU.WIRE_TAIL. -/
def wireTail (cl : ClusterId) : Nat := clu cl 0x68
/-- CLU.WIRE_STAT. -/
def wireStat (cl : ClusterId) : Nat := clu cl 0x70
/-- CLU.CORES_STAT. -/
def coresStat (cl : ClusterId) : Nat := clu cl 0x78
/-- CLU.TSCALE_PIN[j]. -/
def tscalePin (cl : ClusterId) (j : Nat) : Nat := clu cl (0x80 + 8 * j)
/-- CLU.WC_RULE[k] (R200). -/
def wcRule (cl : ClusterId) (k : Nat) : Nat := clu cl (0x100 + 8 * k)
/-- CLU.WC_RULE_TH[k]. -/
def wcRuleTh (cl : ClusterId) (k : Nat) : Nat := clu cl (0x200 + 8 * k)
/-- CLU.CNT[k] (R608). -/
def cluCnt (cl : ClusterId) (k : Nat) : Nat := clu cl (0x300 + 8 * k)
/-- CLU.CB_DESC[n] (R92). -/
def cbDesc (cl : ClusterId) (n : Nat) : Nat := clu cl (0x400 + 8 * n)
/-- CLU.TSCALE_ENT[i] (R101). -/
def tscaleEnt (cl : ClusterId) (i : Nat) : Nat := clu cl (0x800 + 8 * i)
/-- CLU.TSCALE_PRIOR[i] (R214). -/
def tscalePrior (cl : ClusterId) (i : Nat) : Nat := clu cl (0x1000 + 8 * i)
/-- CLU.TSCALE_NEXT[i]. -/
def tscaleNext (cl : ClusterId) (i : Nat) : Nat := clu cl (0x1800 + 8 * i)
/-- CLU.TSCALE_MAX[i]. -/
def tscaleMax (cl : ClusterId) (i : Nat) : Nat := clu cl (0x2000 + 8 * i)
/-- Word w (0 or 1) of CLU.LAYER_DESC[n] (R185). -/
def layerDesc (cl : ClusterId) (n w : Nat) : Nat := clu cl (0x3000 + 16 * n + 8 * w)
/-- Word w of CLU.LAYER_PRIOR[n]. -/
def layerPrior (cl : ClusterId) (n w : Nat) : Nat := clu cl (0x4000 + 16 * n + 8 * w)
/-- Word w of CLU.LAYER_NEXT[n]. -/
def layerNext (cl : ClusterId) (n w : Nat) : Nat := clu cl (0x5000 + 16 * n + 8 * w)
/-- The 8-byte word that holds CLU.CB_ENTRY[n][k] (R92, R631). -/
def cbEntry (cl : ClusterId) (n k : Nat) : Nat := clu cl (0x6000 + 512 * n + 8 * (k / 4))
/-- Offset of a core's register block. -/
def coreBase (c : CoreId) : Nat :=
  if c.die = 8 then blockBase (.steward c.core) else blockBase (.core c.die c.cluster c.core)
/-- A register of a core. -/
def core (c : CoreId) (o : Nat) : Nat := coreBase c + o
/-- CORE.LAT_STAT (R148). -/
def latStat (c : CoreId) : Nat := core c 0
/-- CORE.LAT_CNT_A. -/
def latCntA (c : CoreId) : Nat := core c 8
/-- CORE.LAT_CNT_B. -/
def latCntB (c : CoreId) : Nat := core c 0x10
/-- CORE.LAT_CNT_C. -/
def latCntC (c : CoreId) : Nat := core c 0x18
/-- CORE.TALLY_CNT (R179). -/
def tallyCnt (c : CoreId) : Nat := core c 0x20
/-- CORE.TALLY_STAT. -/
def tallyStat (c : CoreId) : Nat := core c 0x28
/-- CORE.VEC_CNT (R295). -/
def vecCnt (c : CoreId) : Nat := core c 0x30
/-- CORE.STREAM_STAT (R349). -/
def streamStat (c : CoreId) : Nat := core c 0x38
/-- CORE.PASS_STAT (R386). -/
def passStat (c : CoreId) : Nat := core c 0x40
/-- CORE.STALL_CNT[k] (R332). -/
def stallCnt (c : CoreId) (k : Nat) : Nat := core c (0x80 + 8 * k)
/-- Where the chute registers of a block begin (R358). -/
def chuteOff : Block → Nat
  | .cluster _ _ => 0xF000
  | _ => 0x800
/-- CHUTE_CTL of a chute (R358). -/
def chuteCtl (ch : ChuteId) : Nat := blockBase ch.block + chuteOff ch.block + 16 * ch.index
/-- CHUTE_STAT of a chute. -/
def chuteStat (ch : ChuteId) : Nat := chuteCtl ch + 8

end Reg

/-! ## Chutes of a block (R54, R358) -/

/-- The depth in wide words of the chute of an index in a block, where there is one (R54, R358). -/
def chuteDepth (b : Block) (i : Nat) : Option Nat :=
  match b with
  | .core _ _ k =>
    if k = 0x22 then (if 65 ≤ i ∧ i < 73 then some 8 else none)
    else if i < 64 then some 16
    else if i = 64 then some 32
    else if i < 73 then some 8
    else none
  | .steward _ => if 65 ≤ i ∧ i < 73 then some 8 else none
  | .cluster _ _ => if i < 20 then some 16 else if i < 28 then some 32 else none
  | .die _ => if i < 8 then some 64 else if i < 24 then some 32 else none
  | .hubStop _ => if i < 8 then some 64 else none
  | .memGroup _ _ => if i < 4 then some 16 else if i < 8 then some 32 else none
  | .pci => if i < 8 then some 64 else none
  | .hubSec => if i < 8 then some 8 else none
  | .hubStore => if i < 8 then some 32 else none
  | .peer _ => if i = 0 then some 64 else if i = 1 then some 32 else none
  | _ => none

/-- Is a block of R357 present in the module (R16)? -/
def blockPresent : Block → Bool
  | .peer p => decide (p < 16)
  | .steward s => decide (s < 4)
  | .hubStop d => decide (d < 8)
  | .die d => decide (d < 8)
  | .memGroup d g => decide (d < 8) && decide (g < 12)
  | .cluster d c => decide (d < 8) && decide (c < 16)
  | .core d c k => decide (d < 8) && decide (c < 16) && decide (k < 0x23)
  | _ => true

/-- The module holds this chute. -/
def chutePresent (ch : ChuteId) : Bool := blockPresent ch.block && (chuteDepth ch.block ch.index).isSome

/-! ## Fields of each register -/

/-- CHUTE_CTL (R78; PEER.RX_CHUTE_CTL has the reset values of R79). -/
def chuteCtlFields (rx : Bool) : List RegField :=
  [fRw 5 0 0, fRwIn 10 8 (if rx then 2 else 4) [(1, 7)], fRwIn 14 12 (if rx then 1 else 2) [(0, 6)],
   fRw 17 16 (if rx then 1 else 0), fWo 24 24]

/-- CHUTE_STAT (R80). -/
def chuteStatFields (rx : Bool) : List RegField :=
  [fRo 6 0 0, fRo 7 7 (if rx then 1 else 0), fRo 8 8 0, fRc 31 16, fRc 47 32, fRc 55 48]

/-- ISL_CYCLE at offset o, ISL_STRETCH at o + 8 (R609). -/
def islandFields (o off : Nat) : Option (List RegField) :=
  if off = o then some [fRo 63 0 0] else if off = o + 8 then some [fRw 31 0 0] else none

/-- A 48-bit RW counter (R608). -/
def cnt48 : List RegField := [fRw 47 0 0]

/-- HUB registers (R2, R221, R400, chapters 14, 16, 17). -/
def hubFields (off : Nat) : Option (List RegField) :=
  match off with
  | 0x0000 => some [fRo 63 48 0x1FD4, fRo 47 32 0x5A70, fRo 31 24 0x8C, fRo 23 20 0xB, fRo 19 16 0, fRo 15 8 8,
      fRo 7 0 0x10]
  | 0x0008 => some [fRo 63 0 0]
  | 0x0010 => some [fRo 3 0 0xF, fRo 4 4 0, fRo 5 5 0, fRo 39 8 0, fRo 55 40 0xFFFF]
  | 0x0040 => some [fRw 31 0 0x7D0]
  | 0x0048 => some [fRw 0 0 0, fRw 51 11 0]
  | 0x0100 => some [fRw 0 0 0, fRwIn 3 1 1 [(1, 7)], fRwIn 7 4 2 [(1, 7)], fRw 15 8 0, fRw 31 16 1, fRw 47 32 0x40,
      fRw 63 48 0]
  | 0x0108 => some [fRo 2 0 0, fRo 3 3 0, fRo 4 4 0, fRo 5 5 0, fRo 63 32 0]
  | 0x0110 => some [fRw 0 0 0, fRw 51 12 0]
  | 0x0118 => some [fRw 51 21 0]
  | 0x0120 => some [fRw 0 0 0, fRw 63 12 0]
  | 0x0128 => some [fRw 31 0 0, fRwIn 39 32 0x40 [(1, 255)]]
  | 0x0130 => some [fRw 3 0 4, fRw 7 4 4, fRw 11 8 2, fRw 15 12 1, fRw 19 16 4, fRw 23 20 2]
  | 0x0138 => some [fRw 4 0 6, fRw 9 5 0xA, fRw 14 10 4, fRw 19 15 0x10, fRw 27 20 0xA]
  | 0x0140 => some [fRo 15 0 0, fRo 31 16 0, fRo 41 32 0x258]
  | 0x0148 => some [fRw 0 0 0, fRwIn 3 1 0 [(0, 4)], fRw 25 8 0, fRw 38 32 0, fRo 46 40 0, fRc 63 48]
  | 0x0150 => some [fRw 0 0 0, fRw 63 32 0]
  | 0x0200 => some [fRwIn 15 0 0 [(0, 0), (0x190, 0xFFFF)]]
  | 0x0208 => some [fRo 15 0 0x640, fRo 31 16 0, fRo 47 32 0, fRo 60 48 0]
  | 0x0210 => some [fRwIn 7 0 0x5F [(70, 105)], fRwIn 15 8 0x55 [(70, 95)], fRwIn 19 16 3 [(1, 15)]]
  | 0x0218 => some [fRo 1 0 0, fRo 3 2 0, fRo 4 4 0, fRo 5 5 0, fRo 6 6 0, fRo 15 8 0, fRo 23 16 0, fRo 31 24 0,
      fRo 39 32 0, fRo 47 40 0]
  | 0x0220 => some [fRwIn 7 0 0x64 [(0, 100)], fRw 8 8 0]
  | _ => none

/-- RST registers (R553, R557, R576). -/
def rstFields (off : Nat) : Option (List RegField) :=
  match off with
  | 0x00 => some [fWo 15 0, fWo 16 16]
  | 0x08 => some [fWo 1 0, fWo 5 2, fWo 9 6, fWo 15 10, fWo 16 16, fWo 17 17, fRo 62 62 0, fRo 63 63 0]
  | 0x10 => some [fW1c 0 0 1, fW1c 1 1 0, fW1c 2 2 0, fW1c 3 3 0, fW1c 4 4 0, fW1c 5 5 0, fW1c 6 6 0, fW1c 7 7 0,
      fRo 8 8 1, fRo 11 9 0, fRo 13 12 0, fRo 47 32 0]
  | 0x18 => some [fRo 2 0 0, fRo 3 3 0, fRo 5 4 0, fRo 7 6 0, fRc 15 8, fRc 31 16]
  | _ => none

/-- OPT registers (R565). -/
def optFields (off : Nat) : Option (List RegField) :=
  if off % 8 = 0 ∧ off < 0x200 then some [fRo 63 0 0]
  else if off % 8 = 0 ∧ off < 0x400 then some [fRw 63 0 0]
  else if off = 0x400 then some [fWo 0 0]
  else if off = 0x408 then some [fRo 0 0 0, fRo 1 1 0, fRc 2 2]
  else none

/-- A function page (R430). A VF's write of AP_BASE whose bits [51:48] are not zero writes a reserved value, so R12 keeps the whole BASE
(DESIGN CHOICE, log 216). -/
def fnPageFields (f off : Nat) : Option (List RegField) :=
  match off with
  | 0x00 => some [fRo 0 0 0, fRo 1 1 0, fRo 2 2 0, fRc 31 16, fRc 47 32]
  | 0x08 => some [fRwIn 31 0 0x2710 [(1, 0xFFFF_FFFF)]]
  | 0x10 => some [fWoIn 2 0 [(1, 6)], fWo 27 16, fRo 62 62 0, fRo 63 63 0]
  | 0x18 => some [fRw 63 12 0]
  | 0x20 => some [fRw 63 12 0]
  | 0x28 => some [fRw 63 12 0]
  | 0x30 => some [if f = 0 then fRw 51 36 0 else fRwIn 51 36 0 [(0, 0xFFF)]]
  | _ => none

/-- PCI registers (R431, R455). The MSI-X table and PBA (R426) are in the function's own state. -/
def pciFields (off : Nat) : Option (List RegField) :=
  if off < 0x10 then islandFields 0 off
  else if 0x1_0000 ≤ off ∧ off < 0x5_0000 then fnPageFields ((off - 0x1_0000) / 0x1000) ((off - 0x1_0000) % 0x1000)
  else if 0x5_0000 ≤ off ∧ off < 0x5_0400 ∧ off % 8 = 0 then
    some [fRw 63 0 (if off < 0x5_0010 then 0xFFFF_FFFF_FFFF_FFFF else 0)]
  else match off with
  | 0x6_0000 => some [fWo 0 0, fWo 1 1, fWo 2 2]
  | 0x6_0008 => some [fRw 51 12 0]
  | 0x6_0010 => some [fRwIn 25 0 0 [(1, 0x200_0000)]]
  | 0x6_0018 => some [fRo 2 0 0, fRo 15 8 0, fRo 63 32 0]
  | _ => none

/-- A roster entry (R487); STATE reserved above 0b100. -/
def rosterFields : List RegField :=
  [fRwIn 2 0 0 [(0, 4)], fRw 5 4 0, fRw 7 6 0, fRw 16 8 0, fRw 23 20 0xF, fRw 55 24 0, fRw 63 56 0]

/-- PEER registers of one port; the module-wide ones stand in the block of port 0 (chapter 13). -/
def peerFields (p off : Nat) : Option (List RegField) :=
  match off with
  | 0x00 => some [fRw 0 0 0, fW1s 1 1, fWo 2 2, fRwIn 11 8 8 [(1, 15)], fRwIn 31 16 0x14 [(1, 0xFFFF)],
      fRwIn 47 32 0x7D0 [(1, 0xFFFF)], fRwIn 55 48 0x10 [(1, 255)], fRwIn 63 56 0xA [(1, 255)]]
  | 0x08 => some [fRo 2 0 0, fRo 7 4 0xF, fRo 11 8 0, fRo 23 16 0]
  | 0x10 => some [fRc 15 0, fRc 31 16, fRc 47 32, fRc 63 48]
  | 0x18 => some [fRc 47 0]
  | 0x20 => some (fBytes [0x10, 0x10, 0x10, 0x10, 0x40, 0x40, 0x20, 0x20])
  | 0x28 => some [fRo 63 0 0]
  | 0x30 => some [fRw 31 0 0]
  | _ =>
    if p = 0 then
      match off with
      | 0x1000 => some [fRo 3 0 0, fRo 5 4 0, fRo 11 8 0xF, fRo 13 12 0]
      | 0x1008 => some [fRwIn 3 0 9 [(2, 9)], fRw 7 4 8, fW1s 8 8, fRw 31 16 0x7D0, fRw 47 32 0x1388, fRw 55 48 0x32,
          fRwIn 63 56 0xA [(1, 255)]]
      | 0x1010 => some [fRo 15 0 0, fRo 31 16 0, fRw 47 32 0, fRw 48 48 0, fWo 49 49]
      | 0x1018 => some [fWoIn 3 0 [(0, 8)], fWo 5 4, fWoIn 17 8 [(4, 1000)], fWo 42 20, fRo 63 63 0]
      | 0x1020 => some [fRw 9 0 0, fRo 25 16 0]
      | _ =>
        if 0x1100 ≤ off ∧ off < 0x1148 ∧ off % 8 = 0 then some [fRo 1 0 3, fRo 5 2 0xF, fRo 6 6 0, fRo 7 7 0]
        else if 0x1200 ≤ off ∧ off < 0x1248 ∧ off % 8 = 0 then some rosterFields
        else if 0x1280 ≤ off ∧ off < 0x12C8 ∧ off % 8 = 0 then some rosterFields
        else none
    else none

/-- DBG registers (chapter 17). TRACE_PTR has no Reset column (DESIGN CHOICE, log 4). -/
def dbgFields (off : Nat) : Option (List RegField) :=
  if off < 0x40 ∧ off % 8 = 0 then some cnt48
  else match off with
  | 0x100 => some [fWoIn 7 0 [(0, 131), (255, 255)], fWoIn 9 8 [(0, 2)]]
  | 0x108 => some [fRw 7 0 0, fRw 27 8 0]
  | 0x110 => some [fRo 63 0 0]
  | 0x118 => some [fRo 0 0 0, fRo 2 1 0, fRo 4 3 0, fRo 5 5 0]
  | 0x120 => some [fW1s 1 0]
  | _ =>
    if 0x1000 ≤ off ∧ off < 0x1000 + 16 * 132 then
      if off % 16 = 0 then some [fRwIn 1 0 1 [(0, 2)], fRw 2 2 0, fRw 3 3 1, fRw 31 8 0x400, fRw 47 32 0,
        fRwIn 55 48 4 [(1, 255)]]
      else if off % 16 = 8 then some [fRo 0 0 0, fRo 1 1 0, fRo 2 2 0, fRo 3 3 0, fRo 34 8 0, fRo 63 40 0]
      else none
    else none

/-- MEM registers of the hub (R380). -/
def memHubFields (off : Nat) : Option (List RegField) :=
  if off = 0 then some [fRo 4 0 0, fRo 6 5 0, fRo 7 7 0, fRo 59 16 0xB_2FFF_F800]
  else if off = 8 then some [fWo 5 0, fWo 6 6, fWo 34 8, fRo 63 63 0]
  else if 0x100 ≤ off ∧ off < 0x300 ∧ off % 8 = 0 then some [fRw 0 0 0, fRw 51 21 0]
  else none

/-- MEM registers of a channel (R381). -/
def chanFields (off : Nat) : Option (List RegField) :=
  match off with
  | 0x00 => some [fRo 1 0 1, fRo 2 2 0, fRo 22 8 0]
  | 0x08 => some [fRc 15 0, fRc 31 16, fRc 47 32]
  | 0x10 => some [fRw 3 0 4, fRwIn 15 8 0x18 [(1, 255)], fRw 23 16 0x18]
  | 0x18 => some [fWo 0 0]
  | 0x20 => some [fWoIn 22 0 [(0, 7864319)], fRo 63 63 0]
  | _ => none

/-- A memory-controller group: island counters, then four channel blocks. -/
def memGroupFields (off : Nat) : Option (List RegField) :=
  if off < 0x10 then islandFields 0 off
  else if 0x1000 ≤ off ∧ off < 0x5000 then chanFields (off % 0x1000)
  else none

/-- DIE registers of a compute die (R608, R609). -/
def dieFields (off : Nat) : Option (List RegField) :=
  if off < 0x10 then islandFields 0 off
  else if 0x100 ≤ off ∧ off < 0x140 ∧ off % 8 = 0 then some cnt48
  else none

/-- A tensor-scale entry; the prior and next generations have the same layout (R101, R214). -/
def tscaleFields (rw : Bool) : List RegField :=
  let f := fun (hi lo r : Nat) (l : List (Nat × Nat)) => if rw then fRwIn hi lo r l else fRo hi lo r
  [f 31 0 0x3F80_0000 [(0x0080_0000, 0x7F7F_FFFF)], f 36 32 0xF [], f 37 37 0 [], f 38 38 0 []]

/-- Word 0 of a layer descriptor (R185). -/
def layerFields0 (rw : Bool) : List RegField :=
  let f := fun (hi lo r : Nat) (l : List (Nat × Nat)) => if rw then fRwIn hi lo r l else fRo hi lo r
  [f 2 0 3 [], f 6 4 3 [], f 10 8 0 [], f 14 12 7 [], f 22 16 0 [(0, 64)], f 23 23 0 [], f 28 24 0 [], f 29 29 0 [],
   f 30 30 0 [], f 31 31 0 [], f 36 32 0x1F [(0, 24), (31, 31)], f 37 37 0 [], f 43 40 0 [], f 55 48 0 [], f 63 56 0 []]

/-- Word 1 of a layer descriptor (R185). -/
def layerFields1 (rw : Bool) : List RegField :=
  let f := fun (hi lo r : Nat) => if rw then fRw hi lo r else fRo hi lo r
  [f 43 0 0, f 63 44 0]

/-- A layer descriptor by offset in its run of sixteen-byte entries. -/
def layerFields (rw : Bool) (o : Nat) : Option (List RegField) :=
  if o % 16 = 0 then some (layerFields0 rw) else if o % 16 = 8 then some (layerFields1 rw) else none

/-- CLU.WC_RULE[k] (R200); FIELD and ACTION encodings are those of the field and action tables. -/
def wcRuleFields : List RegField :=
  [fRw 0 0 0, fRw 1 1 0, fRw 2 2 0, fRwIn 8 4 0 [(0, 0x11)], fRw 12 9 0, fRwIn 19 16 1 [(1, 15)],
   fRwIn 23 20 0 [(0, 11)], fRwIn 26 24 1 [(1, 7)], fRw 39 32 0, fRw 47 40 0xFF]

/-- Registers of a cluster (chapters 03, 06, 09, 11, 14, 17). CB_ENTRY's X resets read zero (DESIGN CHOICE, log 4). -/
def cluFields (off : Nat) : Option (List RegField) :=
  if off % 8 ≠ 0 then none
  else if off < 0x40 then
    match off with
    | 0x00 => some [fRw 0 0 0, fWo 1 1, fWo 2 2]
    | 0x08 => some [fRo 1 0 0, fRo 2 2 1]
    | 0x10 => some [fRw 31 0 0]
    | 0x18 => some [fRw 63 0 0]
    | 0x20 => some [fRo 15 0 0, fRo 31 16 0xFFFF, fRw 47 32 1]
    | 0x28 => some (fBytes [1, 2, 3, 4, 5, 8, 9, 0])
    | 0x30 => some [fWo 0 0]
    | _ => some [fRwIn 5 0 0x20 [(2, 32)]]
  else if off < 0x60 then some (fBytes ((List.range 8).map fun b => (off - 0x40) + b))
  else if off < 0x80 then
    match off with
    | 0x60 => some [fRw 0 0 0, fRwIn 3 1 0 [(0, 4)], fRw 22 8 0]
    | 0x68 => some [fRw 6 0 0]
    | 0x70 => some [fRo 6 0 0, fRo 7 7 0, fRc 31 16]
    | _ => some [fRo 5 0 0x20, fRo 7 6 2, fRo 41 8 0]
  else if off < 0xA0 then some [fRw 63 0 0]
  else if off < 0xC0 then if off % 16 = 0 then some [fRo 63 0 0] else some [fRw 31 0 0]
  else if off < 0x100 then none
  else if off < 0x200 then some wcRuleFields
  else if off < 0x300 then some [fRw 31 0 0]
  else if off < 0x380 then some cnt48
  else if off < 0x400 then none
  else if off < 0x600 then some [fRwIn 3 0 0 [(0, 8)], fRw 12 8 0, fRo 16 16 0]
  else if off < 0x800 then none
  else if off < 0x1000 then some (tscaleFields true)
  else if off < 0x1800 then some (tscaleFields false)
  else if off < 0x2000 then some (tscaleFields true)
  else if off < 0x2800 then some [fRo 31 0 0, fRo 63 32 0]
  else if off < 0x3000 then none
  else if off < 0x4000 then layerFields true (off - 0x3000)
  else if off < 0x5000 then layerFields false (off - 0x4000)
  else if off < 0x6000 then layerFields true (off - 0x5000)
  else if off < 0xE000 then
    some ((List.range 4).flatMap fun j => [fRw (16 * j + 6) (16 * j) 0, fRw (16 * j + 14) (16 * j + 8) 0])
  else none

/-- Registers of a core (R148, R179, R295, R332, R349, R386, R609). Control cores and stewards carry only their island
counters (R631). -/
def coreFields (control : Bool) (off : Nat) : Option (List RegField) :=
  if off = 0xC0 then some [fRo 63 0 0]
  else if off = 0xC8 then some [fRw 31 0 0]
  else if control then none
  else if 0x80 ≤ off ∧ off < 0xC0 ∧ off % 8 = 0 then some cnt48
  else match off with
  | 0x00 => some [fRo 1 0 0, fRo 2 2 0, fRo 5 3 0, fRo 8 6 0, fRo 9 9 0, fRo 10 10 0, fRo 11 11 0, fRo 12 12 0,
      fRo 16 13 0]
  | 0x08 => some cnt48
  | 0x10 => some [fRw 31 0 0, fRw 63 32 0]
  | 0x18 => some cnt48
  | 0x20 => some [fRw 31 0 0, fRw 63 32 0]
  | 0x28 => some [fRo 9 0 0, fRo 10 10 0, fRo 11 11 0, fRo 12 12 0]
  | 0x30 => some [fRw 31 0 0, fRw 63 32 0]
  | 0x38 => some [fRo 15 0 0, fRo 31 16 0, fRo 40 32 0]
  | 0x40 => some [fRw 1 0 0, fRw 11 2 0, fRw 47 16 0]
  | _ => none

/-- The fields of the chute register at an offset of a block, where one stands there (R358). -/
def chuteFieldsAt (b : Block) (off : Nat) : Option (List RegField) :=
  let o := Reg.chuteOff b
  if o ≤ off ∧ (off - o) % 8 = 0 then
    match chuteDepth b ((off - o) / 16) with
    | none => none
    | some _ =>
      let rx := match b with
        | .peer _ => decide ((off - o) / 16 = 0)
        | _ => false
      if (off - o) % 16 = 0 then some (chuteCtlFields rx) else some (chuteStatFields rx)
  else none

/-- The fields of the register at an offset of a block but for chute registers. -/
def blockFields (b : Block) (off : Nat) : Option (List RegField) :=
  match b with
  | .hub => hubFields off
  | .hubSec => islandFields 0 off
  | .hubStore => islandFields 0 off
  | .rst => rstFields off
  | .opt => optFields off
  | .pci => pciFields off
  | .peer p => peerFields p off
  | .dbg => dbgFields off
  | .memHub => memHubFields off
  | .steward _ => coreFields true off
  | .hubStop _ => islandFields 0 off
  | .die _ => dieFields off
  | .memGroup _ _ => memGroupFields off
  | .cluster _ _ => cluFields off
  | .core _ _ k => coreFields (k == 0x22) off

/-- The fields of the register that stands at an offset of the region; none: the offset names no register (R357). -/
def fieldsAt (o : Nat) : Option (List RegField) :=
  match blockAt o with
  | none => none
  | some (b, off) =>
    match chuteFieldsAt b off with
    | some f => some f
    | none => blockFields b off

/-- The reset value of a register: its fields' Reset entries (R10). -/
def resetOf (fs : List RegField) : Nat := fs.foldl (fun a f => setBits a f.hi f.lo f.reset) 0

/-- The reset value of the register at an offset; an offset that names no register reads zero (R357). -/
def regReset (o : Nat) : W64 := BitVec.ofNat 64 (resetOf ((fieldsAt o).getD []))

/-- Is x a legal encoding of a field? -/
def fieldLegal (f : RegField) (x : Nat) : Bool :=
  f.legal.isEmpty || f.legal.any (fun r => decide (r.1 ≤ x) && decide (x ≤ r.2))

/-- What a field holds after a write of new over old (R9, R12). -/
def fieldWrite (f : RegField) (old new : Nat) : Nat :=
  match f.ty with
  | .rw => if fieldLegal f new then new else old
  | .w1c => old &&& (new ^^^ (2 ^ (f.hi + 1 - f.lo) - 1))
  | .w1s => old ||| new
  | .ro => old
  | .rc => old
  | .wo => old

/-- A write of v over the register value old (R9, R12). Where a WO field receives a reserved encoding, no field
changes (R633). -/
def fieldsWrite (fs : List RegField) (old v : Nat) : Nat :=
  if fs.any (fun f => decide (f.ty = .wo) && !(fieldLegal f (bitsOf v f.hi f.lo))) then old
  else fs.foldl (fun a f => setBits a f.hi f.lo (fieldWrite f (bitsOf old f.hi f.lo) (bitsOf v f.hi f.lo))) old

/-- What a register holds after a read clears its RC fields (R9). -/
def fieldsReadClear (fs : List RegField) (old : Nat) : Nat :=
  fs.foldl (fun a f => if f.ty = .rc then setBits a f.hi f.lo 0 else a) old

end Sys2Proof.Machine
end

