-- ==== Sys2Proof/Tensors.lean ====
section
/-!
DEFINITION. The state of the tensor engines of a compute core as plain data: issue queues (R261), stream handles (R307
to R350), the Lattice and its output tiles (R117 to R173), v registers (R289), and what a cluster's width controller,
update unit and CFU hold beside their registers.
-/
namespace Sys2Proof.Machine

/-- A v register (R289): its bits and one poison bit for each 16-bit lane. -/
structure VReg where
  val : BitVec 2048
  poison : BitVec 128
  deriving DecidableEq, Repr

/-- A tensor operation in an issue queue (R261, R263): its place in issue order, OPC and fields, the OP_TAG and the
expected epoch taken at issue, the s registers it read (two operands) or its address, CLU.WC_STEP.STEP at issue (R274),
the function whose space its addresses are in, the handles it still holds (R264), and whether its launch carries pass
kind backward (R388). -/
structure TOp where
  seq : Nat
  opc : Nat
  ins : Ins
  tag : W16
  epoch : W16
  x : W64
  y : W64
  step : Nat
  fn : Nat
  holds : List Nat
  backward : Bool
  deriving DecidableEq, Repr

/-- An item of a stream: the number of its tile since SARM and its packets. -/
structure Item where
  tile : Nat
  pkts : List Packet
  deriving DecidableEq, Repr

/-- One row of a tile as fetched: dead where its index value is out of range (R331), and its parts with their poison:
one part for each block (exponent byte first) with KIND 0, parts of at most 1,024 bytes otherwise. -/
structure FetchRow where
  dead : Bool
  parts : List (List Byte × Bool)
  deriving DecidableEq, Repr

/-- A tile requested and not staged: its number since SARM, the expected epoch and OP_TAG of its pass, and its rows. -/
structure Fetch where
  tile : Nat
  epoch : W16
  tag : W16
  rows : List FetchRow
  deriving DecidableEq, Repr

/-- A block of 32 elements (or fewer, at the end of a row of another kind) that a conversion has produced for an item of
a write stream: its row in the tile; for a narrow code its width, CODEBOOK, tensor-scale entry, and zero mark or exponent
byte and codes; for another kind its bytes; and its poison. -/
structure OutBlk where
  row : Nat
  width : Nat
  cb : Nat
  ts : Nat
  zero : Bool
  exp : Nat
  codes : List Nat
  bytes : List Byte
  poison : Bool
  deriving DecidableEq, Repr

/-- What the headers of a slice of an orbit hold, as they travel with its copy (R317): its format reference, OP_TAG and EPOCH. -/
structure SliceHead where
  fmt : Nat
  tag : W16
  epoch : W16
  deriving DecidableEq, Repr

/-- The orbit of a stream (R334 to R338): ring size and members, the core's position, the device address and size S of
the resident slice, the step being delivered, the tiles taken of it, whether its copy is complete, the steps whose data
has arrived (and whether its size was right) and what its headers hold, the number of steps finished, how many ready packets were sent, and the
number of steps for which the successor has sent ready. -/
structure Orbit where
  n : Nat
  ring : List Nat
  pos : Nat
  base : Nat
  size : Nat
  step : Nat
  took : Nat
  copied : Bool
  arrived : List (Nat × Bool)
  heads : List (Nat × SliceHead)
  readySent : Nat
  ready : Nat
  deriving DecidableEq, Repr

/-- An armed stream handle (R307 to R350). `desc`: the 512 bits of the descriptor. `tag`, `epoch`: of its SARM. `base`,
`passEpoch`, `passTag`: of the pass being fetched. `passes`: passes begun. `rearm`: a re-arm that has not taken effect. `requested`,
`taken`: tiles requested and taken since SARM. `flight`, `staged`, `given`: tiles in flight, staged, and taken from
staging but not used up. `used`: elements or bytes used of the current item; of a write stream, elements that the CVTOUT at the head has appended. `link`: the index stream that drives it;
`indices`: index values taken from it; `drives`: the data stream it drives. For a write stream, the current item:
`cur` its blocks, `tail` elements that do not fill a block yet (as FP32, with poison), `count` the elements appended and
`puts` packets appended by VPUT; `buf` holds complete items; `writing`: buffers whose writes are not performed; `accepted`: items accepted; `placed`:
items placed; `shown`: how many blocks or bytes of the open item of a tile are in memory (R324). For a chain: `owed`: grants to send, `grants`: grants held, `arriving`: items on their way, `loose`: a poisoned grant
lets the writer send without grants (R559). -/
structure Stream where
  desc : BitVec 512
  tag : W16
  epoch : W16
  base : Nat
  passEpoch : W16
  passTag : W16
  passes : Nat
  rearm : Option (Nat × W16 × W16)
  requested : Nat
  taken : Nat
  flight : List Fetch
  staged : List Item
  given : List Item
  used : Nat
  link : Option Nat
  indices : List (Nat × Bool)
  drives : Option Nat
  cur : List OutBlk
  tail : List (W32 × Bool)
  count : Nat
  puts : List Packet
  buf : List Item
  writing : Nat
  accepted : Nat
  placed : Nat
  shown : Option (Nat × Nat)
  owed : Nat
  grants : Nat
  arriving : List Item
  orbit : Option Orbit
  loose : Bool
  deriving DecidableEq, Repr

/-- A block of an operand as the array reads it (R97, R125): exponent byte, codebook offset, code width and CODEBOOK,
tensor-scale entry with the VALUE read for it, the packet's epoch, the pip-form halves of its 32 elements (low, high),
how many are not padding, and whether it is a zero block, dead or poisoned. -/
structure OBlk where
  exp : Nat
  off : Int
  width : Nat
  cb : Nat
  ts : Nat
  scale : Nat
  epoch : W16
  pips : List (Nat × Nat)
  live : Nat
  zero : Bool
  dead : Bool
  poison : Bool
  deriving DecidableEq, Repr

/-- The four weight forms (R119). -/
inductive WForm where
  | single | packed2 | packed4 | ganged
  deriving DecidableEq, Repr

/-- A weight tile in the array (R119, R127): its form, its stored rows of blocks, whether the rows are presented as
reduction positions (R138), its number of reduction positions, whether every element of it is poisoned, and whether a packet of it
was not a narrow code (R143). -/
structure WTile where
  form : WForm
  rows : List (List OBlk)
  across : Bool
  positions : Nat
  bad : Bool
  wide : Bool
  deriving DecidableEq, Repr

/-- A tile of the activation operand: its stored rows, whether they are presented as reduction positions, its first
reduction position in the run and how many it has, and the row coordinate of its first wave. `bad`: every element of it
is poisoned. -/
structure ATile where
  bad : Bool
  rows : List (List OBlk)
  across : Bool
  first : Nat
  count : Nat
  row0 : Nat
  deriving DecidableEq, Repr

/-- A long tally (R150, R151): Q, whether it has received anything, its poison and non-finite marks, and the COUNT of
its seed record (R165). -/
structure Tally where
  q : Int
  got : Bool
  poison : Bool
  nonfin : Bool
  count : Nat
  deriving DecidableEq, Repr

/-- A seed record (R165): Q, ANCHOR, COUNT, FLAGS. -/
structure SeedRec where
  q : Int
  anchor : Int
  count : Nat
  flags : Nat
  poison : Bool
  deriving DecidableEq, Repr

/-- A pass between broadcast and tally (R132): its wave, its contributions as (column, S, E, poisoned), the columns whose tallies
it poisons, and the operand that the poison came from (0 weight, 1 activation, 2 both; R149). -/
structure Pass where
  wave : Nat
  adds : List (Nat × Int × Int × Bool)
  bad : List Nat
  who : Nat
  deriving DecidableEq, Repr

/-- An output tile (R129, R130, R284): the place of its run in issue order, OP_TAG, format reference of the activation
operand, mode, waves, columns, anchor, tallies by wave × N + column, the tensor scales of the operands, the reduction
length, whether every tally is poisoned, whether the run has ended, whether both operands lie in the integer-exact
subset (R115), the common codebook offset of a semiring run, the run's expected epoch and the epoch it went over to (R208, R212),
whether its launch carries pass kind backward (R388), and, once the run has ended, the exact activation values of each wave
(R198). -/
structure OutTile where
  seq : Nat
  tag : W16
  fmt : Nat
  mode : Nat
  m : Nat
  n : Nat
  anchor : Option Int
  tallies : List (Nat × Tally)
  tw : Nat
  ta : Nat
  k : Nat
  dead : Bool
  ended : Bool
  exact : Bool
  off : Int
  epoch : W16
  adopted : Option W16
  backward : Bool
  acts : List (List Rat)
  deriving DecidableEq, Repr

/-- The run in the array (R279 to R283): its operation, reduction length, the operands' handles, weight tiles loaded and
swapped in, for each tile loaded the greatest weight part of the pair exponent at each position (R152), the activation
tiles taken and the positions they cover, its seed records, whether the anchor is fixed, the weight tile, wave and nibble
of the next pass, whether the tile in front is its own, passes in flight, the words each feeder has been given, outlier
products entered, whether an operand is crossed, whether the weights seen so far lie in the integer-exact subset (R115),
the form of the first tile, whether its record of R143 was emitted, the row coordinate of its first wave once the anchor is fixed, and
the activation tiles, by first position and length, whose words the feeders have still to take (R323). -/
structure Run where
  op : TOp
  k : Nat
  loaded : Nat
  swapped : Nat
  wmax : List (List (Option Int))
  acts : List ATile
  covered : Nat
  fixed : Bool
  tile : Nat
  wave : Nat
  high : Bool
  flight : List Pass
  feeders : List Nat
  outliers : Nat
  crossed : Bool
  exact : Bool
  form : Option WForm
  operand : Bool
  firstRow : Nat
  held : List (Nat × Nat)
  deriving DecidableEq, Repr

/-- The tensor engines of a compute core. `once`: the records emitted once per operation tag, as (code, tag, handle).
`kept`: grants kept for chain writers not armed yet, by partner (R341). `wrapped`: the streams that were armed when the core
entered block reset (R559). `lastLayer`, `lastMode`: the layer and the mode
of the previous run (R148, R344). `back` holds a tile only where one was loaded since the previous swap (R128); `spare` is what
the last swap left in the back registers until a load fills them again (R118). -/
structure Tensor where
  issued : Nat
  streamQ : List TOp
  latticeQ : List TOp
  drainQ : List TOp
  convQ : List TOp
  vectorQ : List TOp
  saveQ : List TOp
  streams : List (Nat × Stream)
  v : List (Nat × VReg)
  front : Option WTile
  back : Option WTile
  spare : Option WTile
  run : Option Run
  outs : List OutTile
  lastLayer : Option Nat
  lastMode : Nat
  once : List (Nat × Nat × Nat)
  kept : List (Nat × Nat)
  wrapped : List (Nat × Stream)
  deriving DecidableEq, Repr

/-- An outlier activation operand on the CFU side path (R158, R190): layer slot, row and channel, BF16 value, its
poison and epoch. -/
structure SideOp where
  layer : Nat
  row : Nat
  chan : Nat
  val : W16
  poison : Bool
  epoch : W16
  deriving DecidableEq, Repr

/-- An output tile sampled for agreement (R198, R199): its layer, the exact activation values of each wave, and the
tally values rounded to FP32 in row-major order with the number of columns. -/
structure Sample where
  layer : Nat
  acts : List (List Rat)
  narrow : List W32
  cols : Nat
  deriving DecidableEq, Repr

/-- What the units of a cluster hold beside registers and the cluster store: the queue of the update unit (R261, R299)
as (core key, operation), side-path operands, samples outstanding, the outlier channels counted in the step (R190) by
layer × 2^32 + channel, the layers whose OUTLIER_OVERFLOW (R191) and the entries whose SCALE_RANGE (R100) were emitted,
for each tensor-scale entry the closed maxima newest first (R102), the layers merged since the last commit (R220), the write of a tensor scale that the update operation at the head
has still to make (entry, value, R304), and when the wire command at the ring's head reached the update unit: how many update
operations stood before it, and in which reference cycle (R409). -/
structure CluUnits where
  updates : List (Nat × TOp)
  side : List SideOp
  samples : List Sample
  seen : List Nat
  overflow : List Nat
  ranged : List Nat
  history : List (Nat × List W32)
  mergedLayers : List Nat
  tscHeld : Option (Nat × W32)
  wireAhead : Nat
  wireAt : Nat
  deriving DecidableEq, Repr

end Sys2Proof.Machine
end

