-- ==== Sys2Proof/Units.lean ====
section
/-!
DEFINITION. The state of each unit of the module, as plain data, but for what the register region holds
(Machine/RegTable.lean): memory, event records, trace partitions, chutes and routers, memory channels, and the host
functions with their queues and rings.
-/
namespace Sys2Proof.Machine

/-- Device memory (R355, R356): bytes by device address and poison marks. `cells` lists only bytes that differ from
what an unlisted byte reads as, addresses strictly rising; `poison` lists, in rising order, the first address of each
poisoned unit: a 256-byte block of LPDDR (R368), an 8-byte word of a store. `rewritten` lists, in rising order, the
LPDDR blocks written whole since the channel that held them was retired: every other block of that channel is lost
(R374). -/
structure Memory where
  cells : List (Nat × Byte)
  poison : List Nat
  rewritten : List Nat
  deriving DecidableEq, Repr

/-- The four classes of event record (R38). -/
inductive EvClass where
  | corrected | deferred | fatal | notice
  deriving DecidableEq, Repr

/-- Where a record comes from: the source fields of R37. `cluster` is none for a unit outside a cluster of a compute
die. -/
structure EvSrc where
  die : Nat
  cluster : Option Nat
  core : Nat
  unit : Nat
  inst : Nat
  deriving DecidableEq, Repr

/-- An event record (R37). -/
structure EventRec where
  time : W64
  src : EvSrc
  code : Nat
  cls : EvClass
  poison : Bool
  lost : Bool
  detail : List Byte
  deriving DecidableEq, Repr

/-- A record to be emitted: its source, code, class, POISON flag and detail, and the queue (function, queue) whose
event ring receives it, where there is one (R449). -/
structure Ev where
  src : EvSrc
  code : Nat
  cls : EvClass
  poison : Bool
  detail : List Byte
  origin : Option (Nat × Nat)
  deriving DecidableEq, Repr

/-- The event history of the hub store (R628), newest first and at most 4,096 long, and how many records were ever
put into it (record n stands in slot n mod 4,096). -/
structure EventLog where
  history : List EventRec
  count : Nat
  deriving DecidableEq, Repr

/-- The fatal procedure (R626): the first fatal record and how many followed it. -/
structure FatalState where
  first : EventRec
  more : Nat
  deriving DecidableEq, Repr

/-- One trace partition (R614 to R623) beside its registers TRACE_CTL and TRACE_STAT: its bytes by logical position,
the bytes written since the last SYNC and since the start, the packets staged while a spill write cannot proceed (R620, R622), the packets
lost since then, the bytes in the spill area by position (R622), the BR outcomes gathered and the time of the first of them (R616), the bytes left to write after the
trigger (R618), and a stop of the control core's own island still to be written (R621). -/
structure Trace where
  bytes : List (Nat × Byte)
  sinceSync : Nat
  sinceStart : Nat
  staged : List (List Byte)
  lost : Nat
  spill : List (Nat × Byte)
  outcomes : List Bool
  brSince : Nat
  postLeft : Nat
  ownStop : Option Nat
  deriving DecidableEq, Repr

/-- A wide word in a chute (R55, R56, R58): its bytes, valid mask and the parity bits written with it. `hdr`: a header
word. `start`: the first word of an item. `fin`: the final word of an item's LAST packet. `bad`: poisoned whatever its
parity (R57). `eop`: the final word of its packet. -/
structure WideWord where
  data : BitVec 512
  mask : W64
  par : W16
  hdr : Bool
  start : Bool
  fin : Bool
  bad : Bool
  eop : Bool
  deriving DecidableEq, Repr

/-- The write side of a chute in the middle of a packet: its header and the payload bytes written (R57). -/
structure ChuteProducer where
  hdr : BitVec 128
  written : Nat
  deriving DecidableEq, Repr

/-- A chute (R55 to R77) beside its registers CHUTE_CTL and CHUTE_STAT. Words are oldest first. `writing`: the packet
being written. `midItem`: the producer is mid-item (R74). `level`: the watermark level (R65). `frozen`: the level
HOLD_MODE 0b11 holds. `taking`: the consumer has begun the packet at the head (R64).
`conMid`: the consumer is mid-item (R73). `lastHdr`: the last header taken. `taken`: payload bytes of the packet being taken.
`stub`: the stub offered (R73). `badWords`, `badPacket`: failing 32-bit words of the packet being taken, and whether a word of it
was poisoned (R61). `headSince`: when the packet at the head reached it (R51). `feeder`: the chute whose item is being passed on
into this one, by key (R52). -/
structure Chute where
  words : List WideWord
  writing : Option ChuteProducer
  midItem : Bool
  discarding : Bool
  level : Bool
  frozen : Bool
  taking : Bool
  conMid : Bool
  lastHdr : BitVec 128
  taken : List Byte
  stub : Option (BitVec 128)
  badWords : Nat
  badPacket : Bool
  headSince : Nat
  feeder : Option Nat
  deriving DecidableEq, Repr

/-- A cluster router (R49 to R52, R62, R63): for each output and network, the input whose item it is sending; for each
input chute, the output the packet begun goes to and the address of its memory request; and the input chutes whose item is being discarded. Keys are
4 × port + network. -/
structure Router where
  locks : List (Nat × Nat)
  begun : List (Nat × Nat)
  addrs : List (Nat × Nat)
  drop : List Nat
  deriving DecidableEq, Repr

/-- A memory channel (R366 to R378) beside its registers. `slots` maps a location to the spare slot that holds it;
`spares` is how many are used; `corrected` holds, per location, the times of its corrected events; `due` lists
locations scheduled for retirement with their cause (0 poisoned, 1 count, 2 firmware); `copying` is the location being
copied and its cause; `stuck` marks locations that found no spare; `lowSent`: SPARES_LOW was emitted. -/
structure Channel where
  slots : List (Nat × Nat)
  spares : Nat
  corrected : List (Nat × List Nat)
  due : List (Nat × Nat)
  copying : Option (Nat × Nat)
  stuck : List Nat
  lowSent : Bool
  deriving DecidableEq, Repr

/-- The memory system as a whole: the retired channels in order of retirement (R374 to R378), the numbers of the retirements
whose remap is in progress (R377), and the function that the last invalidation names (R364). -/
structure MemSys where
  retired : List Nat
  remapping : List Nat
  xlatFn : Nat
  deriving DecidableEq, Repr

/-- A ring context of a function (R433) as loaded, with its state: head and tail count modulo the depth, `used` slots
hold entries the host has not freed, `reserved` completion slots are promised to entries (R444), `phase` is the next
phase (R434), `unsig` entries are not yet signalled and `unsigSince` is when the first was written (R451), `lost`
marks records lost (R450), `fullSince` is since when the ring is full and `stalled` whether RING_STALL was emitted for
it (R448), `doorbell` is the doorbell's value as read (R441). -/
structure RingState where
  base : Nat
  logDepth : Nat
  pasid : Option Nat
  irq : Bool
  vector : Nat
  modCount : Nat
  modTime : Nat
  head : Nat
  tail : Nat
  used : Nat
  reserved : Nat
  phase : Bool
  unsig : Nat
  unsigSince : Nat
  lost : Bool
  fullSince : Option Nat
  stalled : Bool
  doorbell : Nat
  deriving DecidableEq, Repr

/-- A submission queue (R432) as loaded: `head` is the next entry to fetch, `avail` how many entries doorbells have
made available, `stopping` a stop in progress, `bells` its pending doorbells with their arrival order and the entries of each that are
not fetched yet (R439). -/
structure QueueState where
  base : Nat
  logDepth : Nat
  cring : Nat
  ering : Nat
  pasid : Option Nat
  die : Nat
  cluster : Nat
  head : Nat
  avail : Nat
  stopping : Bool
  bells : List (Nat × Nat)
  doorbell : Nat
  deriving DecidableEq, Repr

/-- One MSI-X table entry: address, data and mask bit. -/
structure MsixEntry where
  addr : Nat
  data : Nat
  masked : Bool
  deriving DecidableEq, Repr

/-- One PCIe function beside its registers: loaded contexts, the MSI-X table and its pending bits, whether MSI-X and
memory space are enabled and what else software has written to configuration space (by dword), the pages of the
aperture that have reported an error since AP_BASE changed (R428), and the operation and index of the FN_CMD command in
progress (R430). -/
structure Function where
  queues : List (Nat × QueueState)
  crings : List (Nat × RingState)
  erings : List (Nat × RingState)
  msix : List (Nat × MsixEntry)
  pba : List Nat
  config : List (Nat × W32)
  apErrors : List Nat
  command : Option (Nat × Nat)
  deriving DecidableEq, Repr

/-- Where a fetched submission entry stands (R437). `held`: fetched, not started. `ready`: a launch that waits for its
cores. `running`: started. -/
inductive EntryPhase where
  | held
  | ready
  | running
  deriving DecidableEq, Repr

/-- A submission entry in flight (R435 to R440): its function, queue, slot and 64 bytes; when it started (table
clock); the cores of its launch in logical order; whether a core was ended by the time limit; and what each ended core
reported: END statuses, and exception codes by core key. -/
structure Entry where
  fn : Nat
  queue : Nat
  slot : Nat
  bytes : List Byte
  phase : EntryPhase
  started : Nat
  cores : List CoreId
  limited : Bool
  statuses : List Nat
  exceptions : List (Nat × Nat)
  deriving DecidableEq, Repr

/-- What leaves the module or is delivered at a boundary the model does not carry further, in the order it happens. -/
inductive Output where
  /-- a write to host memory by a function, with its PASID, marked poisoned or not (R450, R452) -/
  | hostWrite (fn : Nat) (pasid : Option Nat) (addr : Nat) (bytes : List Byte) (poison : Bool)
  /-- a read of host memory asked for by a function, with its PASID (R434, R436) -/
  | hostRead (fn : Nat) (pasid : Option Nat) (addr len : Nat)
  /-- an MSI-X message (R451) -/
  | msix (fn vector addr data : Nat)
  /-- the answer to a configuration request; none: Request Retry Status (R423) -/
  | config (fn : Nat) (value : Option W32)
  /-- the answer to a read through a BAR or the register region -/
  | read (fn : Nat) (bytes : List Byte) (poison : Bool)
  /-- a memory read completed with Unsupported Request status (R551) -/
  | unsupported (fn : Nat)
  /-- the value of a register answered to firmware -/
  | reg (offset : Nat) (v : W64)
  /-- a wide word delivered by the read side of a chute, with its mask and POISON sideband (R55, R58) -/
  | chuteWord (ch : ChuteId) (data : BitVec 512) (mask : W64) (poison : Bool)
  /-- a whole packet taken by the unit that consumes it, poisoned where its header or the sideband bit of one of its words is
  (R60) -/
  | took (ch : ChuteId) (p : Packet)
  /-- a block of LPDDR delivered by its channel (R369, R370) -/
  | block (addr : Nat) (bytes : List Byte) (poison : Bool)
  /-- a packet handed to the security engine, tagged with the port it arrived on (R483) -/
  | identity (port : Nat) (p : Packet)
  /-- a packet handed to the on-chip network -/
  | packet (p : Packet)
  /-- link flits sent by a peer port -/
  | flit (port : Nat) (bytes : List Byte)
  /-- an SPDM or DOE response (R419) -/
  | spdm (bytes : List Byte)
  /-- an ATS invalidate completion (R418) -/
  | atsDone (fn itag : Nat)
  /-- bytes answered on the I3C bus (R599) -/
  | i3c (bytes : List Byte)
  /-- the response of a block's isolation wrapper (R559) -/
  | wrapper (b : Block) (bytes : List Byte) (poison : Bool)
  /-- an uncorrectable or advisory error logged by AER (R452) -/
  | aer (fn : Nat) (poisonedTlp : Bool)
  deriving DecidableEq, Repr

/-- What a core is doing (R224, R244, R247, R249, R250, R255, R256, R27, R558).
`idle`: a compute core free for a launch. `waiting`: WAIT on the semaphore at a device address, with its condition,
DEC, compare value, destination predicate and the table-clock time (tenths of ns) at which it expires. `fencing`: a
FENCE with its IMM, and its guard's register where that is poisoned. `ending`: END with its status, and the first poisoned register of
its guard and status with its kind. `raising`: a compute core that raised an exception, waiting for its
tensor operations, with the record it will emit (code, class, poison, detail). `cutting`: a core ended from outside, waiting
for its tensor operations (R440). `idling`: IDLE with its destination and
expiry. `halted`: a control core after an exception with EXC = 1. `held`: a control core that firmware does not run yet.
`off`: a reserve core not in service. `blockReset`: in block reset. -/
inductive RunState where
  | idle
  | running
  | waiting (addr cond : Nat) (dec : Bool) (cmp : W64) (pd : Nat) (expires : Option Nat)
  | fencing (imm : Nat) (poison : Option Nat)
  | ending (status : Nat) (poison : Option (Nat × Nat))
  | raising (code : Nat) (cls : EvClass) (poison : Bool) (detail : List Byte)
  | cutting
  | idling (pd : Nat) (expires : Option Nat)
  | halted
  | held
  | off
  | blockReset
  deriving DecidableEq, Repr

/-- A predicate register with its poison mark (R225, R226). -/
structure PBit where
  val : Bool
  poison : Bool
  deriving DecidableEq, Repr

/-- The control registers a core holds itself (R228, R229). `ipend` leaves out TIMER, which is a view of the table
clock. -/
structure Csr where
  exc : Bool
  fpend : Bool
  cause : W64
  epc : W64
  evec : W64
  scratch : W64
  faultTag : W64
  optag : W16
  epoch : W16
  launch : W64
  instret : W64
  wdog : W64
  ipend : W64
  ienable : W64
  timer : W64
  deriving DecidableEq, Repr

/-- The scalar part of a core (R225 to R229). s and p registers that are not listed are zero and unpoisoned. `wdogAt`:
when the watchdog expires (R250, R554). `poisonTags`: the values of csr.optag under which SCALAR_POISON was emitted
(R227). `pendingS`: s registers that SPOS, VEXT or VRED has still to write (R264). `parked`: parked by the power cap
(R583). `launch`: the entry the core works for, as function, queue and slot. -/
structure Core where
  run : RunState
  pc : W64
  s : List (Nat × PVal)
  p : List (Nat × PBit)
  csr : Csr
  wdogAt : Option Nat
  poisonTags : List Nat
  pendingS : List Nat
  parked : Bool
  launch : Option (Nat × Nat × Nat)
  deriving DecidableEq, Repr

/-- What a cluster holds beside its registers. `positions`: the physical core at each logical position (R635).
`failed` and `swapped`: cores declared failed, and the core that replaced a retired one (R251). `wc`: the 8-byte words of the width-controller region of the cluster store
(R192), by offset from 0x7F_0000 divided by 8. -/
structure Cluster where
  positions : List Nat
  failed : List Nat
  swapped : List (Nat × Nat)
  wc : List (Nat × W64)
  deriving DecidableEq, Repr

end Sys2Proof.Machine
end

