-- ==== Sys2Proof/Machine/State.lean ====
section
/-!
DEFINITION. The state of the module and its value at reset: a cold reset has been taken and is not yet released
(R547, R553, R555); every register of the register region is at its Reset entry (R10).
-/
namespace Sys2Proof.Machine

/-- Why a step stops with a fault. -/
inductive Fault where
  /-- RAIL_LEAVES_WINDOW raises it: outside the operating range there is no defined behaviour (R28, R578). Safe: the
  model stops where the manual gives no effect. -/
  | undefinedSupply
  deriving DecidableEq, Repr

/-- Why a step refuses a command. -/
inductive Refusal where
  /-- raised by an arm of exec for a command that has no meaning in the model yet. Safe: nothing follows from it. -/
  | notModelled (mnemonic : String)
  deriving DecidableEq, Repr

/-! ## What an unlisted unit holds -/

/-- The control registers at reset (R229). -/
def Csr.init : Csr :=
  { exc := false, fpend := false, cause := 0, epc := 0, evec := 0, scratch := 0, faultTag := 0, optag := 0, epoch := 0,
    launch := 0, instret := 0, wdog := 0x1_0000, ipend := 0, ienable := 0, timer := 0xFFFF_FFFF_FFFF_FFFF }

/-- A core in a run state with everything else at reset. pc, s and p registers: the manual gives a value at launch or
at release of reset only (R259, R575); zero before that is the model's choice (DESIGN CHOICE, log 4). -/
def Core.init (r : RunState) : Core :=
  { run := r, pc := 0, s := [], p := [], csr := Csr.init, wdogAt := none, poisonTags := [], pendingS := [],
    parked := false, launch := none }

/-- A chute that holds nothing (R72). -/
def Chute.empty : Chute :=
  { words := [], writing := none, midItem := false, discarding := false, level := false, frozen := false,
    taking := false, conMid := false, lastHdr := 0, taken := [], stub := none, badWords := 0, badPacket := false, headSince := 0,
    feeder := none }

/-- A router that sends nothing. -/
def Router.empty : Router := ⟨[], [], [], []⟩

/-- A trace partition that was never started. -/
def Trace.empty : Trace :=
  { bytes := [], sinceSync := 0, sinceStart := 0, staged := [], lost := 0, spill := [], outcomes := [], brSince := 0, postLeft := 0, ownStop := none }

/-- A channel none of whose granules has moved. -/
def Channel.empty : Channel := ⟨[], 0, [], [], none, [], false⟩

/-- A function with no context loaded. -/
def Function.empty : Function := ⟨[], [], [], [], [], [], [], none⟩

/-- A cluster with cores 0 to 31 in service at positions 0 to 31 (R635). -/
def Cluster.init : Cluster := ⟨List.range 32, [], [], []⟩

/-- Tensor engines at launch: nothing issued, no handle armed, no tile (R259). -/
def Tensor.init : Tensor :=
  { issued := 0, streamQ := [], latticeQ := [], drainQ := [], convQ := [], vectorQ := [], saveQ := [], streams := [],
    v := [], front := none, back := none, spare := none, run := none, outs := [], lastLayer := none, lastMode := 0,
    once := [], kept := [], wrapped := [] }

/-- The units of a cluster with nothing queued or counted. -/
def CluUnits.init : CluUnits :=
  { updates := [], side := [], samples := [], seen := [], overflow := [], ranged := [], history := []
    mergedLayers := [], tscHeld := none, wireAhead := 0, wireAt := 0 }

/-- The PCIe controller before its link has trained. -/
def HostUnit.init : HostUnit :=
  { ready := false, busyUntil := 0, linkReset := false, rate := 0, width := 0, flit := false, rings := 0, image := none, next := none, prior := 0
    revert := false, flash := [], masks := [], toHost := [], doeIn := [], doeOut := [] }

/-- A peer port at reset: no credits, and nothing received (R474); PEER_HOLD_IN is pulled up (R67). -/
def Port.init : Port :=
  { good := 0, uncorr := 0, tag := none, half := none, expect := 0, discarding := false, parts := none
    buffer := [], granted := List.replicate 8 0, returns := List.replicate 8 0, sent := 0, acked := 0xFFF, resend := []
    progress := 0, back := none, retries := 0, unsent := [], credits := List.replicate 8 0, gotCredit := List.replicate 8 0
    queue := [], hold := true, holdAt := 0, faults := [], linkedAt := 0, sentHello := [], hello := none, cert := none
    serial := none }

/-- The peer unit at reset. -/
def PeerUnit.init : PeerUnit :=
  { ledger := [], proxy := [], waiting := [], stale := [], unreached := [], live := [], left := [], silent := [], unheard := []
    joiners := [], waitUntil := none, proposal := none, proposer := 0xF, firstUp := none, lastLive := 0, lastLeader := 0xF
    stepDue := true, refAt := 0, steer := 0, slew := 0, asked := none, ptmAt := none, ptmFirst := none
    merges := [], mergedFrom := [], mergeHeld := false, slots := none }

/-- Survival at reset: the first GO makes a checkpoint step (R519). -/
def Surv.init : Surv :=
  { log := [], losses := [], go := none, fresh := true, requests := [], ckpt := none, odds := [], counts := [],
    halted := [], haltAt := 0, lost := none, restoring := none, filled := [], expect := [], verify := none, rolled := false, registry := []
    relaunch := [], manifests := [], moves := [], voided := [], current := 0, lostNext := [], forced := false, voidLost := false, parity := [] }

/-- The reset controller with a cold reset taken (R545, R547). -/
def ResetUnit.init : ResetUnit :=
  { held := true, cold := true, causes := 0, perst := false, byPerst := false, clusters := [], ports := [], report := false, stat := 0, optTorn := false
    flashTorn := false, optFlash := none, committed := false }

/-- The power controller at a cold reset: FAULT_N asserted, full cooling demand, the class in force air (R555, R582). -/
def PowerUnit.init : PowerUnit :=
  { input := true, fault := true, duty := 100, dutySet := false, calib := false, cap := 0, therm := 1600, thermAt := 0
    hot := false, trip := false, failed := [], atFloor := false, parked := [], turn := 0, watts := [], overSince := none
    told := false, addr := none, led := false }

/-! ## The module -/

/-- Everything the module holds but device memory. Tables list only units that differ from their value at reset; keys
are those of coreKey, clusterKey and chuteKey. -/
structure Device where
  /-- counts the free values taken; the model's own (DESIGN CHOICE, log 2) -/
  fresh : Nat
  /-- the table clock in tenths of a nanosecond (R610) -/
  clock : Nat
  /-- what left the module, oldest first; the model's own -/
  out : List Output
  /-- the registers of the register region that differ from reset, by offset (R357) -/
  regs : List (Nat × W64)
  log : EventLog
  fatal : Option FatalState
  traces : List (Nat × Trace)
  chutes : List (Nat × Chute)
  routers : List (Nat × Router)
  channels : List (Nat × Channel)
  memsys : MemSys
  fns : List (Nat × Function)
  entries : List Entry
  cores : List (Nat × Core)
  clusters : List (Nat × Cluster)
  tensors : List (Nat × Tensor)
  units : List (Nat × CluUnits)
  surv : Surv
  host : HostUnit
  ports : List (Nat × Port)
  peer : PeerUnit
  rst : ResetUnit
  power : PowerUnit
  deriving DecidableEq, Repr

/-- The machine: the commands that wait, first in first out, device memory, and the module. -/
structure State where
  pending : List Instr
  mem : Memory
  dev : Device
  deriving DecidableEq, Repr

/-- The module with a cold reset taken and not released. -/
def Device.reset : Device :=
  { fresh := 0, clock := 0, out := [], regs := [], log := ⟨[], 0⟩, fatal := none, traces := [], chutes := [],
    routers := [], channels := [], memsys := ⟨[], [], 0⟩, fns := [], entries := [], cores := [], clusters := [],
    tensors := [], units := [], surv := Surv.init, host := HostUnit.init, ports := [], peer := PeerUnit.init
    rst := ResetUnit.init, power := PowerUnit.init }

/-- The machine right after reset. Memory lists nothing (DESIGN CHOICE, log 3). -/
def State.reset : State := { pending := [], mem := ⟨[], [], []⟩, dev := Device.reset }

end Sys2Proof.Machine
end

