-- ==== Sys2Proof/Machine/Ops.lean ====
section
/-!
DEFINITION. The named operations over registers, cores, clusters, chutes and the other tables of the module: every
meaning reads and writes the state through these.
-/
namespace Sys2Proof.Machine

/-! ## Registers of the register region -/

/-- The stored value of the register at an offset. -/
def Device.reg (d : Device) (o : Nat) : W64 := tget d.regs (regReset o) o

/-- A register's stored value as a number. -/
def Device.regN (d : Device) (o : Nat) : Nat := (d.reg o).toNat

/-- The module with a register set. -/
def Device.setReg (d : Device) (o : Nat) (v : W64) : Device := { d with regs := tput d.regs o v }

/-- The module with a register set to a number modulo 2^64. -/
def Device.setRegN (d : Device) (o v : Nat) : Device := d.setReg o (BitVec.ofNat 64 v)

/-- Field [hi:lo] of a register. -/
def Device.rf (d : Device) (o hi lo : Nat) : Nat := bitsOf (d.regN o) hi lo

/-- Bit i of a register. -/
def Device.rbit (d : Device) (o i : Nat) : Bool := bitAt (d.regN o) i

/-- The module with field [hi:lo] of a register set. -/
def Device.setRf (d : Device) (o hi lo v : Nat) : Device := d.setRegN o (setBits (d.regN o) hi lo v)

/-- The module with n added to a counter field, which stops at its largest value (R608). -/
def Device.addRf (d : Device) (o hi lo n : Nat) : Device :=
  d.setRf o hi lo (satBits (hi + 1 - lo) (d.rf o hi lo + n))

/-- The module with a register back at its Reset entries (R10). -/
def Device.resetReg (d : Device) (o : Nat) : Device := { d with regs := tdel d.regs o }

/-- A write of the generic kind: every field by its type (R9, R12, R633). An offset that names no register ignores
the write (R357). -/
def Device.writeFields (d : Device) (o : Nat) (v : W64) : Device :=
  match fieldsAt o with
  | none => d
  | some fs => d.setRegN o (fieldsWrite fs (d.regN o) v.toNat)

/-- What a read leaves: RC fields cleared (R9). -/
def Device.clearRc (d : Device) (o : Nat) : Device :=
  match fieldsAt o with
  | none => d
  | some fs => if fs.any (fun f => decide (f.ty = .rc)) then d.setRegN o (fieldsReadClear fs (d.regN o)) else d

/-! ## Time and outputs -/

/-- The table clock in whole nanoseconds (R610). -/
def Device.ns (d : Device) : Nat := d.clock / 10

/-- One reference cycle of the table clock: 64 tenths of a nanosecond, and one more or one less when the steering has gathered a tenth; the
rate changes by at most 50 parts per million (R503, R610). -/
def Device.cycle (d : Device) : Device :=
  let x := d.peer
  if x.steer = 0 then { d with clock := d.clock + 64 }
  else
    let g := x.slew + 64 * Nat.min 50 Config.slewPpm
    let n : Int := if 1000000 ≤ g then (if 0 < x.steer then 1 else -1) else 0
    { d with clock := (Int.ofNat d.clock + 64 + n).toNat, peer := { x with slew := g % 1000000, steer := x.steer - n } }

/-- Payload bytes that an output carries over PCIe (R608). -/
def Output.pcieBytes : Output → Nat
  | .hostWrite _ _ _ bytes _ => bytes.length
  | .read _ bytes _ => bytes.length
  | .msix .. => 4
  | _ => 0

/-- The module with one output appended; PCIe payload bytes sent are counted (R608). -/
def Device.send (d : Device) (o : Output) : Device :=
  let d1 := { d with out := d.out ++ [o] }
  if o.pcieBytes = 0 then d1 else d1.addRf (Reg.dbgCnt 1) 47 0 o.pcieBytes

/-- PCIe payload bytes received are counted (R608). -/
def Device.received (d : Device) (n : Nat) : Device := d.addRf (Reg.dbgCnt 0) 47 0 n

/-- The module with the counter of free values advanced (DESIGN CHOICE, log 2). -/
def Device.takeFresh (d : Device) : Device := { d with fresh := d.fresh + 1 }

/-! ## Identities -/

/-- A cluster of the module (R16). -/
def clusterPresent (cl : ClusterId) : Bool := decide (cl.die < 8) && decide (cl.cluster < 16)

/-- Key of a cluster, its number 16 × die + cluster (R431). -/
def clusterKey (cl : ClusterId) : Nat := 16 * cl.die + cl.cluster

/-- The cluster of a number. -/
def clusterOf (n : Nat) : ClusterId := ⟨n / 16, n % 16⟩

/-- Every cluster of the module. -/
def allClusters : List ClusterId := (List.range 128).map clusterOf

/-- A core of the module: compute cores and control cores of clusters, and the four stewards (R16, R37). -/
def corePresent (c : CoreId) : Bool :=
  if c.die = 8 then decide (c.cluster = 0) && decide (c.core < 4)
  else decide (c.die < 8) && decide (c.cluster < 16) && decide (c.core < 0x23)

/-- A compute core (R223). -/
def isCompute (c : CoreId) : Bool := decide (c.die < 8) && decide (c.core < 0x22)

/-- A steward (R223). -/
def isSteward (c : CoreId) : Bool := decide (c.die = 8)

/-- A control core (R223). -/
def isControl (c : CoreId) : Bool := !isCompute c

/-- Key of a core. -/
def coreKey (c : CoreId) : Nat := (16 * c.die + c.cluster) * 64 + c.core

/-- The core of a key. -/
def coreOf (k : Nat) : CoreId := ⟨k / 1024, k / 64 % 16, k % 64⟩

/-- The cluster of a core. -/
def cluOfCore (c : CoreId) : ClusterId := ⟨c.die, c.cluster⟩

/-- The control core of a cluster. -/
def ctrlOf (cl : ClusterId) : CoreId := ⟨cl.die, cl.cluster, 0x22⟩

/-- Core k of a cluster. -/
def coreIn (cl : ClusterId) (k : Nat) : CoreId := ⟨cl.die, cl.cluster, k⟩

/-- A steward by number. -/
def steward (s : Nat) : CoreId := ⟨8, 0, s⟩

/-- Every control core: the clusters' in order, then the stewards. -/
def allControl : List CoreId := allClusters.map ctrlOf ++ (List.range 4).map steward

/-! ## Cores -/

/-- What a core does before anything has happened to it: compute cores are free, reserve cores are powered down
(R17), control cores are not released yet (R575). -/
def coreRunInit (c : CoreId) : RunState :=
  if isCompute c then (if c.core < 0x20 then .idle else .off) else .held

/-- A core. -/
def Device.core (d : Device) (c : CoreId) : Core := tget d.cores (Core.init (coreRunInit c)) (coreKey c)

/-- The module with a core replaced. -/
def Device.setCore (d : Device) (c : CoreId) (k : Core) : Device := { d with cores := tput d.cores (coreKey c) k }

/-- The module with a core changed by a function. -/
def Device.onCore (d : Device) (c : CoreId) (f : Core → Core) : Device := d.setCore c (f (d.core c))

/-- An s register: s0 reads zero (R225). -/
def Core.getS (k : Core) (i : Nat) : PVal := if i = 0 then PVal.zero else tget k.s PVal.zero i

/-- A core with an s register written; writes to s0 are discarded (R225). -/
def Core.setS (k : Core) (i : Nat) (v : PVal) : Core := if i = 0 then k else { k with s := tput k.s i v }

/-- A p register: p0 reads 1 (R225). -/
def Core.getP (k : Core) (i : Nat) : PBit := if i = 0 then ⟨true, false⟩ else tget k.p ⟨false, false⟩ i

/-- A core with a p register written; writes to p0 are discarded (R225). -/
def Core.setP (k : Core) (i : Nat) (v : PBit) : Core := if i = 0 then k else { k with p := tput k.p i v }

/-- A core with bits of csr.ipend set (R229). -/
def Core.notify (k : Core) (bit : Nat) : Core :=
  { k with csr := { k.csr with ipend := BitVec.ofNat 64 (k.csr.ipend.toNat ||| (1 <<< bit)) } }

/-- A control core takes an exception (R256): csr.epc is the faulting address, csr.cause the event code, EXC is 1 and the
next instruction stands at csr.evec. -/
def Core.takeException (k : Core) (code : Nat) (addr : W64) : Core :=
  { k with pc := k.csr.evec
           csr := { k.csr with exc := true, epc := addr, cause := BitVec.ofNat 64 (code % 65536) } }

/-- A control core returns from an exception (R250). -/
def Core.returnException (k : Core) : Core :=
  { k with pc := k.csr.epc, csr := { k.csr with exc := false } }

/-- csr.ipend with TIMER, which is 1 while csr.time ≥ csr.timer (R229). -/
def Device.ipend (d : Device) (c : CoreId) : Nat :=
  let k := d.core c
  setBits k.csr.ipend.toNat 0 0 (ofBool (decide (k.csr.timer.toNat ≤ d.ns)))

/-- csr.core (R229). -/
def csrCore (c : CoreId) : Nat := c.core + c.cluster <<< 8 + c.die <<< 12 + ofBool (isControl c) <<< 16

/-! ## Clusters, chutes, routers, channels, functions, traces -/

/-- A cluster. -/
def Device.cluster (d : Device) (cl : ClusterId) : Cluster := tget d.clusters Cluster.init (clusterKey cl)

/-- The module with a cluster replaced. -/
def Device.setCluster (d : Device) (cl : ClusterId) (x : Cluster) : Device :=
  { d with clusters := tput d.clusters (clusterKey cl) x }

/-- Key of a chute: where its CHUTE_CTL stands (R358). -/
def chuteKey (ch : ChuteId) : Nat := Reg.chuteCtl ch

/-- A chute. -/
def Device.chute (d : Device) (ch : ChuteId) : Chute := tget d.chutes Chute.empty (chuteKey ch)

/-- The module with a chute replaced. -/
def Device.setChute (d : Device) (ch : ChuteId) (x : Chute) : Device :=
  { d with chutes := tput d.chutes (chuteKey ch) x }

/-- A cluster's router. -/
def Device.router (d : Device) (cl : ClusterId) : Router := tget d.routers Router.empty (clusterKey cl)

/-- The module with a router replaced. -/
def Device.setRouter (d : Device) (cl : ClusterId) (x : Router) : Device :=
  { d with routers := tput d.routers (clusterKey cl) x }

/-- A memory channel by global number (R352). -/
def Device.channel (d : Device) (c : Nat) : Channel := tget d.channels Channel.empty c

/-- The module with a channel replaced. -/
def Device.setChannel (d : Device) (c : Nat) (x : Channel) : Device := { d with channels := tput d.channels c x }

/-- A PCIe function. -/
def Device.fn (d : Device) (f : Nat) : Function := tget d.fns Function.empty f

/-- The module with a function replaced. -/
def Device.setFn (d : Device) (f : Nat) (x : Function) : Device := { d with fns := tput d.fns f x }

/-- A trace partition. -/
def Device.trace (d : Device) (p : Nat) : Trace := tget d.traces Trace.empty p

/-- The module with a trace partition replaced. -/
def Device.setTrace (d : Device) (p : Nat) (x : Trace) : Device := { d with traces := tput d.traces p x }

/-- The trace partition of a control core (R614). -/
def partOf (c : CoreId) : Nat := if c.die = 8 then 128 + c.core else 16 * c.die + c.cluster

/-- The control core of a trace partition (R614). -/
def partCore (p : Nat) : CoreId := if p < 128 then ctrlOf (clusterOf p) else steward (p - 128)

/-- A peer port. -/
def Device.port (d : Device) (p : Nat) : Port := tget d.ports Port.init p

/-- The module with a peer port replaced. -/
def Device.setPort (d : Device) (p : Nat) (x : Port) : Device := { d with ports := tput d.ports p x }

/-- The module with a peer port changed by a function. -/
def Device.onPort (d : Device) (p : Nat) (f : Port → Port) : Device := d.setPort p (f (d.port p))

/-- The module with the peer unit changed by a function. -/
def Device.onPeer (d : Device) (f : PeerUnit → PeerUnit) : Device := { d with peer := f d.peer }

/-! ## Tensor engines and cluster units -/

/-- The tensor engines of a core. -/
def Device.tensor (d : Device) (c : CoreId) : Tensor := tget d.tensors Tensor.init (coreKey c)

/-- The module with a core's tensor engines replaced. -/
def Device.setTensor (d : Device) (c : CoreId) (x : Tensor) : Device :=
  { d with tensors := tput d.tensors (coreKey c) x }

/-- The module with a core's tensor engines changed by a function. -/
def Device.onTensor (d : Device) (c : CoreId) (f : Tensor → Tensor) : Device := d.setTensor c (f (d.tensor c))

/-- The update unit, CFU and width controller of a cluster. -/
def Device.unitsOf (d : Device) (cl : ClusterId) : CluUnits := tget d.units CluUnits.init (clusterKey cl)

/-- The module with a cluster's units replaced. -/
def Device.setUnits (d : Device) (cl : ClusterId) (x : CluUnits) : Device :=
  { d with units := tput d.units (clusterKey cl) x }

/-! ## States -/

/-- The state with the module changed. -/
def State.onDev (s : State) (f : Device → Device) : State := { s with dev := f s.dev }

/-- The outcome of a command that changes only the module. Nothing answers while the input is absent (R581). -/
def devNext (s : State) (f : Device → Device) : Host.Outcome State Fault Refusal :=
  .next (if s.dev.power.input then s.onDev f else s)

/-- The outcome of a command that changes the module and device memory; the queue is left as it is. Nothing answers while the
input is absent (R581). -/
def memNext (s : State) (f : State → State) : Host.Outcome State Fault Refusal :=
  .next (if s.dev.power.input then { s with mem := (f s).mem, dev := (f s).dev } else s)

end Sys2Proof.Machine
end

