-- ==== Sys2Proof/Machine/Place.lean ====
section
/-!
DEFINITION. Where an LPDDR granule lives (R359, R375, R376) and what a device address falls on (R355, R356).
-/
namespace Sys2Proof.Machine

/-- The channel and location of the granule that holds an LPDDR address (R359). -/
def place (x : Nat) : Nat × Nat :=
  let g := x >>> 12
  let l := g / 384
  let k := g % 384
  let a := k / 128
  let b := k % 128
  let h := (l ^^^ (l >>> 7) ^^^ (l >>> 14) ^^^ (l >>> 21)) % 128
  (128 * ((a + l % 3) % 3) + (b ^^^ h), l)

/-- The last stripe of the withdrawn window, S1 (R375). -/
def windowTop : Nat := 7820628

/-- Number of stripes withdrawn for n retired channels, W (R375). -/
def windowSize (n : Nat) : Nat := 20480 * n

/-- The first stripe of the withdrawn window, S0 (R375). -/
def windowBase (n : Nat) : Nat := windowTop + 1 - windowSize n

/-- The q-th channel, from 0, that is not in the set, in ascending order (R376). -/
def nthInService (retired : List Nat) (q : Nat) : Nat :=
  (((List.range 384).filter fun c => !(retired.contains c)).drop q).headD 0

/-- The rank of a channel in the set of retired channels taken in ascending order (R376). -/
def rankIn (retired : List Nat) (c : Nat) : Nat := (retired.filter (fun r => decide (r < c))).length

/-- Where the granule at (c, L) is stored (R376). -/
def home (retired : List Nat) (c l : Nat) : Nat × Nat :=
  if retired.contains c then
    let n := retired.length
    let w := windowSize n
    let s0 := windowBase n
    let lam := if l < s0 then l else l - w
    let q := n * lam + rankIn retired c
    (nthInService retired (q % (384 - n)), s0 + q / (384 - n))
  else (c, l)

/-- The channel and location that hold an LPDDR address while the channels listed are retired. -/
def homeOf (retired : List Nat) (x : Nat) : Nat × Nat :=
  let p := place x
  home (retired.take 16) p.1 p.2

/-- Is an LPDDR address in the withdrawn window (R375)? -/
def inWindow (retired : List Nat) (x : Nat) : Bool :=
  let n := Nat.min retired.length 16
  decide (0 < n) && decide (1572864 * windowBase n ≤ x) && decide (x < 0xB2F_FFF8_0000)

/-- What a device address falls on (R355, R356, R357). -/
inductive Region where
  | lpddr
  | coreStore (die cluster core : Nat)
  | clusterStore (die cluster : Nat)
  | hubStore
  | regs
  | nothing
  deriving DecidableEq, Repr

/-- The region of a device address and the offset within it. -/
def regionOf (a : Nat) : Region × Nat :=
  if a ≤ 0xB3F_FFFF_FFFF then (.lpddr, a)
  else if 0x8_0000_0000_0000 ≤ a ∧ a < 0x8_0002_0000_0000 then
    let o := a - 0x8_0000_0000_0000
    let d := o / 2 ^ 30
    let c := o / 2 ^ 26 % 16
    let p := o % 2 ^ 26
    if p < 0x22 * 2 ^ 20 then (.coreStore d c (p / 2 ^ 20), p % 2 ^ 20)
    else if 0x380_0000 ≤ p then (.clusterStore d c, p - 0x380_0000)
    else (.nothing, 0)
  else if 0x8_0002_0000_0000 ≤ a ∧ a < 0x8_0002_0400_0000 then (.hubStore, a - 0x8_0002_0000_0000)
  else if 0xF_0000_0000_0000 ≤ a ∧ a < 0xF_0000_0400_0000 then (.regs, a - 0xF_0000_0000_0000)
  else (.nothing, 0)

/-- Device address of offset o in a core store (R356). -/
def coreStoreAddr (d c k o : Nat) : Nat := 0x8_0000_0000_0000 + d * 2 ^ 30 + c * 2 ^ 26 + k * 2 ^ 20 + o

/-- Device address of offset o in a cluster store (R356). -/
def clusterStoreAddr (d c o : Nat) : Nat := 0x8_0000_0000_0000 + d * 2 ^ 30 + c * 2 ^ 26 + 0x380_0000 + o

/-- Device address of offset o in the hub store (R356). -/
def hubStoreAddr (o : Nat) : Nat := 0x8_0002_0000_0000 + o

/-- Start of the LPDDR reserve (R355). -/
def reserveBase : Nat := 0xB30_0000_0000

/-- Is an LPDDR address in the reserve (R355)? -/
def inReserve (a : Nat) : Bool := decide (reserveBase ≤ a) && decide (a ≤ 0xB3F_FFFF_FFFF)

/-- The unit that carries one poison mark: a 256-byte block of LPDDR (R368), an 8-byte word elsewhere (DESIGN CHOICE, log 3). -/
def poisonUnit (a : Nat) : Nat := if a ≤ 0xB3F_FFFF_FFFF then 256 else 8

/-- The first address of the unit that holds an address. -/
def unitBase (a : Nat) : Nat := a / poisonUnit a * poisonUnit a

end Sys2Proof.Machine
end

