-- ==== Sys2Proof/Machine/Events.lean ====
section
/-!
DEFINITION. Event records (R36 to R39), their way to the event rings of the host (R449 to R451), and the trace ports
that watch them (R614 to R623).
-/
namespace Sys2Proof.Machine

/-! ## Sources -/

/-- A unit of a core as the source of a record (R37). -/
def srcCore (c : CoreId) (unit : Nat) : EvSrc :=
  if c.die = 8 then ⟨8, none, c.core, unit, 0⟩ else ⟨c.die, some c.cluster, c.core, unit, 0⟩

/-- A unit of a cluster outside its cores. -/
def srcClu (cl : ClusterId) (unit : Nat) : EvSrc := ⟨cl.die, some cl.cluster, 0xFF, unit, 0⟩

/-- A unit of the hub. -/
def srcHub (unit inst : Nat) : EvSrc := ⟨8, none, 0xFF, unit, inst⟩

/-- A memory controller, by die and channel within the die (R382). -/
def srcMem (die chan : Nat) : EvSrc := ⟨die, none, 0xFF, 0x21, chan⟩

/-- The code of an event class (R37). -/
def evClassCode : EvClass → Nat
  | .corrected => 0
  | .deferred => 1
  | .fatal => 2
  | .notice => 3

/-- The 256 bits of a record (R37). -/
def EventRec.word (r : EventRec) : Nat :=
  r.time.toNat + r.src.inst <<< 64 + r.src.unit <<< 72 + r.src.core <<< 80 + (r.src.cluster.getD 0) <<< 88
    + r.src.die <<< 92 + r.code <<< 96 + evClassCode r.cls <<< 112 + ofBool r.poison <<< 114 + ofBool r.lost <<< 115
    + leNat r.detail <<< 128

/-- The 32 bytes of a record (R7, R37). -/
def EventRec.bytes (r : EventRec) : List Byte := leBytes 32 r.word

/-! ## Rings (R433, R441 to R451) -/

/-- Depth of a ring. -/
def RingState.depth (r : RingState) : Nat := 2 ^ r.logDepth

/-- Configuration dword at 0x90 holds MSI-X Message Control in its upper half: bit 31 MSI-X Enable, bit 30 Function
Mask (R418, R422). -/
def Function.msixCtl (x : Function) : Nat := (tget x.config 0 0x90).toNat

/-- A vector of a function is signalled: its message is sent, or its PBA bit is set while it is masked; nothing is sent
while MSI-X is not enabled (R451). -/
def Device.signal (d : Device) (f vector : Nat) : Device :=
  let x := d.fn f
  let e := tget x.msix ⟨0, 0, true⟩ vector
  if !(bitAt x.msixCtl 31) then d
  else if bitAt x.msixCtl 30 || e.masked then d.setFn f { x with pba := sinsert x.pba vector }
  else d.send (.msix f vector e.addr e.data)

/-- Pending vectors that a change of a mask lets through are signalled (R451). -/
def Device.flushPending (d : Device) (f i : Nat) : Device :=
  let x := d.fn f
  let e := tget x.msix ⟨0, 0, true⟩ i
  if x.pba.contains i && !e.masked && bitAt x.msixCtl 31 && !(bitAt x.msixCtl 30) then
    (d.setFn f { x with pba := sremove x.pba i }).signal f i
  else d

/-- The PASID that a host access carries: that of its context, where PASID Enable of the PF is set, which governs its VFs too (R418; its
place PRESUMED, log 20). -/
def Device.carried (d : Device) (pasid : Option Nat) : Option Nat :=
  if bitAt (tget (d.fn 0).config 0 0x1B4).toNat 16 then pasid else none

/-- One ring of a function: completion (false) or event (true). -/
def Device.ring (d : Device) (f : Nat) (event : Bool) (i : Nat) : Option RingState :=
  tfind (if event then (d.fn f).erings else (d.fn f).crings) i

/-- The module with one ring replaced. -/
def Device.setRing (d : Device) (f : Nat) (event : Bool) (i : Nat) (r : RingState) : Device :=
  let x := d.fn f
  d.setFn f (if event then { x with erings := tput x.erings i r } else { x with crings := tput x.crings i r })

/-- A ring's unsignalled entries are signalled (R451). -/
def Device.signalRing (d : Device) (f : Nat) (event : Bool) (i : Nat) : Device :=
  match d.ring f event i with
  | none => d
  | some r => (d.setRing f event i { r with unsig := 0 }).signal f r.vector

/-- One entry written to a ring that has room: the write to host memory, the tail and phase, and the interrupt when
MOD_COUNT is reached or MOD_TIME is 0 (R434, R445, R450, R451). -/
def Device.ringPut (d : Device) (f : Nat) (event : Bool) (i size : Nat) (bytes : List Byte) (r : RingState) : Device :=
  let tail' := (r.tail + 1) % r.depth
  let used' := r.used + 1
  let r' : RingState :=
    { r with
      tail := tail'
      used := used'
      phase := if tail' = 0 then !r.phase else r.phase
      unsig := r.unsig + 1
      unsigSince := if r.unsig = 0 then d.clock else r.unsigSince
      fullSince := if used' = r.depth then some d.clock else none
      stalled := false
      lost := false }
  let d1 := (d.setRing f event i r').send (.hostWrite f (d.carried r.pasid) (r.base + size * r.tail) bytes false)
  if r.irq && (decide (Nat.max 1 r.modCount ≤ r'.unsig) || decide (r.modTime = 0)) then d1.signalRing f event i else d1

/-- The event ring that receives a record (R449). While a function-level reset of a function is in progress nothing is written to its
rings (R453). -/
def Device.ringFor (d : Device) (origin : Option (Nat × Nat)) : Option (Nat × Nat) :=
  let pf := if (d.ring 0 true 0).isSome then some (0, 0) else none
  match origin with
  | none => pf
  | some (f, q) =>
    if d.rbit (Reg.fnStat f) 2 then (if f = 0 then none else pf)
    else match tfind (d.fn f).queues q with
    | none => pf
    | some c => if (d.ring f true c.ering).isSome then some (f, c.ering) else pf

/-- A record is dropped: counted in EVT_DROP of a function and in DBG.CNT[6] (R449, R450, R608). -/
def Device.dropEvent (d : Device) (f : Nat) : Device :=
  (if f < 64 then d.addRf (Reg.fnStat f) 47 32 1 else d).addRf (Reg.dbgCnt 6) 47 0 1

/-- A record goes to its ring, or is dropped (R449, R450). -/
def Device.ringEvent (d : Device) (origin : Option (Nat × Nat)) (rec : EventRec) : Device :=
  match d.ringFor origin with
  | none => d.dropEvent 0
  | some (f, i) =>
    match d.ring f true i with
    | none => d.dropEvent 0
    | some r =>
      if r.used ≥ r.depth then (d.setRing f true i { r with lost := true }).dropEvent f
      else d.ringPut f true i 32 ({ rec with lost := r.lost } : EventRec).bytes r

/-! ## Trace partitions -/

/-- SPILL is in effect (R622). -/
def Device.spillOn (d : Device) (p : Nat) : Bool := d.rbit (Reg.traceCtl p) 2 && d.rbit Reg.memCap 7

/-- Size of a partition's SRAM (R614). -/
def traceSram (p : Nat) : Nat := if p < 128 then 262144 else 1048576

/-- Size of a partition's spill area (R622). -/
def spillSize : Nat := 125829120

/-- Capacity C of a partition (R614). -/
def Device.traceCap (d : Device) (p : Nat) : Nat := if d.spillOn p then spillSize else traceSram p

/-- Device address of position x of a partition's spill area (R622). -/
def spillAddr (p x : Nat) : Nat := reserveBase + 0xC_0000_0000 + p * spillSize + x

/-- A spill write cannot proceed: a fatal dump is being written (R626), or the granule it goes to is being copied
(R372). -/
def Device.spillHeld (d : Device) (p : Nat) : Bool :=
  d.spillOn p && (d.fatal.isSome ||
    let h := homeOf d.memsys.retired (spillAddr p (d.rf (Reg.traceStat p) 34 8))
    match (d.channel h.1).copying with
    | none => false
    | some (l, _) => decide (l = h.2))

/-- Bytes put at a logical position, wrapping at the capacity, and the position after them. -/
def traceBytes (cap : Nat) (t : List (Nat × Byte)) (pos : Nat) (bs : List Byte) : List (Nat × Byte) × Nat :=
  bs.foldl (fun a b => (tput a.1 a.2 b, (a.2 + 1) % cap)) (t, pos)

/-- The complete 4 KiB pages between two positions go to the spill area (R622). -/
def spillPages (t : Trace) (from' n : Nat) : List (Nat × Byte) :=
  (List.range ((from' + n) / 4096 - from' / 4096)).foldl
    (fun a i => (List.range 4096).foldl (fun a j =>
      let x := (from' / 4096 + i) * 4096 + j
      tput a (x % spillSize) (tget t.bytes 0 (x % spillSize))) a) t.spill

/-- A packet's bytes are written to a partition at WPTR (R618). -/
def Device.traceAppend (d : Device) (p : Nat) (bs : List Byte) : Device :=
  let cap := d.traceCap p
  let t := d.trace p
  let w := d.rf (Reg.traceStat p) 34 8
  let (bytes, w') := traceBytes cap t.bytes w bs
  let t1 := { t with
    bytes := bytes, sinceSync := t.sinceSync + bs.length, sinceStart := t.sinceStart + bs.length, postLeft := t.postLeft - bs.length }
  let t2 := if d.spillOn p then { t1 with spill := spillPages t1 w bs.length } else t1
  let d1 := (d.setTrace p t2).setRf (Reg.traceStat p) 34 8 w'
  if cap < t1.sinceStart then d1.setRf (Reg.traceStat p) 3 3 1 else d1

/-- A record of the trace port of a partition's core (R632). -/
def traceEv (p code : Nat) (det : List (Nat × Nat × Nat)) : Ev :=
  ⟨srcCore (partCore p) 0x06, code, .notice, false, detail ((0, 1, p) :: det), none⟩

/-- The END packet (R615). -/
def Device.endPacket (d : Device) : List Byte := (0x09 : Byte) :: leBytes 8 d.ns

/-- The SYNC packet of a partition: the address of the next instruction and the table clock (R615). -/
def Device.syncPacket (d : Device) (p : Nat) : List Byte :=
  (0x01 : Byte) :: (leBytes 7 (bitsOf (d.core (partCore p)).pc.toNat 51 3) ++ leBytes 8 d.ns)

/-- Does the next packet of n bytes fit before writing must stop (R618)? -/
def Device.traceFits (d : Device) (p n : Nat) : Bool :=
  match d.rf (Reg.traceCtl p) 1 0 with
  | 0 => decide ((d.trace p).sinceStart + n ≤ d.traceCap p)
  | 2 => !(d.rbit (Reg.traceStat p) 1) || decide (n ≤ (d.trace p).postLeft)
  | _ => true

/-- Writing stops: END where it fits, DONE, and TRACE_STOPPED (R618, R632). -/
def Device.traceFull (d : Device) (p : Nat) : Device × List Ev :=
  let d1 := if d.traceFits p 9 then d.traceAppend p d.endPacket else d
  let d2 := (d1.setRf (Reg.traceStat p) 0 0 0).setRf (Reg.traceStat p) 2 2 1
  (d2, [traceEv p 0xE005 [(1, 1, ofBool (decide (d.rf (Reg.traceCtl p) 1 0 = 2))), (4, 4, d2.rf (Reg.traceStat p) 34 8)]])

/-- A packet reaches the partition: written where it fits, else writing stops. -/
def Device.tracePacket (d : Device) (p : Nat) (bs : List Byte) : Device × List Ev :=
  if !(d.rbit (Reg.traceStat p) 0) then (d, [])
  else if d.traceFits p bs.length then (d.traceAppend p bs, [])
  else d.traceFull p

/-- SYNC is due after SYNC_KB KiB (R617). -/
def Device.traceSync (d : Device) (p : Nat) : Device × List Ev :=
  if d.rbit (Reg.traceStat p) 0 && decide (d.rf (Reg.traceCtl p) 55 48 * 1024 ≤ (d.trace p).sinceSync) then
    let r := d.tracePacket p (d.syncPacket p)
    (r.1.setTrace p { r.1.trace p with sinceSync := 0 }, r.2)
  else (d, [])

/-- A packet enters the port's queue; while the port cannot write it is staged, or lost where 256 bytes are staged
already (R620). -/
def Device.traceStage (d : Device) (p : Nat) (bs : List Byte) : Device × List Ev :=
  let t := d.trace p
  if !(d.rbit (Reg.traceStat p) 0) then (d, [])
  else if d.spillHeld p || decide (0 < t.lost) then
    if (t.staged.map List.length).sum + bs.length ≤ 256 ∧ t.lost = 0 then
      (d.setTrace p { t with staged := t.staged ++ [bs] }, [])
    else ((d.setTrace p { t with lost := satBits 32 (t.lost + 1) }).addRf (Reg.traceStat p) 63 40 1, [])
  else
    let a := d.tracePacket p bs
    let b := a.1.traceSync p
    (b.1, a.2 ++ b.2)

/-- The BR packet of the outcomes gathered (R615, R616). -/
def brPacket (os : List Bool) : List Byte :=
  BitVec.ofNat 8 (0x02 + (os.length - 1) * 16) ::
    leBytes ((os.length + 7) / 8) ((List.range os.length).foldl (fun a i => a + ofBool (os.getD i false) <<< i) 0)

/-- The outcomes gathered are written as one BR (R616). -/
def Device.brWrite (d : Device) (p : Nat) : Device × List Ev :=
  let t := d.trace p
  if t.outcomes.isEmpty then (d, []) else (d.setTrace p { t with outcomes := [] }).traceStage p (brPacket t.outcomes)

/-- A packet other than BR: the outcomes gathered go first (R616). -/
def Device.traceWrite (d : Device) (p : Nat) (bs : List Byte) : Device × List Ev :=
  let a := d.brWrite p
  let b := a.1.traceStage p bs
  (b.1, a.2 ++ b.2)

/-- One BR outcome of a partition's core; 16 make a packet (R616). -/
def Device.brOutcome (d : Device) (p : Nat) (taken : Bool) : Device × List Ev :=
  if !(d.rbit (Reg.traceStat p) 0) then (d, [])
  else
    let t := d.trace p
    let t' := { t with outcomes := t.outcomes ++ [taken], brSince := if t.outcomes.isEmpty then d.clock else t.brSince }
    let d' := d.setTrace p t'
    if t'.outcomes.length ≥ 16 then d'.brWrite p else (d', [])

/-- Tracing starts: Start clears WPTR, LOST, DONE, TRIGGERED and WRAPPED, and a SYNC is written; the SRAM keeps what it holds (R617,
R623). -/
def Device.traceStart (d : Device) (p : Nat) : Device × List Ev :=
  let d1 := (d.setTrace p { Trace.empty with bytes := (d.trace p).bytes, spill := (d.trace p).spill }).setRegN (Reg.traceStat p) 1
  let a := d1.traceStage p (d1.syncPacket p)
  (a.1.setTrace p { a.1.trace p with sinceSync := 0 }, a.2)

/-- Tracing stops: Stop writes END (R623). -/
def Device.traceStop (d : Device) (p : Nat) : Device × List Ev :=
  if !(d.rbit (Reg.traceStat p) 0) then (d, [])
  else
    let a := d.traceWrite p d.endPacket
    (a.1.setRf (Reg.traceStat p) 0 0 0, a.2)

/-- A trigger: the first after a start is recorded with a TRIG packet (R618, R619, R632). -/
def Device.traceTrigger (d : Device) (p arg : Nat) : Device × List Ev :=
  if !(d.rbit (Reg.traceStat p) 0) || d.rbit (Reg.traceStat p) 1 then (d, [])
  else
    let w := d.rf (Reg.traceStat p) 34 8
    let a := d.traceWrite p (BitVec.ofNat 8 (0x06 + arg * 16) :: leBytes 8 d.ns)
    let post := Nat.min (d.rf (Reg.traceCtl p) 31 8 * 64) (d.traceCap p - 4096)
    let d1 := (a.1.setTrace p { a.1.trace p with postLeft := post }).setRf (Reg.traceStat p) 1 1 1
    (d1, a.2 ++ [traceEv p 0xE004 [(1, 1, arg), (4, 4, w)]])

/-- Room has returned: the packets staged are written, then GAP with the count lost and SYNC (R617, R620). -/
def Device.traceResume (d : Device) (p : Nat) : Device × List Ev :=
  let t := d.trace p
  if d.spillHeld p then (d, [])
  else
    let d0 := d.setTrace p { t with staged := [], lost := 0 }
    let a := t.staged.foldl (fun (a : Device × List Ev) bs =>
      let r := a.1.tracePacket p bs
      (r.1, a.2 ++ r.2)) (d0, [])
    if t.lost = 0 then a
    else
      let b := a.1.tracePacket p ((0x07 : Byte) :: leBytes 4 t.lost)
      let c := b.1.tracePacket p (b.1.syncPacket p)
      (c.1.setTrace p { c.1.trace p with sinceSync := 0 }, a.2 ++ b.2 ++ c.2 ++ [traceEv p 0xE006 [(4, 4, t.lost)]])

/-! ## Emission -/

/-- The partitions whose ports see a record of a unit: the unit's cluster, or every steward for the hub (R619). -/
def watchers (s : EvSrc) : List Nat :=
  if s.die = 8 then [128, 129, 130, 131]
  else match s.cluster with
    | some c => if s.die < 8 ∧ c < 16 then [16 * s.die + c] else []
    | none => []

/-- One record is emitted: time, history, counter, ring, csr.ipend.EVENT, the fatal procedure's mark, and triggers by
code. Answers the records that the triggers cause (R37, R229, R449, R608, R619, R626, R628). -/
def Device.emitOne (d : Device) (e : Ev) : Device × List Ev :=
  let rec' : EventRec :=
    { time := BitVec.ofNat 64 d.ns, src := e.src, code := e.code, cls := e.cls, poison := e.poison, lost := false,
      detail := detailOf e.detail }
  let d1 := { d with log := ⟨(rec' :: d.log.history).take 4096, d.log.count + 1⟩ }
  let d2 := (d1.addRf (Reg.dbgCnt 5) 47 0 1).ringEvent e.origin rec'
  let d3 := (watchers e.src).foldl (fun d p => d.onCore (partCore p) (fun k => k.notify 2)) d2
  let d4 :=
    if e.cls = .fatal then
      { d3 with fatal := some (match d3.fatal with
          | none => ⟨rec', 0⟩
          | some f => { f with more := satBits 16 (f.more + 1) }) }
    else d3
  (watchers e.src).foldl (fun (a : Device × List Ev) p =>
    if d.rbit (Reg.traceStat p) 0 && decide (a.1.rf (Reg.traceCtl p) 47 32 = e.code) && decide (e.code ≠ 0) then
      let r := a.1.traceTrigger p 2
      (r.1, a.2 ++ r.2)
    else a) (d4, [])

/-- Records are emitted in order, each followed by those its triggers cause; a partition triggers once, so the depth
is bounded. -/
def Device.emitFuel : Nat → Device → List Ev → Device
  | 0, d, _ => d
  | n + 1, d, es => es.foldl (fun d e => let r := d.emitOne e; Device.emitFuel n r.1 r.2) d

/-- Records are emitted in order. -/
def Device.emitAll (d : Device) (es : List Ev) : Device := Device.emitFuel 8 d es

/-- One record is emitted. -/
def Device.emit (d : Device) (src : EvSrc) (code : Nat) (cls : EvClass) (poison : Bool) (det : List Byte)
    (origin : Option (Nat × Nat) := none) : Device :=
  d.emitAll [⟨src, code, cls, poison, det, origin⟩]

/-- A step of a trace port, with the records it causes emitted. -/
def Device.traced (r : Device × List Ev) : Device := r.1.emitAll r.2

/-- An ISLAND packet: an island of a cluster stopped, or restarted, at a table-clock time in ns (R615). -/
def islandPacket (stop : Bool) (island ns : Nat) : List Byte :=
  [if stop then 0x18 else 0x08, BitVec.ofNat 8 island, 0] ++ leBytes 8 ns

/-- An island of a cluster stops or restarts: while ISLAND_EN = 1 the port of its control core writes ISLAND (R621). -/
def Device.islandNote (d : Device) (cl : ClusterId) (stop : Bool) (island : Nat) : Device :=
  let p := partOf (ctrlOf cl)
  if d.rbit (Reg.traceCtl p) 3 then Device.traced (d.traceWrite p (islandPacket stop island d.ns)) else d

/-- A control core's own island stops: the reset controller holds the time (R621). -/
def Device.ownIslandStop (d : Device) (c : CoreId) : Device :=
  d.setTrace (partOf c) { d.trace (partOf c) with ownStop := some d.ns }

/-- A control core's own island restarts: on a cluster control core ISLAND for the stop held and for the start, then SYNC
(R617, R621). -/
def Device.ownIslandStart (d : Device) (c : CoreId) : Device :=
  let p := partOf c
  match (d.trace p).ownStop with
  | none => d
  | some t =>
    let d1 := d.setTrace p { d.trace p with ownStop := none }
    let d2 := if c.die < 8 ∧ d1.rbit (Reg.traceCtl p) 3 = true then
        (Device.traced (d1.traceWrite p (islandPacket true 0x22 t))).islandNote (cluOfCore c) false 0x22 else d1
    let d3 := Device.traced (d2.traceWrite p (d2.syncPacket p))
    if d3.rbit (Reg.traceStat p) 0 then d3.setTrace p { d3.trace p with sinceSync := 0 } else d3

/-- The queue of the launch or copy that an OP_TAG came from: the oldest one in flight that carries it; its event ring receives the records
of the operations under that tag (R449; log 212). -/
def Device.tagOrigin (d : Device) (tag : Nat) : Option (Nat × Nat) :=
  (d.entries.find? fun e => (decide (leAt e.bytes 0 1 = 1) || decide (leAt e.bytes 0 1 = 2)) && decide (leAt e.bytes 2 2 = tag)).map
    fun e => (e.fn, e.queue)

/-- The queue whose event ring receives the records of a core's work (R449). -/
def Device.originOf (d : Device) (c : CoreId) : Option (Nat × Nat) :=
  if isCompute c then
    match (d.core c).launch with
    | some (f, q, _) => some (f, q)
    | none => none
  else none

end Sys2Proof.Machine
end

