-- ==== Sys2Proof/Machine/Chute.lean ====
section
/-!
DEFINITION. Packets, chutes and cluster routers (chapter 02, R41 to R81). Network numbers are the VNET encoding of R43;
router ports are numbered local 0, north 1, east 2, south 3, west 4 (R51).
-/
namespace Sys2Proof.Machine

/-! ## Headers (R43) -/

/-- The 128 bits of a header; reserved bits are zero (R43, R44). -/
def headerWord (h : Header) : Nat :=
  h.dstDie.toNat + h.dstCluster.toNat <<< 4 + h.dstCore.toNat <<< 8 + h.dstUnit.toNat <<< 16 + h.vnet.toNat <<< 24
    + ofBool h.poison <<< 26 + ofBool h.last <<< 27 + ofBool h.compressed <<< 28 + ofBool h.observed <<< 29
    + ofBool h.zmask <<< 30 + h.srcDie.toNat <<< 32 + h.srcCluster.toNat <<< 36 + h.srcCore.toNat <<< 40
    + h.srcUnit.toNat <<< 48 + h.codebook.toNat <<< 56 + h.opTag.toNat <<< 64 + h.width.toNat <<< 80
    + h.len.toNat <<< 84 + h.blocks.toNat <<< 96 + h.tscale.toNat <<< 104 + h.epoch.toNat <<< 112

/-- The bytes of a header. -/
def headerBytes (h : Header) : List Byte := leBytes 16 (headerWord h)

/-- The header that 128 bits spell; reserved bits are ignored (R43, R44). -/
def headerOf (w : Nat) : Header :=
  { dstDie := .ofNat 4 w, dstCluster := .ofNat 4 (w >>> 4), dstCore := .ofNat 8 (w >>> 8), dstUnit := .ofNat 8 (w >>> 16)
    vnet := .ofNat 2 (w >>> 24), poison := bitAt w 26, last := bitAt w 27, compressed := bitAt w 28
    observed := bitAt w 29, zmask := bitAt w 30, srcDie := .ofNat 4 (w >>> 32), srcCluster := .ofNat 4 (w >>> 36)
    srcCore := .ofNat 8 (w >>> 40), srcUnit := .ofNat 8 (w >>> 48), codebook := .ofNat 8 (w >>> 56)
    opTag := .ofNat 16 (w >>> 64), width := .ofNat 4 (w >>> 80), len := .ofNat 11 (w >>> 84)
    blocks := .ofNat 8 (w >>> 96), tscale := .ofNat 8 (w >>> 104), epoch := .ofNat 16 (w >>> 112) }

/-- LEN of 128 header bits. -/
def hdrLen (w : Nat) : Nat := bitsOf w 94 84

/-- Wide words of a packet with this header (R56). -/
def hdrWords (w : Nat) : Nat := 1 + (hdrLen w + 63) / 64

/-- A reserved encoding in WIDTH or LEN, or CODEBOOK ≠ 0 while WIDTH is not 0x1 to 0x8 (R43, R57). -/
def hdrInvalid (w : Nat) : Bool :=
  let width := bitsOf w 83 80
  decide (0xC ≤ width) || decide (1024 < hdrLen w)
    || (decide (bitsOf w 63 56 ≠ 0) && !(decide (1 ≤ width) && decide (width ≤ 8)))

/-- A header-only response: to the source of a request, with its OP_TAG (R62). -/
def responseHdr (req : Header) (poison : Bool) (src : EvSrc) : Header :=
  { dstDie := req.srcDie, dstCluster := req.srcCluster, dstCore := req.srcCore, dstUnit := req.srcUnit, vnet := 1
    poison := poison, last := true, compressed := false, observed := false, zmask := false
    srcDie := .ofNat 4 src.die, srcCluster := .ofNat 4 (src.cluster.getD 0), srcCore := .ofNat 8 src.core
    srcUnit := .ofNat 8 src.unit, codebook := 0, opTag := req.opTag, width := 0, len := 0, blocks := 0, tscale := 0
    epoch := req.epoch }

/-! ## Parity (R58) -/

/-- The parity bit that makes a 32-bit word odd (R58). -/
def parityBit (w : Nat) : Bool := decide (popCount 32 w % 2 = 0)

/-- The sixteen parity bits of a wide word. -/
def parityOf (data : Nat) : W16 :=
  BitVec.ofNat 16 ((List.range 16).foldl (fun a j => a + ofBool (parityBit (bitsOf data (32 * j + 31) (32 * j))) <<< j) 0)

/-- Number of 32-bit words that fail their check, and whether one of them holds a valid byte (R58, R59). -/
def parityFails (data : Nat) (par : W16) (mask : Nat) : Nat × Bool :=
  (List.range 16).foldl (fun (a : Nat × Bool) j =>
    if parityBit (bitsOf data (32 * j + 31) (32 * j)) == par.getLsbD j then a
    else (a.1 + 1, a.2 || decide (bitsOf mask (4 * j + 3) (4 * j) ≠ 0))) (0, false)

/-! ## Which unit a chute belongs to -/

/-- The source of a chute's records: the unit that holds its read side, with the chute's index (R81, R358, DEDUCED, log 7). -/
def chuteSrc (ch : ChuteId) : EvSrc :=
  match ch.block with
  | .core d c k =>
    ⟨d, some c, k, if k = 0x22 then 0x00 else if ch.index < 64 then 0x01 else 0x04, ch.index⟩
  | .steward s => ⟨8, none, s, 0x00, ch.index⟩
  | .cluster d c => ⟨d, some c, 0xFF, if ch.index < 20 then 0x10 else 0x13, ch.index⟩
  | .die d => ⟨d, none, 0xFF, 0x20, ch.index⟩
  | .hubStop _ => srcHub 0x20 ch.index
  | .memGroup d _ => ⟨d, none, 0xFF, 0x21, ch.index⟩
  | .pci => srcHub 0x30 ch.index
  | .peer _ => srcHub 0x31 ch.index
  | .hubSec => srcHub 0x32 ch.index
  | .hubStore => srcHub 0x36 ch.index
  | _ => srcHub 0x3F ch.index

/-- The read side of a chute is a unit that consumes the packet, not one that passes it on (R57, R358). -/
def chuteConsumes (ch : ChuteId) : Bool :=
  match ch.block with
  | .core _ _ _ => decide (ch.index < 69)
  | .steward _ => decide (ch.index < 69)
  | .cluster _ _ => decide (20 ≤ ch.index) && decide (ch.index < 24)
  | .memGroup _ _ => decide (ch.index < 4)
  | .pci => decide (ch.index < 4)
  | .hubSec => decide (ch.index < 4)
  | .hubStore => decide (ch.index < 4)
  | _ => false

/-- A chute of a peer port: it carries link flits, not packets of one network (R47, R54). -/
def carriesFlits (ch : ChuteId) : Bool :=
  match ch.block with
  | .peer _ => true
  | _ => false

/-- The network of a chute's packets (R358). -/
def chuteNet (ch : ChuteId) : Nat :=
  match ch.block with
  | .core _ _ _ => if ch.index < 65 then 2 else (ch.index - 65) % 4
  | .steward _ => (ch.index - 65) % 4
  | .memGroup _ _ => if ch.index < 4 then 0 else 1
  | _ => ch.index % 4

/-- The network of the packet with these header bits in a chute: a link flit names its virtual channel in bits [4:2], two channels
to a network (R466, R467). -/
def packetNet (ch : ChuteId) (hdr : Nat) : Nat := if carriesFlits ch then bitsOf hdr 4 3 else chuteNet ch

/-- The cluster whose local port a memory-controller group attaches to (R354). -/
def groupCluster (g : Nat) : Nat := [0x0, 0x1, 0x2, 0x3, 0x7, 0xB, 0xF, 0xE, 0xD, 0xC, 0x8, 0x4].getD g 0

/-- The die-link instance a packet from die s to another die leaves by: 0 hub, 1 ring to s + 7, 2 ring to s + 1
(R20, R37, R50). -/
def linkTo (s dst : Nat) : Nat := if dst = (s + 1) % 8 then 2 else if dst = (s + 7) % 8 then 1 else 0

/-- The cluster a die link attaches to. -/
def linkCluster (link : Nat) : Nat := if link = 0 then 0x5 else if link = 1 then 0x4 else 0x7

/-- The input port of the next router behind an output port, and that router. -/
def neighbour (c port : Nat) : Nat × Nat :=
  match port with
  | 1 => (c - 4, 3)
  | 2 => (c + 1, 4)
  | 3 => (c + 4, 1)
  | _ => (c - 1, 2)

/-- The ports of a router behind which another router stands. -/
def meshPorts (c : Nat) : List Nat :=
  (if 4 ≤ c then [1] else []) ++ (if c % 4 < 3 then [2] else []) ++ (if c < 12 then [3] else []) ++ (if 0 < c % 4 then [4] else [])

/-- An input chute of a router. -/
def routerIn (r : ClusterId) (port net : Nat) : ChuteId := ⟨.cluster r.die r.cluster, 4 * port + net⟩

/-! ## Islands on both sides of a chute (R27, R558, R559) -/

/-- A core's island is stopped: in block reset, parked, or a core out of service (R27). -/
def Core.stopped (k : Core) : Bool := decide (k.run = .blockReset) || decide (k.run = .off) || k.parked

/-- The block is behind its wrapper. -/
def Device.wrapped (d : Device) (b : Block) : Bool :=
  match b with
  | .core x c k => decide ((d.core ⟨x, c, k⟩).run = .blockReset) || d.rst.clusters.contains (16 * x + c)
  | .cluster x c => d.rst.clusters.contains (16 * x + c)
  | .steward k => decide ((d.core (steward k)).run = .blockReset)
  | .peer p => d.rst.ports.contains p
  | _ => false

/-- The block whose unit reads a chute: a router reads what cores, die links and memory groups send into the mesh. -/
def readerOf (ch : ChuteId) : Block :=
  match ch.block with
  | .core d c k => if ch.index < 69 then .core d c k else .cluster d c
  | .steward s => if ch.index < 69 then .steward s else .hub
  | .die d => if ch.index % 8 < 4 then .cluster d (linkCluster (ch.index / 8)) else .die d
  | .memGroup d g => if ch.index < 4 then .memGroup d g else .cluster d (groupCluster g)
  | b => b

/-- The block whose unit writes a chute. -/
def writerOf (ch : ChuteId) : Block :=
  match ch.block with
  | .core d c k => if ch.index < 65 ∨ 69 ≤ ch.index then .core d c k else .cluster d c
  | .steward s => if 69 ≤ ch.index then .steward s else .hub
  | .cluster d c =>
    if 4 ≤ ch.index ∧ ch.index < 20 ∧ (meshPorts c).contains (ch.index / 4) = true then .cluster d (neighbour c (ch.index / 4)).1
    else .cluster d c
  | .die d => if ch.index % 8 < 4 then .die d else .cluster d (linkCluster (ch.index / 8))
  | .memGroup d g => if ch.index < 4 then .cluster d (groupCluster g) else .memGroup d g
  | b => b

/-- A block's island clock is stopped: in block reset, by itself or with its cluster, parked, or out of service (R27). -/
def Device.islandStopped (d : Device) (b : Block) : Bool :=
  d.wrapped b || (match b with
    | .core x c k => (d.core ⟨x, c, k⟩).stopped
    | .steward k => (d.core (steward k)).stopped
    | _ => false)

/-- The read side of a chute stands in a block behind its wrapper, and its write side does not. -/
def Device.readerWrapped (d : Device) (ch : ChuteId) : Bool := d.wrapped (readerOf ch) && !(d.wrapped (writerOf ch))

/-! ## Watermarks (R65) -/

/-- Depth of a chute. -/
def depthOf (ch : ChuteId) : Nat := (chuteDepth ch.block ch.index).getD 0

/-- The watermark level after a change of occupancy or of HIGH and LOW (R65). A chute of the response network never asserts it
(R48). -/
def Device.chuteLevel (d : Device) (ch : ChuteId) (c : Chute) : Bool :=
  let o := Reg.chuteCtl ch
  if chuteNet ch = 1 ∧ carriesFlits ch = false then false
  else if d.rf o 10 8 * depthOf ch / 8 ≤ c.words.length then true
  else if c.words.length ≤ d.rf o 14 12 * depthOf ch / 8 then false
  else c.level

/-- The module with a chute replaced and its level brought up to date. -/
def Device.putChute (d : Device) (ch : ChuteId) (c : Chute) : Device :=
  d.setChute ch { c with level := d.chuteLevel ch c }

/-- The watermark output after HOLD_MODE (R65); PEER_HOLD_OUT[n] carries that of peer port n (R67, R68). -/
def Device.holdOut (d : Device) (ch : ChuteId) : Bool :=
  match d.rf (Reg.chuteCtl ch) 17 16 with
  | 0 => (d.chute ch).level
  | 1 => true
  | 2 => false
  | _ => (d.chute ch).frozen

/-- CHUTE_STAT as read (R80). -/
def Device.chuteStatValue (d : Device) (ch : ChuteId) : Nat :=
  let c := d.chute ch
  setBits (d.regN (Reg.chuteStat ch)) 8 0
    (c.words.length + ofBool (d.holdOut ch) <<< 7 + ofBool c.discarding <<< 8)

/-! ## The write side (R55 to R57, R66, R74) -/

/-- Flits received and sent on a die link (R608): a wide word begun in a receive chute of the link. -/
def Device.countLink (d : Device) (ch : ChuteId) (sent : Bool) : Device :=
  match ch.block with
  | .die n =>
    if decide (4 ≤ ch.index % 8) == sent then
      d.addRf (Reg.dieCnt n (if sent then ch.index / 8 else 3 + ch.index / 8)) 47 0 1
    else d
  | _ => d

/-- The enabled bytes of a narrow word, in order (R55). -/
def narrowBytes (n : NarrowWord) : List Byte :=
  (List.range 16).filterMap fun i => if n.enable.getLsbD i then some (BitVec.ofNat 8 (n.data.toNat >>> (8 * i))) else none

/-- A wide word with bytes appended to its valid bytes; invalid bytes stay zero (R56). -/
def WideWord.append (w : WideWord) (bs : List Byte) : WideWord :=
  let i := popCount 64 w.mask.toNat
  let data := w.data.toNat + leNat bs <<< (8 * i)
  { w with data := BitVec.ofNat 512 data, mask := BitVec.ofNat 64 (w.mask.toNat + (2 ^ bs.length - 1) <<< i), par := parityOf data }

/-- A wide word with nothing in it. -/
def WideWord.blank : WideWord := ⟨0, 0, 0, false, false, false, false, false⟩

/-- A header word: bytes 0 to 15, all valid (R56). -/
def WideWord.header (h : BitVec 128) (start : Bool) : WideWord :=
  ⟨h.setWidth 512, 0xFFFF, parityOf h.toNat, true, start, false, false, false⟩

/-- The bytes that are valid in a wide word. -/
def WideWord.bytes (w : WideWord) : List Byte :=
  (List.range 64).filterMap fun i => if w.mask.getLsbD i then some (BitVec.ofNat 8 (w.data.toNat >>> (8 * i))) else none

/-- A wide word to which nothing more will be written: a header, a full word or the last of its packet. -/
def WideWord.whole (w : WideWord) : Bool := w.hdr || w.eop || decide (w.mask = 0xFFFF_FFFF_FFFF_FFFF)

/-- The last element of a list changed. -/
def mapLast {α : Type} (f : α → α) : List α → List α
  | [] => []
  | [x] => [f x]
  | x :: y :: r => x :: mapLast f (y :: r)

/-- The header word of the packet being written gets POISON, where it still is in the chute; else its last word is
poisoned, which poisons the packet for its consumer (R57, R60, DEDUCED, log 32). -/
def poisonPacket (ws : List WideWord) : List WideWord :=
  let tail := (ws.reverse.takeWhile fun w => !w.hdr).length
  if tail < ws.length then
    (ws.take (ws.length - 1 - tail)) ++
      ((ws.drop (ws.length - 1 - tail)).mapIdx fun i w =>
        if i = 0 then
          let x := w.data.toNat ||| (1 <<< 26)
          { w with data := BitVec.ofNat 512 x, par := parityOf x }
        else w)
  else mapLast (fun w => { w with bad := true }) ws

/-- Payload bytes follow those written already: they fill the last wide word, then begin the next (R56). -/
def pushPayload (ws : List WideWord) (written : Nat) (bs : List Byte) : List WideWord :=
  let room := (64 - written % 64) % 64
  let ws' := if room = 0 ∨ bs.isEmpty = true then ws else mapLast (fun w => w.append (bs.take room)) ws
  if (bs.drop room).isEmpty then ws' else ws' ++ [WideWord.blank.append (bs.drop room)]

/-- What a narrow word makes of the packet in progress: the words, the packet still in progress, whether the packet ended,
whether its byte count differed from LEN, and LAST (R56, R57). -/
structure Pushed where
  words : List WideWord
  writing : Option ChuteProducer
  ended : Bool
  wrong : Bool
  last : Bool
  deriving DecidableEq, Repr

/-- One narrow word reaches the write side: header or payload of the packet in progress (R56, R57). -/
def chutePush (ws : List WideWord) (start : Bool) (wr : Option ChuteProducer) (n : NarrowWord) : Pushed :=
  let p := wr.getD ⟨n.data, 0⟩
  let written := if wr.isNone then 0 else p.written + (narrowBytes n).length
  let ws' := if wr.isNone then ws ++ [WideWord.header n.data start] else pushPayload ws p.written (narrowBytes n)
  let lst := bitAt p.hdr.toNat 27
  if n.last then ⟨mapLast (fun w => { w with eop := true, fin := lst }) ws', none, true, decide (written ≠ hdrLen p.hdr.toNat), lst⟩
  else ⟨ws', some ⟨p.hdr, written⟩, false, false, lst⟩

/-- A narrow word is about to begin a new wide word. -/
def chuteBegins (wr : Option ChuteProducer) (n : NarrowWord) : Bool :=
  match wr with
  | none => true
  | some p => decide (0 < (narrowBytes n).length) && (decide (p.written % 64 = 0) || decide (64 < p.written % 64 + (narrowBytes n).length))

/-- HEADER_INVALID of a header that does not fit its packet (R57, R81). -/
def Device.wrongCount (d : Device) (ch : ChuteId) (h : Nat) : Device :=
  d.emit (chuteSrc ch) 0x1003 .deferred true (detail [(0, 16, h)]) (d.tagOrigin (bitsOf h 79 64))

/-- The header-only response of a block's wrapper to a request (R559). -/
def Device.wrapResponse (d : Device) (b : Block) (h : Header) : Device :=
  d.send (.wrapper b (headerBytes (responseHdr h true (srcHub 0x34 0))) true)

/-- A word that arrives at a chute which keeps nothing: it is discarding (R74), or the wrapper of the block that reads it accepts and
discards items and answers requests (R559). -/
def Device.discardWord (d : Device) (ch : ChuteId) (hdr : Option Nat) (narrow : Nat) (done : Bool) : Device :=
  let c := d.chute ch
  let d1 := match hdr with
    | some h => if !c.discarding && !c.midItem && decide (chuteNet ch = 0) then d.wrapResponse (readerOf ch) (headerOf h) else d
    | none => d
  let d2 := d1.setChute ch { c with discarding := !done, midItem := !done, feeder := if done then none else c.feeder }
  if c.discarding then d2.addRf (Reg.chuteStat ch) 47 32 narrow else d2

/-- The consumer has taken the whole packet at the head: CHUTE_PARITY is emitted where a word of it was poisoned (R61), and a unit
that consumes it takes the packet poisoned where its header or a word of it is (R60). -/
def Device.endTake (d : Device) (ch : ChuteId) : Device :=
  let c := d.chute ch
  let h := c.lastHdr.toNat
  let d1 := d.setChute ch { c with taking := false, taken := [], badWords := 0, badPacket := false }
  let d2 := if c.badPacket then
      d1.emit (chuteSrc ch) 0x1001 .deferred true (detail [(0, 2, bitsOf h 79 64), (2, 1, packetNet ch h), (4, 2, c.badWords)])
        (d.tagOrigin (bitsOf h 79 64))
    else d1
  if chuteConsumes ch then
    d2.send (.took ch ⟨{ headerOf h with poison := bitAt h 26 || c.badPacket }, c.taken⟩)
  else d2

/-- A packet ends before its LEN when every word of it was taken: the consumer takes it poisoned (R57, DEDUCED, log 32). -/
def Device.endShort (d : Device) (ch : ChuteId) : Device :=
  let c := d.chute ch
  (d.setChute ch { c with lastHdr := BitVec.ofNat 128 (setBits c.lastHdr.toNat 26 26 1) }).endTake ch

/-- A producer writes a narrow word into a chute (R55 to R57, R74). A producer held off by the watermark writes nothing (R66);
nor does one for which the chute has no room, or while another chute's item is being passed on into it (R52). -/
def Device.chuteWrite (d : Device) (ch : ChuteId) (n : NarrowWord) : Device :=
  let c := d.chute ch
  let r := chutePush c.words (!c.midItem) c.writing n
  let done := r.ended && r.last
  if c.midItem && c.feeder.isSome then d
  else if c.discarding || d.readerWrapped ch then
    let d1 := d.discardWord ch (if c.writing.isNone then some n.data.toNat else none) 1 done
    d1.setChute ch { (d1.chute ch) with writing := r.writing }
  else if d.holdOut ch && !(carriesFlits ch) || (chuteBegins c.writing n && decide (depthOf ch ≤ c.words.length)) then d
  else
    let ws := if r.wrong then poisonPacket r.words else r.words
    let d1 := if chuteBegins c.writing n then d.countLink ch false else d
    let d2 := d1.putChute ch
      { c with words := ws, writing := r.writing, midItem := !done,
               headSince := if c.words.isEmpty then d.clock else c.headSince }
    let d3 := if r.wrong then d2.wrongCount ch (c.writing.getD ⟨n.data, 0⟩).hdr.toNat else d2
    if r.ended && ws.isEmpty && c.taking then
      let d4 := if r.wrong then d3.endShort ch else d3.endTake ch
      d4.setChute ch { (d4.chute ch) with conMid := !done }
    else d3

/-- The packet being passed on into a chute ends before its LEN, since its source was flushed (R57, R73, DEDUCED, log 162). -/
def Device.cutPacket (d : Device) (ch : ChuteId) : Device :=
  let c := d.chute ch
  match c.writing with
  | none => d
  | some p =>
    let ws := mapLast (fun w => { w with eop := true }) c.words
    if p.written = hdrLen p.hdr.toNat then d.setChute ch { c with words := ws, writing := none }
    else
      let d1 := (d.setChute ch { c with words := poisonPacket ws, writing := none }).wrongCount ch p.hdr.toNat
      if ws.isEmpty && c.taking then d1.endShort ch else d1

/-- A wide word is passed on into a chute: parity bits are written anew, the POISON sideband stays with it (R58, R60). -/
def Device.passInto (d0 : Device) (ch : ChuteId) (src : Nat) (w : WideWord) : Device :=
  if (d0.chute ch).discarding || d0.readerWrapped ch then
    let c := d0.chute ch
    let d1 := d0.discardWord ch (if w.hdr then some (w.data.toNat % 2 ^ 128) else none) ((popCount 64 w.mask.toNat + 15) / 16) w.fin
    d1.setChute ch { (d1.chute ch) with
      feeder := if w.fin then none else some src
      writing := if w.eop then none else if w.hdr then some ⟨w.data.setWidth 128, 0⟩ else c.writing }
  else
    let d := if w.hdr then d0.cutPacket ch else d0
    let c := d.chute ch
    let p : ChuteProducer := if w.hdr then ⟨w.data.setWidth 128, 0⟩ else c.writing.getD ⟨0, 0⟩
    let written := if w.hdr then 0 else p.written + popCount 64 w.mask.toNat
    let wrong := w.eop && decide (written ≠ hdrLen p.hdr.toNat)
    let ws := c.words ++ [{ w with par := parityOf w.data.toNat }]
    let d1 := (d.countLink ch false).putChute ch
      { c with words := if wrong then poisonPacket ws else ws, writing := if w.eop then none else some ⟨p.hdr, written⟩, midItem := !w.fin,
               feeder := if w.fin then none else some src, headSince := if c.words.isEmpty then d.clock else c.headSince }
    if wrong then d1.wrongCount ch p.hdr.toNat else d1

/-- A word from a chute may be passed on into another: no other item is on its way into it (R52, R74), and it is discarded there, or
there is room and the watermark does not hold (R66). -/
def Device.mayPassInto (d : Device) (ch : ChuteId) (src : Nat) : Bool :=
  let c := d.chute ch
  (!c.midItem || decide (c.feeder = some src)) &&
    (c.discarding || d.readerWrapped ch || (!(d.holdOut ch) && decide (c.words.length < depthOf ch)))

/-! ## The read side (R58 to R64, R73) -/

/-- Wide words of the head packet that are in the chute. -/
def headWords (ws : List WideWord) : Nat :=
  match ws with
  | [] => 0
  | w :: r => if w.hdr then 1 + (r.takeWhile fun x => !x.hdr).length else 0

/-- The whole of the head packet is in the chute. -/
def headWhole (ws : List WideWord) : Bool := (ws.take (headWords ws)).any WideWord.eop

/-- The effective threshold T of the head packet (R64). -/
def Device.threshold (d : Device) (ch : ChuteId) (n : Nat) : Nat :=
  let ct := d.rf (Reg.chuteCtl ch) 5 0
  Nat.min (if ct = 0 then n else ct) (Nat.min n (depthOf ch))

/-- The packet at the head may be taken: T of its words are present, or all that were written of it (R57, R64). -/
def Device.readyToTake (d : Device) (ch : ChuteId) : Bool :=
  match (d.chute ch).words with
  | [] => false
  | w :: r => w.hdr && (decide (d.threshold ch (hdrWords w.data.toNat) ≤ headWords (w :: r)) || headWhole (w :: r))

/-- The consumer begins to take the packet at the head (R64). -/
def Device.takeStart (d : Device) (ch : ChuteId) : Device :=
  let c := d.chute ch
  if c.stub.isNone && !c.taking && d.readyToTake ch then
    d.setChute ch { c with taking := true, taken := [], badWords := 0, badPacket := false }
  else d

/-- The read side delivers the next word: the stub, or the next word of the packet being taken once it is whole, as the upsets given
changed it (R58 to R61, R73). Answers the word with the POISON sideband in `bad`. -/
def Device.chutePop (d : Device) (ch : ChuteId) (upsets : Nat) : Device × Option WideWord :=
  let c := d.chute ch
  match c.stub with
  | some h =>
    let d1 := if c.taking && c.badPacket then d.endTake ch else d
    ((d1.setChute ch { c with stub := none, conMid := false, taking := false, taken := [], lastHdr := h, badWords := 0, badPacket := false }).endTake ch,
     some ⟨h.setWidth 512, 0xFFFF, parityOf h.toNat, true, false, true, false, true⟩)
  | none =>
    match c.words with
    | [] => (d, none)
    | w :: rest =>
      if !c.taking || !w.whole then (d, none)
      else
        let data := (w.data.toNat ^^^ upsets) % 2 ^ 512
        let fails := parityFails data w.par w.mask.toNat
        let bad := fails.2 || w.bad
        let invalid := w.hdr && chuteConsumes ch && hdrInvalid data
        let data' := if invalid then data ||| (1 <<< 26) else data
        let w' : WideWord := { w with data := BitVec.ofNat 512 data', bad := bad }
        let d1 := d.putChute ch
          { c with words := rest, conMid := !w.fin, lastHdr := if w.hdr then BitVec.ofNat 128 data' else c.lastHdr,
                   taken := if w.hdr then [] else c.taken ++ w'.bytes,
                   badWords := c.badWords + fails.1, badPacket := c.badPacket || bad, headSince := d.clock }
        let d2 := (d1.addRf (Reg.chuteStat ch) 31 16 fails.1).countLink ch true
        let d3 := if invalid then d2.wrongCount ch data else d2
        (if w.eop then d3.endTake ch else d3, some w')

/-! ## Flush (R72 to R77) -/

/-- The header of the flush stub (R73). -/
def stubHdr (h : Nat) : Nat :=
  let a := setBits (setBits (setBits (setBits h 26 26 1) 27 27 1) 28 28 0) 30 30 0
  setBits (setBits a 94 84 0) 103 96 0

/-- An item is in the chute or on its way into it of which no word that is in the chute is the first: the one whose first words
have left it, or the one being written none of whose words is in it. One that is being discarded was counted by an earlier flush. -/
def Chute.partItem (c : Chute) : Bool :=
  match c.words with
  | [] => c.midItem && !c.discarding
  | w :: _ => !w.start

/-- Items wholly or partly discarded by a flush (R80). -/
def flushItems (c : Chute) : Nat := (c.words.filter fun w => w.start).length + ofBool c.partItem

/-- The header of the part of an item that a chute holds. -/
def Chute.partHdr (c : Chute) : Nat :=
  match c.words with
  | [] => (match c.writing with
    | some p => p.hdr
    | none => c.lastHdr).toNat
  | _ => c.lastHdr.toNat

/-- The headers of the items that a flush discards, oldest first. -/
def flushHdrs (c : Chute) : List Nat :=
  (if c.partItem then [c.partHdr] else []) ++ (c.words.filter fun w => w.start).map fun w => w.data.toNat % 2 ^ 128

/-- OP_TAG of the first discarded item (R81). -/
def flushTag (c : Chute) : Nat :=
  match c.words with
  | w :: _ => if w.hdr then bitsOf w.data.toNat 79 64 else bitsOf c.lastHdr.toNat 79 64
  | [] => if c.partItem then bitsOf c.partHdr 79 64 else 0

/-- The first words of the data flits in a chute of a peer port (R466, four wide words to a flit). -/
def dataHeads (ws : List WideWord) : List Nat :=
  ((List.range (ws.length / 4)).map fun i => (ws.getD (4 * i) WideWord.blank).data.toNat).filter fun v => decide (v % 4 = 0)

/-- The flit is the first of its packet (R466). -/
def flitFirst (v : Nat) : Bool := bitAt v 5

/-- Packets wholly or partly in a chute of a peer port: idle and control flits belong to none (R80, R466, R470). -/
def flitItems (ws : List WideWord) : Nat :=
  ((dataHeads ws).filter flitFirst).length + ofBool (match dataHeads ws with
    | [] => false
    | v :: _ => !(flitFirst v))

/-- OP_TAG of the packet that a data flit belongs to: of the inner header in a first flit, else of the packet that its port is
receiving (R469, R470). -/
def Device.flitTag (d : Device) (ch : ChuteId) (v : Nat) : Nat :=
  if flitFirst v then bitsOf v 207 192
  else match ch.block with
    | .peer p => ((d.port p).parts.map fun k => leAt k.bytes 16 2).getD 0
    | _ => 0

/-- Items that a flush of a chute discards, and OP_TAG of the first (R80, R81). -/
def Device.flushed (d : Device) (ch : ChuteId) : Nat × Nat :=
  let c := d.chute ch
  if carriesFlits ch then (flitItems c.words, ((dataHeads c.words).head?.map (d.flitTag ch)).getD 0)
  else (flushItems c, flushTag c)

/-- The chute is emptied at the flush point. `cause` is 0 for a FLUSH write and 1 for a reset; a reset of the
consumer's island offers no stub and a reset of the producer's island ends the discarding state (R72 to R75, R77). -/
def Device.flushChute (d : Device) (ch : ChuteId) (cause : Nat) (conReset prodReset : Bool) : Device :=
  let c := d.chute ch
  let stub := c.conMid && !conReset
  let n := (d.flushed ch).1
  let c' : Chute :=
    { Chute.empty with
      writing := if prodReset then none else c.writing
      midItem := c.midItem && !prodReset
      discarding := (c.discarding || c.midItem) && !prodReset
      feeder := if c.midItem && !prodReset then c.feeder else none
      frozen := c.frozen
      taking := c.taking && stub
      conMid := stub
      lastHdr := c.lastHdr
      badWords := if stub then c.badWords else 0
      badPacket := c.badPacket && stub
      stub := if stub then some (BitVec.ofNat 128 (stubHdr c.lastHdr.toNat)) else none
      headSince := d.clock }
  ((d.putChute ch c').addRf (Reg.chuteStat ch) 55 48 n).emit (chuteSrc ch) 0x1002 .notice false
    (detail [(0, 1, cause), (1, 1, n), (2, 1, ofBool stub), (4, 2, (d.flushed ch).2)])
    (if n = 0 then none else d.tagOrigin (d.flushed ch).2)

/-- What the wrapper of a block makes of the items that a flush discarded: the requests addressed to it are answered poisoned, and so
are those outstanding to it whose responses were discarded (R76, R559). Answers how many it answered. -/
def Device.answerFlushed (d : Device) (b : Block) (ch : ChuteId) (c : Chute) (toBlock : Bool) : Device × Nat :=
  if decide (chuteNet ch = 0) && toBlock then
    ((flushHdrs c).foldl (fun d h => d.wrapResponse b (headerOf h)) d, (flushHdrs c).length)
  else if decide (chuteNet ch = 1) && !toBlock then
    ((flushHdrs c).foldl (fun d h => d.send (.wrapper b (leBytes 16 (stubHdr h)) true)) d, (flushHdrs c).length)
  else (d, 0)

/-- A chute that crosses the boundary of a block entering block reset is flushed (R77, R558). Answers how many transfers the wrapper
completed poisoned. -/
def Device.flushBoundary (d : Device) (b : Block) (ch : ChuteId) (reads : Bool) : Device × Nat :=
  (d.flushChute ch 1 reads (!reads)).answerFlushed b ch (d.chute ch) reads

/-- Firmware flushes a chute; the wrapper of a block in block reset at one end of it answers the requests discarded (R72, R76). -/
def Device.flushWrite (d : Device) (ch : ChuteId) : Device :=
  let d1 := d.flushChute ch 0 false false
  if d.wrapped (readerOf ch) then (d1.answerFlushed (readerOf ch) ch (d.chute ch) true).1
  else if d.wrapped (writerOf ch) then (d1.answerFlushed (writerOf ch) ch (d.chute ch) false).1
  else d1

/-- A write of CHUTE_CTL: R12, the pair of HIGH and LOW (R80), HOLD_MODE (R65) and FLUSH (R72). -/
def Device.writeChuteCtl (d : Device) (ch : ChuteId) (v : Nat) : Device :=
  let o := Reg.chuteCtl ch
  let old := d.regN o
  let new := fieldsWrite ((fieldsAt o).getD []) old v
  let new' := if bitsOf new 10 8 ≤ bitsOf new 14 12
    then setBits (setBits new 10 8 (bitsOf old 10 8)) 14 12 (bitsOf old 14 12) else new
  let c := d.chute ch
  let frozen := if bitsOf new' 17 16 = 3 ∧ bitsOf old 17 16 ≠ 3 then d.holdOut ch else c.frozen
  let d1 := d.setRegN o new'
  let d2 := d1.putChute ch { c with frozen := frozen }
  if bitAt v 24 then d2.flushWrite ch else d2

/-! ## Routers (R49 to R52, R62, R63, R354) -/

/-- The units that a die, cluster and core number can hold (R16, R37). -/
def unitKnown (die core unit : Nat) : Bool :=
  if die = 8 then
    if core = 0xFF then decide (0x20 = unit) || (decide (0x30 ≤ unit) && decide (unit ≤ 0x37)) || decide (unit = 0x3F)
    else decide (core < 4) && (decide (unit = 0x00) || decide (unit = 0x06))
  else if core = 0xFF then
    (decide (0x10 ≤ unit) && decide (unit ≤ 0x15)) || decide (unit = 0x20) || decide (unit = 0x21)
  else if core = 0x22 then decide (unit = 0x00) || decide (unit = 0x06)
  else decide (core < 0x22) && decide (unit ≤ 0x05)

/-- The core that a header's DST_CORE means: the one that replaced a core CSWAP retired (R63, R251). -/
def Cluster.deliversTo (x : Cluster) (core : Nat) : Nat := tget x.swapped core core

/-- The destination is present and not retired (R63). A memory controller has no chute but on the request network (R54): a packet of
another network finds no such unit there (DEDUCED, log 163). -/
def Device.destKnown (d : Device) (net : Nat) (h : Header) : Bool :=
  let die := h.dstDie.toNat
  let core := h.dstCore.toNat
  decide (die ≤ 8) && unitKnown die core h.dstUnit.toNat && (decide (h.dstUnit ≠ 0x21) || decide (net = 0)) &&
    (if die = 8 then true
     else
       let x := d.cluster ⟨die, h.dstCluster.toNat⟩
       !(decide (core < 0x22) && x.failed.contains core && !(x.failed.contains core && (tfind x.swapped core).isSome)))

/-- Where a packet leaves the mesh of a die: the cluster and the chute it is delivered to there. `addr` is the device
address of a memory request's control word (R49, R50, R354, R365). -/
def Device.routeEnd (d : Device) (die net : Nat) (h : Header) (addr : Nat) : Nat × ChuteId :=
  let dst := h.dstDie.toNat
  if dst ≠ die then
    let l := linkTo die dst
    (linkCluster l, ⟨.die die, 8 * l + 4 + net⟩)
  else if h.dstUnit = 0x21 then
    let j := (homeOf d.memsys.retired addr).1 % 48
    (groupCluster (j / 4), ⟨.memGroup die (j / 4), j % 4⟩)
  else
    let c := h.dstCluster.toNat
    if h.dstCore = 0xFF then (c, ⟨.cluster die c, 20 + net⟩)
    else (c, ⟨.core die c ((d.cluster ⟨die, c⟩).deliversTo h.dstCore.toNat), 65 + net⟩)

/-- The output port on the way from a cluster to another: along x, then along y (R49). -/
def portTo (c dst : Nat) : Nat :=
  if c % 4 < dst % 4 then 2 else if dst % 4 < c % 4 then 4
  else if c / 4 < dst / 4 then 3 else if dst / 4 < c / 4 then 1 else 0

/-- The address of a memory request: the first eight payload bytes after its header (R365). -/
def requestAddr (ws : List WideWord) : Nat :=
  match ws with
  | _ :: w :: _ => bitsOf w.data.toNat 51 0
  | _ => 0

/-- What the route of a packet depends on stands at the head of the chute: its header and, for a memory request, its address; a
lower threshold changes only timing (R24, R64). -/
def routable (net : Nat) (ws : List WideWord) : Bool :=
  match ws with
  | [] => false
  | [w] => w.eop || decide (net ≠ 0) || decide ((headerOf w.data.toNat).dstUnit ≠ 0x21)
  | w :: v :: _ => w.eop || decide (net ≠ 0) || decide ((headerOf w.data.toNat).dstUnit ≠ 0x21) || v.hdr || v.eop
      || decide (8 ≤ popCount 64 v.mask.toNat)

/-- The output that the packet at the head of an input goes to: the one begun, that of the item begun where a stub ends it, or the
route of its header once its threshold is reached (R49, R64, R73). -/
def Device.routeOf (d : Device) (r : ClusterId) (port net : Nat) : Option Nat :=
  let ch := routerIn r port net
  let c := d.chute ch
  let x := d.router r
  let k := 4 * port + net
  match c.stub with
  | some _ => if c.taking then tfind x.begun k
      else (x.locks.find? fun l => decide (l.1 % 4 = net) && decide (l.2 = port)).map fun l => l.1 / 4
  | none =>
    match c.words with
    | [] => none
    | w :: _ =>
      if c.taking then (if w.whole then tfind x.begun k else none)
      else if d.readyToTake ch && routable net c.words then
        let h := headerOf w.data.toNat
        if d.destKnown net h then some (portTo r.cluster (d.routeEnd r.die net h (requestAddr c.words)).1) else some 0
      else none

/-- The input an output serves: the one it is locked to, else the oldest waiting head, equal ages to the lower input
(R51, R52). -/
def Device.arbitrate (d : Device) (r : ClusterId) (port net : Nat) : Option Nat :=
  let ready := (List.range 5).filter fun i => decide (d.routeOf r i net = some port)
  match tfind (d.router r).locks (4 * port + net) with
  | some i => if ready.contains i then some i else none
  | none => ready.foldl (fun (best : Option Nat) i =>
      match best with
      | none => some i
      | some b =>
        if (d.chute (routerIn r i net)).headSince < (d.chute (routerIn r b net)).headSince then some i else some b) none

/-- Words of an item that a router does not forward are read and dropped, up to its LAST packet (R62, R63); fuel bounds them. Answers
whether the item has ended. -/
def Device.dropWords : Nat → Device → ChuteId → Nat → Device × Bool
  | 0, d, _, _ => (d, false)
  | n + 1, d, ch, upsets =>
    let r := (d.takeStart ch).chutePop ch upsets
    match r.2 with
    | none => (r.1, false)
    | some w => if w.fin then (r.1, true) else Device.dropWords n r.1 ch 0

/-- The words of an item being discarded leave an input up to its LAST packet (R62, R63). -/
def Device.dropItem (d : Device) (r : ClusterId) (port net : Nat) (upsets : Nat) : Device :=
  let k := 4 * port + net
  let x := d.router r
  if !(x.drop.contains k) then d
  else
    let ch := routerIn r port net
    let q := Device.dropWords ((d.chute ch).words.length + 1) d ch upsets
    if q.2 then q.1.setRouter r { x with drop := sremove x.drop k } else q.1

/-- Words move from an input to the next chute while that chute's watermark output leaves its producer free
(R66), up to the end of the packet begun. `fuel` bounds the words moved in one step by the depth of the input. -/
def Device.moveWords (d : Device) (r : ClusterId) (src dst : ChuteId) (fuel : Nat) : Device :=
  match fuel with
  | 0 => d
  | n + 1 =>
    if d.mayPassInto dst (chuteKey src) then
      let p := d.chutePop src 0
      match p.2 with
      | none => p.1
      | some w => ((p.1.passInto dst (chuteKey src) w).addRf (Reg.cluCnt r 15) 47 0 1).moveWords r src dst n
    else d

/-- The header at the head of an input is read and refused: the packet and the rest of its item are discarded, their words checked for
parity as they are read (R60 to R63). The response names the router in its source fields (DESIGN CHOICE, log 164). -/
def Device.refuse (d : Device) (r : ClusterId) (port net code : Nat) (cls : EvClass) (answer : Bool) (h : Nat) : Device :=
  let x := d.router r
  let d1 := d.setRouter r { x with drop := sinsert x.drop (4 * port + net) }
  let d2 := (d1.dropItem r port net 0).emit { srcClu r 0x10 with inst := 4 * port + net } code cls true (detail [(0, 16, h)])
    (d.tagOrigin (bitsOf h 79 64))
  if answer then d2.send (.packet ⟨responseHdr (headerOf h) true (srcClu r 0x10), []⟩) else d2

/-- The word at the head of a chute as upsets changed it. -/
def Device.upsetHead (d : Device) (ch : ChuteId) (upsets : Nat) : Device :=
  if upsets = 0 then d
  else
    let c := d.chute ch
    d.setChute ch { c with words := c.words.mapIdx fun k v => if k = 0 then { v with data := v.data ^^^ BitVec.ofNat 512 upsets } else v }

/-- A router output takes a head packet and forwards it (R49 to R52, R62, R63), or the stub that ends an item (R73). A header that passes
parity in word 0, fails it in word 1 and names no destination is met under R63, and the response goes to the source it names
(DESIGN CHOICE, log 165). -/
def Device.routePacket (d0 : Device) (r : ClusterId) (port net : Nat) (upsets : Nat) : Device :=
  let d1 := (List.range 5).foldl (fun d i => d.dropItem r i net 0) d0
  match d1.arbitrate r port net with
  | none => d1
  | some i =>
    let src := routerIn r i net
    let begun := (d1.chute src).taking || (d1.chute src).stub.isSome
    let d := if begun then d1 else d1.upsetHead src upsets
    let c := d.chute src
    let x := d.router r
    let head := c.words.headD WideWord.blank
    let seen := if begun then c.lastHdr.toNat else head.data.toNat % 2 ^ 128
    let fail := fun k => !(parityBit (bitsOf seen (32 * k + 31) (32 * k)) == head.par.getLsbD k)
    if !begun && fail 0 then
      let ok := decide (net = 0) && !(fail 1)
      d.refuse r i net 0x1004 (if ok then .deferred else .fatal) ok seen
    else if !begun && !(d.destKnown net (headerOf seen)) then
      d.refuse r i net 0x1005 .deferred (decide (net = 0)) seen
    else
      let addr := if begun then tget x.addrs (4 * i + net) 0 else requestAddr c.words
      let fin := d.routeEnd r.die net (headerOf seen) addr
      let dst := if portTo r.cluster fin.1 = 0 then fin.2
        else let nb := neighbour r.cluster (portTo r.cluster fin.1); routerIn ⟨r.die, nb.1⟩ nb.2 net
      let d2 := if begun then d
        else (d.takeStart src).setRouter r
          { x with locks := tput x.locks (4 * port + net) i, begun := tput x.begun (4 * i + net) port,
                   addrs := tput x.addrs (4 * i + net) addr }
      let d3 := d2.moveWords r src dst (c.words.length + 1)
      let c3 := d3.chute src
      if !begun && !(d.mayPassInto dst (chuteKey src)) then d1
      else if !c3.taking && c3.stub.isNone then
        let x3 := d3.router r
        d3.setRouter r { x3 with begun := tdel x3.begun (4 * i + net),
                                 addrs := if c3.conMid then x3.addrs else tdel x3.addrs (4 * i + net),
                                 locks := if c3.conMid then x3.locks else tdel x3.locks (4 * port + net) }
      else d3

/-! ## Crossings outside the mesh (R23, R50) -/

/-- The chute behind the hub crossbar for a packet of a network: the hub link of a compute die, or a unit of the hub; none: a unit that
has no chute there. -/
def crossbarTo (h : Header) (net : Nat) : Option ChuteId :=
  if h.dstDie.toNat < 8 then some ⟨.hubStop h.dstDie.toNat, 4 + net⟩
  else if h.dstCore.toNat < 4 then some ⟨.steward h.dstCore.toNat, 65 + net⟩
  else match h.dstUnit.toNat with
    | 0x30 => some ⟨.pci, net⟩
    | 0x32 => some ⟨.hubSec, net⟩
    | 0x36 => some ⟨.hubStore, net⟩
    | _ => none

/-- The chute that a word read from a chute goes on into: a sender's chute feeds its router's local port or the crossbar, a die link's
send chute the receive chute at its other end, a receive chute the mesh or the crossbar (R49, R50, R54); none: a unit or a router
takes it. -/
def chuteNext (ch : ChuteId) (h : Header) : Option ChuteId :=
  let net := chuteNet ch
  match ch.block with
  | .core d c _ => if 69 ≤ ch.index then some (routerIn ⟨d, c⟩ 0 net) else none
  | .steward _ => if 69 ≤ ch.index then crossbarTo h net else none
  | .cluster d c => if 24 ≤ ch.index then some (routerIn ⟨d, c⟩ 0 net) else none
  | .die d =>
    let l := ch.index / 8
    if ch.index % 8 < 4 then some (routerIn ⟨d, linkCluster l⟩ 0 net)
    else if l = 0 then some ⟨.hubStop d, net⟩
    else if l = 1 then some ⟨.die ((d + 7) % 8), 16 + net⟩
    else some ⟨.die ((d + 1) % 8), 8 + net⟩
  | .hubStop d => if ch.index < 4 then crossbarTo h net else some ⟨.die d, net⟩
  | .memGroup d g => if ch.index < 4 then none else some (routerIn ⟨d, groupCluster g⟩ 0 net)
  | .pci | .hubSec | .hubStore => if ch.index < 4 then none else crossbarTo h net
  | _ => none

/-- The header of the packet that the next word of a chute belongs to. -/
def Chute.nextHdr (c : Chute) : Header :=
  match c.stub, c.words with
  | some h, _ => headerOf h.toNat
  | none, w :: _ => headerOf (if w.hdr then w.data.toNat else c.lastHdr.toNat)
  | none, [] => headerOf c.lastHdr.toNat

/-- The next word of a chute may leave it: the island that reads it runs, and the chute it goes on into takes it. -/
def Device.mayRead (d : Device) (ch : ChuteId) : Bool :=
  !(d.islandStopped (readerOf ch)) && (match chuteNext ch (d.chute ch).nextHdr with
    | none => true
    | some dst => d.mayPassInto dst (chuteKey ch))

/-- The read side delivers a wide word, which goes on into the next chute on its way where there is one. -/
def Device.chuteRead (d : Device) (ch : ChuteId) (upsets : Nat) : Device :=
  if !(d.mayRead ch) then d
  else
    let r := d.chutePop ch upsets
    match r.2 with
    | none => r.1
    | some w =>
      let d1 := r.1.send (.chuteWord ch w.data w.mask w.bad)
      match chuteNext ch (d.chute ch).nextHdr with
      | none => d1
      | some dst => d1.passInto dst (chuteKey ch) w

/-- Parity failures that a read of a chute finds: in the word delivered (R59). -/
def Device.readFails (d : Device) (ch : ChuteId) (upsets : Nat) : Nat :=
  let c := d.chute ch
  match c.words with
  | w :: _ =>
    if d.mayRead ch && c.taking && w.whole && c.stub.isNone then (parityFails ((w.data.toNat ^^^ upsets) % 2 ^ 512) w.par w.mask.toNat).1
    else 0
  | [] => 0

/-! ## Commands -/

/-- ROUTE_PACKET (R49 to R52, R62, R63): a router whose island is stopped takes nothing (R27). -/
def execRoutePacket (r : ClusterId) (port net : Nat) (upsets : BitVec 128) (s : State) :
    Host.Outcome State Fault Refusal :=
  devNext s fun d =>
    if clusterPresent r && decide (port < 5) && decide (net < 4) && !(d.islandStopped (.cluster r.die r.cluster))
    then d.routePacket r port net upsets.toNat else d

/-- CHUTE_WRITE (R55 to R57, R65, R66, R74): a producer whose island is stopped writes nothing (R27). -/
def execChuteWrite (ch : ChuteId) (word : NarrowWord) (s : State) : Host.Outcome State Fault Refusal :=
  devNext s fun d => if chutePresent ch && !(d.islandStopped (writerOf ch)) then d.chuteWrite ch word else d

/-- PACKET_TAKE_START (R64): a consumer whose island is stopped takes nothing (R27). -/
def execPacketTakeStart (ch : ChuteId) (s : State) : Host.Outcome State Fault Refusal :=
  devNext s fun d => if chutePresent ch && !(d.islandStopped (readerOf ch)) then d.takeStart ch else d

/-- FLUSH: CHUTE_CTL.FLUSH is written (R72 to R76). -/
def execFlush (ch : ChuteId) (s : State) : Host.Outcome State Fault Refusal :=
  devNext s fun d => if chutePresent ch then d.flushWrite ch else d

/-- CHUTE_STAT_READ: the value is answered and the RC counters clear (R78, R80). -/
def execChuteStatRead (ch : ChuteId) (s : State) : Host.Outcome State Fault Refusal :=
  devNext s fun d =>
    if chutePresent ch then
      (d.send (.reg (Reg.chuteStat ch) (BitVec.ofNat 64 (d.chuteStatValue ch)))).clearRc (Reg.chuteStat ch)
    else d

end Sys2Proof.Machine
end

