-- ==== Sys2Proof/Machine/Flags.lean ====
section
/-!
DEFINITION. Conditions and predicate results: the compare conditions of CMP and CMPI (R236), of WAIT and BARRIER (R247),
the predicate operations of PLOG (R235), guards (R232), and how poison enters a result (R226).
-/
namespace Sys2Proof.Machine

/-- The conditions of CMP and CMPI (R236). -/
def condHolds (n : Nat) (a b : W64) : Bool :=
  match n with
  | 0 => decide (a = b)
  | 1 => decide (a ≠ b)
  | 2 => a.slt b
  | 3 => a.ult b
  | 4 => !(a.slt b)
  | 5 => !(a.ult b)
  | _ => false

/-- The conditions of WAIT, both sides unsigned (R247). -/
def waitHolds (n : Nat) (mem b : W64) : Bool :=
  match n with
  | 0 => decide (mem = b)
  | 1 => decide (mem ≠ b)
  | 2 => decide (b.toNat ≤ mem.toNat)
  | 3 => decide (mem.toNat < b.toNat)
  | _ => false

/-- The operations of PLOG: and, or, xor, and-not (R235). -/
def plogOp (n : Nat) (a b : Bool) : Bool :=
  match n with
  | 0 => a && b
  | 1 => a || b
  | 2 => a != b
  | 3 => a && !b
  | _ => false

/-- The guard of an instruction: whether it executes, and whether its predicate is poisoned (R232, R254). -/
def guardOf (k : Core) (w : Ins) : PBit :=
  let p := k.getP w.gp.toNat
  ⟨p.val != w.gn, p.poison⟩

/-- A result computed from operands: poisoned when any of them is (R226). -/
def pval (v : W64) (ops : List PVal) : PVal := ⟨v, ops.any fun o => o.poison⟩

end Sys2Proof.Machine
end

