-- ==== Sys2Proof/Machine/Mem.lean ====
section
/-!
DEFINITION. Device memory (R355 to R368, R374, R375): bytes and poison marks in one canonical form, the parts of the
stores that units own (the event history R628, the width-controller region R192, spill areas R622), what exists, and
the translation of functions (R361, R362).
-/
namespace Sys2Proof.Machine

/-- What a byte that nothing has written reads as (DESIGN CHOICE, log 3). -/
def memDefault : Byte := 0

/-- The byte kept at an address. -/
def Memory.get (m : Memory) (a : Nat) : Byte := tget m.cells memDefault a

/-- A byte put at an address; the byte an unlisted address reads as is not listed. -/
def Memory.put (m : Memory) (a : Nat) (b : Byte) : Memory :=
  { m with cells := if b = memDefault then tdel m.cells a else tput m.cells a b }

/-- Bytes put at rising addresses. -/
def Memory.putBytes (m : Memory) (a : Nat) (bs : List Byte) : Memory :=
  match bs with
  | [] => m
  | b :: r => (m.put a b).putBytes (a + 1) r

/-- No two of the numbers out of order. -/
def risingNats (l : List Nat) : Bool :=
  match l with
  | [] => true
  | [_] => true
  | a :: b :: r => decide (a < b) && risingNats (b :: r)

/-- The canonical form: addresses strictly rising, no byte listed that an unlisted address reads as, and the marks in
rising order. -/
def Memory.wf (m : Memory) : Bool :=
  tsorted m.cells && m.cells.all (fun c => !(c.2 == memDefault)) && risingNats m.poison && risingNats m.rewritten

/-- The first addresses of the poison units that n bytes at a touch. -/
def unitsOf (a n : Nat) : List Nat :=
  let u := poisonUnit a
  if n = 0 then [] else (List.range ((a + n - 1) / u - a / u + 1)).map fun i => (a / u + i) * u

/-! ## Blocks lost with a retired channel (R374) -/

/-- The LPDDR block at an address was held on a channel when that channel was retired. -/
def lostOnce (retired : List Nat) (a : Nat) : Bool :=
  (List.range (Nat.min retired.length 16)).any fun i =>
    decide ((homeOf (retired.take i) a).1 = retired.getD i 0)

/-- The address lies on a channel beyond the sixteen whose granules are given new homes (R376, R378). -/
def onDeadChannel (retired : List Nat) (a : Nat) : Bool := (retired.drop 16).contains (homeOf retired a).1

/-- A poison unit reads poisoned: marked, or an LPDDR block lost with its channel and not written whole since. -/
def State.unitPoisoned (s : State) (u : Nat) : Bool :=
  s.mem.poison.contains u ||
    (decide (u ≤ 0xB3F_FFFF_FFFF) &&
      ((lostOnce s.dev.memsys.retired u && !(s.mem.rewritten.contains u)) || onDeadChannel s.dev.memsys.retired u))

/-- A store whose block is in block reset: the wrapper answers every request for it poisoned, and nothing is written
(R559). -/
def State.behindWrapper (s : State) (a : Nat) : Bool :=
  match (regionOf a).1 with
  | .clusterStore d c => s.dev.rst.clusters.contains (16 * d + c)
  | .coreStore d c k => s.dev.rst.clusters.contains (16 * d + c) || decide ((s.dev.core ⟨d, c, k⟩).run = .blockReset)
  | _ => false

/-- Some of n bytes at an address read poisoned. -/
def State.poisoned (s : State) (a n : Nat) : Bool := (unitsOf a n).any s.unitPoisoned || s.behindWrapper a

/-- The marks of one unit after a write of n bytes at a: poisoned where the data is; clean where clean data covers the
whole unit; otherwise as before (R35, R367). -/
def Memory.markUnit (m : Memory) (a n : Nat) (p lost : Bool) (u : Nat) : Memory :=
  if p then { m with poison := sinsert m.poison u }
  else if a ≤ u ∧ u + poisonUnit u ≤ a + n then
    { m with poison := sremove m.poison u, rewritten := if lost then sinsert m.rewritten u else m.rewritten }
  else m

/-- A write of bytes with their poison (R35, R367). -/
def State.writeMem (s : State) (a : Nat) (bs : List Byte) (p : Bool) : State :=
  let m1 := s.mem.putBytes a bs
  { s with mem := (unitsOf a bs.length).foldl (fun m u =>
      m.markUnit a bs.length p (decide (u ≤ 0xB3F_FFFF_FFFF) && lostOnce s.dev.memsys.retired u) u) m1 }

/-! ## What exists (R355, R375) -/

/-- A device address falls on memory that is present and not retired. -/
def State.present (s : State) (a : Nat) : Bool :=
  match (regionOf a).1 with
  | .lpddr => !(inWindow s.dev.memsys.retired a)
  | .nothing => false
  | .regs => false
  | _ => true

/-- n bytes at a device address all fall on memory. -/
def State.presentRange (s : State) (a n : Nat) : Bool :=
  decide (0 < n) && (List.range ((a + n - 1) / 256 - a / 256 + 1)).all fun i => s.present ((a / 256 + i) * 256)

/-- While MEM.CAP.DUMP_EN = 1 an access through a function's translation to the LPDDR reserve fails as an access to
retired memory (R355). -/
def State.reserveClosed (s : State) (a : Nat) : Bool := s.dev.rbit Reg.memCap 7 && inReserve a

/-! ## Bytes as units see them -/

/-- Offset of the event history in the hub store (R628). -/
def historyOff : Nat := 0x3E0_0000

/-- Byte i of the ring of event history records (R628): record n stands in slot n mod 4,096; slots not yet used read
zero. -/
def EventLog.byte (l : EventLog) (i : Nat) : Byte :=
  let slot := i / 32
  let age := (l.count + 4096 - 1 - slot) % 4096
  if age < l.history.length then
    match l.history[age]? with
    | some r => r.bytes.getD (i % 32) 0
    | none => 0
  else 0

/-- The byte of the width-controller region at offset o from 0x7F_0000; the counter mirrors answer only their own core
(R192, R606). -/
def Cluster.wcByte (x : Cluster) (o : Nat) : Byte :=
  BitVec.ofNat 8 ((tget x.wc (0 : W64) (o / 8)).toNat >>> (8 * (o % 8)))

/-- Offset of the counter mirrors from 0x7F_0000, and their size (R606). -/
def inMirror (o : Nat) : Bool := decide (0x2000 ≤ o) && decide (o < 0x2000 + 256 * 34)

/-- Spilled trace byte of an LPDDR address, where one stands there (R622). -/
def Device.spillByte (d : Device) (a : Nat) : Option Byte :=
  if reserveBase + 0xC_0000_0000 ≤ a ∧ a < reserveBase + 0xC_0000_0000 + 132 * spillSize then
    let x := a - (reserveBase + 0xC_0000_0000)
    tfind (d.trace (x / spillSize)).spill (x % spillSize)
  else none

/-- The byte at a device address. -/
def State.byte (s : State) (a : Nat) : Byte :=
  match regionOf a with
  | (.hubStore, o) => if historyOff ≤ o then
      (if o < historyOff + 131072 then s.dev.log.byte (o - historyOff) else s.mem.get a) else s.mem.get a
  | (.clusterStore d c, o) =>
    if 0x7F_0000 ≤ o then
      (if inMirror (o - 0x7F_0000) then 0 else (s.dev.cluster ⟨d, c⟩).wcByte (o - 0x7F_0000)) else s.mem.get a
  | (.lpddr, _) => (s.dev.spillByte a).getD (s.mem.get a)
  | _ => s.mem.get a

/-- n bytes at a device address with their poison. -/
def State.load (s : State) (a n : Nat) : List Byte × Bool :=
  ((List.range n).map fun i => s.byte (a + i), s.poisoned a n)

/-- Bytes with their poison marks, as runs of equal mark. -/
def poisonRuns : List (Byte × Bool) → List (List Byte × Bool)
  | [] => []
  | (b, p) :: r =>
    match poisonRuns r with
    | (bs, q) :: t => if p = q then (b :: bs, p) :: t else ([b], p) :: (bs, q) :: t
    | [] => [([b], p)]

/-- What a read of n bytes gives, cut where its poison changes (R35): one piece where none of it is poisoned. -/
def State.loadRuns (s : State) (a n : Nat) : List (List Byte × Bool) :=
  let r := s.load a n
  if r.2 then poisonRuns (r.1.zipIdx.map fun x => (x.1, s.poisoned (a + x.2) 1)) else [(r.1, false)]

/-- Runs of bytes are written to host memory by a function, each with its own poison (R35, R452). -/
def Device.writeRuns (d : Device) (fn : Nat) (pasid : Option Nat) (addr : Nat) (runs : List (List Byte × Bool)) : Device :=
  (runs.foldl (fun (x : Device × Nat) r => (x.1.send (.hostWrite fn pasid x.2 r.1 r.2), x.2 + r.1.length)) (d, addr)).1

/-- n bytes at a device address as a little-endian number. -/
def State.loadN (s : State) (a n : Nat) : Nat := leNat (s.load a n).1

/-- One byte of the width-controller region written. -/
def Cluster.setWcByte (x : Cluster) (o : Nat) (b : Byte) : Cluster :=
  let w := (tget x.wc (0 : W64) (o / 8)).toNat
  { x with wc := tput x.wc (o / 8) (BitVec.ofNat 64 (setBits w (8 * (o % 8) + 7) (8 * (o % 8)) b.toNat)) }

/-- Bytes written from an offset of the width-controller region; the counter mirrors are read only (R606). -/
def Cluster.setWcBytes (x : Cluster) (o : Nat) (bs : List Byte) : Cluster :=
  match bs with
  | [] => x
  | b :: r => (if inMirror o then x else x.setWcByte o b).setWcBytes (o + 1) r

/-- A store of bytes at a device address with their poison. The event history is written by hardware only: a store
there changes nothing (DEDUCED, log 5). -/
def State.store (s : State) (a : Nat) (bs : List Byte) (p : Bool) : State :=
  if s.behindWrapper a then s
  else match regionOf a with
  | (.hubStore, o) => if historyOff ≤ o ∧ o < historyOff + 131072 then s else s.writeMem a bs p
  | (.clusterStore d c, o) =>
    if 0x7F_0000 ≤ o then
      { s with dev := s.dev.setCluster ⟨d, c⟩ ((s.dev.cluster ⟨d, c⟩).setWcBytes (o - 0x7F_0000) bs)
               mem := (unitsOf a bs.length).foldl (fun m u => m.markUnit a bs.length p false u) s.mem }
    else s.writeMem a bs p
  | (.lpddr, _) => if onDeadChannel s.dev.memsys.retired a then s else s.writeMem a bs p
  | (.regs, _) => s
  | (.nothing, _) => s
  | _ => s.writeMem a bs p

/-! ## Translation (R361, R362) -/

/-- What an access asks of a translation: to read, to write, or both (R362). -/
structure Access where
  read : Bool
  write : Bool
  deriving DecidableEq, Repr

/-- An entry of a table: valid, reserved bits zero and the permissions that the access needs (R361, R362). -/
def entryOk (e : Nat) (acc : Access) : Bool :=
  bitAt e 0 && decide (bitsOf e 11 4 = 0) && decide (bitsOf e 63 52 = 0)
    && (!acc.read || bitAt e 1) && (!acc.write || bitAt e 2)

/-- The walk reads an entry: it must fall on memory and be unpoisoned (R362). -/
def State.walkRead (s : State) (a : Nat) : Option Nat :=
  if s.presentRange a 8 && !(s.reserveClosed a) && !(s.poisoned a 8) then some (s.loadN a 8) else none

/-- The device address of a device-virtual address of a function, or a failure (R361, R362). -/
def State.translate (s : State) (f va : Nat) (acc : Access) : Option Nat :=
  let root := s.dev.regN (Reg.xlatRoot f)
  if va ≥ 2 ^ 48 ∨ !(bitAt root 0) then none
  else
    match s.walkRead ((bitsOf root 51 21) * 2 ^ 21 + 8 * bitsOf va 47 30) with
    | none => none
    | some e1 =>
      if !(entryOk e1 acc) then none
      else if bitAt e1 3 then
        if bitsOf e1 29 12 ≠ 0 then none else some (bitsOf e1 51 30 * 2 ^ 30 + va % 2 ^ 30)
      else
        match s.walkRead (bitsOf e1 51 12 * 2 ^ 12 + 8 * bitsOf va 29 21) with
        | none => none
        | some e2 =>
          if !(entryOk e2 acc) || !(bitAt e2 3) || decide (bitsOf e2 20 12 ≠ 0) then none
          else some (bitsOf e2 51 21 * 2 ^ 21 + va % 2 ^ 21)

/-- A translated address that memory can serve: present, and not in the reserve while it is closed (R240, R355). -/
def State.translateMem (s : State) (f va : Nat) (acc : Access) : Option Nat :=
  match s.translate f va acc with
  | none => none
  | some a => if s.present a && !(s.reserveClosed a) then some a else none

/-- The pages of 4 KiB that n bytes at an address touch, as (address, bytes) pieces. -/
def pieces (a n : Nat) : List (Nat × Nat) :=
  if n = 0 then []
  else (List.range ((a + n - 1) / 4096 - a / 4096 + 1)).map fun i =>
    let lo := Nat.max a ((a / 4096 + i) * 4096)
    let hi := Nat.min (a + n) ((a / 4096 + i + 1) * 4096)
    (lo, hi - lo)

/-- n bytes of a function's space read; none: some page of them fails. -/
def State.loadV (s : State) (f va n : Nat) : Option (List Byte × Bool) :=
  (pieces va n).foldl (fun (acc : Option (List Byte × Bool)) p =>
    match acc, s.translateMem f p.1 ⟨true, false⟩ with
    | some (bs, q), some a => let r := s.load a p.2; some (bs ++ r.1, q || r.2)
    | _, _ => none) (some ([], false))

/-- Bytes stored into a function's space; none: some page of them fails (nothing after the first failing page is
written). -/
def State.storeV (s : State) (f va : Nat) (bs : List Byte) (q : Bool) : State × Bool :=
  (pieces va bs.length).foldl (fun (acc : State × Bool) p =>
    if !acc.2 then acc
    else match acc.1.translateMem f p.1 ⟨false, true⟩ with
      | some a => (acc.1.store a (slice bs (p.1 - va) p.2) q, true)
      | none => (acc.1, false)) (s, true)

/-- The n bytes at a device address are stored at another, each poison unit of the source with its own poison (R35). -/
def State.moveUnits (s : State) (a b n : Nat) : State :=
  let y := s.load a n
  (unitsOf a n).foldl (fun t u =>
    let lo := Nat.max u a
    let hi := Nat.min (u + poisonUnit u) (a + n)
    t.store (b + (lo - a)) (slice y.1 (lo - a) (hi - lo)) (s.poisoned lo (hi - lo))) s

end Sys2Proof.Machine
end

