-- ==== Sys2Proof/Machine/Operands.lean ====
section
/-!
DEFINITION. The operand forms of Natos instructions (R231, R232, R270): for each OPC what its fields name, which values
are reserved, and whether an instruction word is legal.
-/
namespace Sys2Proof.Machine

/-- What a register field of an instruction holds. -/
inductive Role where
  /-- not used: must be zero (R232) -/
  | none
  /-- an s register read -/
  | sR
  /-- an s register written -/
  | sW
  /-- an s register read and written -/
  | sRW
  /-- a predicate read; bits [4:3] must be zero (R232) -/
  | pR
  /-- a predicate written -/
  | pW
  /-- a stream handle: 0 to 15 (R270) -/
  | t
  /-- a v register read -/
  | vR
  /-- a v register written -/
  | vW
  /-- a number at most n; larger values are reserved -/
  | val (n : Nat)
  /-- part of the long immediate (R231) -/
  | raw
  deriving DecidableEq, Repr

/-- The form of an instruction: its four fields and the values its IMM may hold. -/
structure Form where
  d : Role
  a : Role
  b : Role
  c : Role
  imm : Nat → Bool

/-- IMM must be zero. -/
def immZero (i : Nat) : Bool := decide (i = 0)
/-- Any IMM. -/
def immAny (_ : Nat) : Bool := true
/-- IMM at most n. -/
def immMax (n i : Nat) : Bool := decide (i ≤ n)

/-- IMM of WAIT (R247). -/
def immWait (i : Nat) : Bool := decide (i < 16) && decide (i % 8 < 4) && (decide (i < 8) || decide (i % 8 = 2))

/-- IMM of VEXT and VINS: TY and a lane below 128 or 64 (R291). -/
def immLane (i : Nat) : Bool := decide (i < 256) && (decide (i % 2 = 0) || decide (i / 2 < 64))

/-- IMM of WCOMMIT (R252). -/
def immCommit (i : Nat) : Bool := decide (i = 1) || decide (i = 2)

/-- The conversion control word (R272, R273): TARGET among those admitted, EXPMODE with a narrow target only, KSTREAM,
SRCTY for CVTOUT only, upper bits zero, and no stochastic rounding to tally form. -/
def ccwOk (targets : List Nat) (srcty : Bool) (i : Nat) : Bool :=
  let tgt := bitsOf i 2 0
  let ks := bitsOf i 12 5
  targets.contains tgt && (!(bitAt i 4) || decide (tgt = 2))
    && (decide (ks = 0) || (bitAt i 3 && decide (0x80 ≤ ks)))
    && (srcty || !(bitAt i 13)) && decide (i < 2 ^ 14) && !(bitAt i 3 && decide (tgt = 4))

/-- IMM of LRUN without the fields that depend on D, A, B and C (R279). -/
def immRun (i : Nat) : Bool :=
  (bitAt i 6 || !(bitAt i 5)) && decide (1 ≤ bitsOf i 15 9) && decide (bitsOf i 15 9 ≤ 64)
    && (bitAt i 8 || decide (bitsOf i 19 16 = 0)) && decide (i < 2 ^ 20)

/-- A form with D and two sources. -/
def formDAB (imm : Nat → Bool) : Form := ⟨.sW, .sR, .sR, .none, imm⟩
/-- A form with D and one source. -/
def formDA (imm : Nat → Bool) : Form := ⟨.sW, .sR, .none, .none, imm⟩
/-- A vector form with D and two sources. -/
def formV2 (imm : Nat → Bool) : Form := ⟨.vW, .vR, .vR, .none, imm⟩
/-- A vector form with D and one source. -/
def formV1 (imm : Nat → Bool) : Form := ⟨.vW, .vR, .none, .none, imm⟩

/-- The form of an OPC (R235 to R252, R275 to R299); none: reserved (R233, R271). -/
def formOf (opc : Nat) : Option Form :=
  if (0x01 ≤ opc ∧ opc ≤ 0x13) then some (formDAB immZero)
  else match opc with
  | 0x14 => some ⟨.sW, .sR, .sR, .pR, immZero⟩
  | 0x15 => some (formDA immZero)
  | 0x16 => some (formDA immZero)
  | 0x17 => some ⟨.sW, .sR, .sR, .sR, immZero⟩
  | 0x21 => some (formDA immAny)
  | 0x2A => some (formDA immAny)
  | 0x2B => some (formDA immAny)
  | 0x2C => some (formDA immAny)
  | 0x2D => some (formDA (immMax 63))
  | 0x2E => some (formDA (immMax 63))
  | 0x2F => some (formDA (immMax 63))
  | 0x30 => some ⟨.sW, .raw, .raw, .raw, immAny⟩
  | 0x31 => some ⟨.sRW, .none, .none, .none, immAny⟩
  | 0x32 => some ⟨.sW, .none, .none, .none, immAny⟩
  | 0x38 => some ⟨.pW, .sR, .sR, .val 5, immZero⟩
  | 0x39 => some ⟨.pW, .sR, .val 5, .none, immAny⟩
  | 0x3A => some ⟨.pW, .pR, .pR, .val 3, immZero⟩
  | 0x40 => some (formDA immAny)
  | 0x41 => some (formDA immAny)
  | 0x42 => some (formDA immAny)
  | 0x43 => some (formDA immAny)
  | 0x44 => some (formDA immAny)
  | 0x45 => some (formDA immAny)
  | 0x46 => some (formDA immAny)
  | 0x48 => some ⟨.none, .sR, .sR, .none, immAny⟩
  | 0x49 => some ⟨.none, .sR, .sR, .none, immAny⟩
  | 0x4A => some ⟨.none, .sR, .sR, .none, immAny⟩
  | 0x4B => some ⟨.none, .sR, .sR, .none, immAny⟩
  | 0x50 => some ⟨.none, .none, .none, .none, immAny⟩
  | 0x51 => some ⟨.sW, .none, .none, .none, immAny⟩
  | 0x52 => some ⟨.none, .sR, .none, .none, immAny⟩
  | 0x53 => some (formDA immAny)
  | 0x58 => some ⟨.none, .sR, .none, .none, immZero⟩
  | 0x59 => some ⟨.none, .none, .none, .none, immMax 0xFFFF⟩
  | 0x5A => some ⟨.none, .none, .none, .none, immZero⟩
  | 0x60 => some (formDAB immZero)
  | 0x61 => some ⟨.sW, .sR, .sR, .sR, immZero⟩
  | 0x62 => some ⟨.none, .sR, .sR, .none, immZero⟩
  | 0x63 => some ⟨.pW, .sR, .sR, .sR, immWait⟩
  | 0x64 => some ⟨.none, .none, .none, .none, immMax 63⟩
  | 0x70 => some ⟨.sW, .none, .none, .none, immMax 0xFFF⟩
  | 0x71 => some ⟨.none, .sR, .none, .none, immMax 0xFFF⟩
  | 0x80 => some ⟨.t, .sR, .none, .none, immZero⟩
  | 0x81 => some ⟨.t, .sR, .none, .none, immZero⟩
  | 0x82 => some ⟨.t, .t, .none, .none, immZero⟩
  | 0x83 => some ⟨.t, .none, .none, .none, immZero⟩
  | 0x84 => some ⟨.sW, .t, .none, .none, immZero⟩
  | 0x90 => some ⟨.none, .t, .none, .none, immMax 1⟩
  | 0x91 => some ⟨.none, .none, .none, .none, immZero⟩
  | 0x92 => some ⟨.t, .t, .t, .sR, immRun⟩
  | 0x93 => some ⟨.t, .sR, .sR, .none, ccwOk [0, 2, 3, 4] false⟩
  | 0xA0 => some ⟨.vW, .sR, .none, .none, immAny⟩
  | 0xA1 => some ⟨.none, .sR, .vR, .none, immAny⟩
  | 0xA2 => some ⟨.vW, .t, .none, .none, immZero⟩
  | 0xA3 => some ⟨.none, .t, .vR, .none, immMax 1⟩
  | 0xA4 => some ⟨.vW, .sR, .none, .none, immMax 1⟩
  | 0xA5 => some ⟨.sW, .vR, .none, .none, immLane⟩
  | 0xA6 => some ⟨.vW, .vR, .sR, .none, immLane⟩
  | 0xA7 => some (formV1 immZero)
  | 0xA8 => some (formV1 (immMax 1))
  | 0xB0 => some (formV2 (immMax 1))
  | 0xB1 => some (formV2 (immMax 1))
  | 0xB2 => some (formV2 (immMax 1))
  | 0xB3 => some ⟨.vW, .vR, .vR, .vR, immMax 1⟩
  | 0xB4 => some (formV2 (immMax 1))
  | 0xB5 => some (formV2 (immMax 1))
  | 0xB6 => some (formV1 (immMax 1))
  | 0xB7 => some (formV1 (immMax 1))
  | 0xB8 => some (formV1 (immMax 1))
  | 0xB9 => some (formV1 (immMax 1))
  | 0xBA => some (formV1 (immMax 1))
  | 0xBB => some (formV1 (immMax 1))
  | 0xBC => some (formV2 (immMax 7))
  | 0xBD => some ⟨.vW, .vR, .vR, .vR, immZero⟩
  | 0xBE => some ⟨.sW, .vR, .none, .none, immMax 3⟩
  | 0xBF => some (formV2 (immMax 1))
  | 0xC8 => some ⟨.t, .t, .sR, .sR, ccwOk [0, 1, 2, 3] false⟩
  | 0xC9 => some ⟨.vW, .t, .sR, .sR, ccwOk [0, 1] false⟩
  | 0xCA => some ⟨.t, .vR, .sR, .sR, ccwOk [0, 1, 2] true⟩
  | 0xD0 => some ⟨.none, .sR, .none, .none, immMax 3⟩
  | 0xD8 => some ⟨.t, .t, .none, .none, immZero⟩
  | 0xD9 => some ⟨.t, .t, .none, .none, immZero⟩
  | 0xE0 => some ⟨.none, .none, .none, .none, immZero⟩
  | 0xE1 => some ⟨.pW, .sR, .sR, .none, immZero⟩
  | 0xE2 => some ⟨.none, .sR, .none, .none, immMax 3⟩
  | 0xE3 => some ⟨.pW, .sR, .none, .none, immCommit⟩
  | 0xE4 => some ⟨.none, .none, .none, .none, immZero⟩
  | 0xE5 => some ⟨.pW, .sR, .none, .none, immZero⟩
  | _ => none

/-- A field's value is one its role admits (R232, R270). -/
def roleOk (r : Role) (x : Nat) : Bool :=
  match r with
  | .none => decide (x = 0)
  | .pR => decide (x < 8)
  | .pW => decide (x < 8)
  | .t => decide (x < 16)
  | .val n => decide (x ≤ n)
  | _ => true

/-- The rules that tie fields of one instruction together: LRUN's handles (R279), and the key register that must be s0
(R284, R285). -/
def crossOk (opc : Nat) (w : Ins) : Bool :=
  let i := w.imm.toNat
  match opc with
  | 0x92 => (bitAt i 7 || decide (w.d = 0)) && (bitAt i 6 || (decide (w.b = 0) && decide (w.c = 0)))
  | 0x93 => (decide (bitsOf i 2 0 ≠ 4) || decide (w.a = 0)) && (bitAt i 3 || decide (w.b = 0))
  | 0xC8 => bitAt i 3 || decide (w.c = 0)
  | 0xC9 => bitAt i 3 || decide (w.c = 0)
  | 0xCA => bitAt i 3 || decide (w.c = 0)
  | _ => true

/-- An instruction word is legal in its form and guard (R232). -/
def insLegal (opc : Nat) (w : Ins) : Bool :=
  match formOf opc with
  | none => false
  | some f =>
    !(w.gn && decide (w.gp = 0)) && roleOk f.d w.d.toNat && roleOk f.a w.a.toNat && roleOk f.b w.b.toNat
      && roleOk f.c w.c.toNat && f.imm w.imm.toNat && crossOk opc w

/-- The fields of an instruction with the roles of its form. -/
def fieldRoles (opc : Nat) (w : Ins) : List (Role × Nat) :=
  match formOf opc with
  | none => []
  | some f => [(f.d, w.d.toNat), (f.a, w.a.toNat), (f.b, w.b.toNat), (f.c, w.c.toNat)]

/-- The s registers an instruction reads or writes (R264). -/
def sRegs (opc : Nat) (w : Ins) : List Nat :=
  (fieldRoles opc w).filterMap fun p => match p.1 with
    | .sR => some p.2
    | .sW => some p.2
    | .sRW => some p.2
    | _ => none

/-- The s registers an instruction reads. -/
def sReads (opc : Nat) (w : Ins) : List Nat :=
  (fieldRoles opc w).filterMap fun p => match p.1 with
    | .sR => some p.2
    | .sRW => some p.2
    | _ => none

/-- The v registers an instruction reads. -/
def vReads (opc : Nat) (w : Ins) : List Nat :=
  (fieldRoles opc w).filterMap fun p => match p.1 with
    | .vR => some p.2
    | _ => none

/-- The v registers an instruction writes. -/
def vWrites (opc : Nat) (w : Ins) : List Nat :=
  (fieldRoles opc w).filterMap fun p => match p.1 with
    | .vW => some p.2
    | _ => none

/-- The stream handles an instruction names; LRUN names only those its IMM selects (R279). -/
def handlesOf (opc : Nat) (w : Ins) : List Nat :=
  if opc = 0x92 then
    let i := w.imm.toNat
    [w.a.toNat] ++ (if bitAt i 6 then [w.b.toNat] else []) ++ (if bitAt i 7 then [w.d.toNat] else [])
      ++ (if bitAt i 8 then [bitsOf i 19 16] else [])
  else
    (fieldRoles opc w).filterMap fun p => match p.1 with
      | .t => some p.2
      | _ => none

/-- The sign-extended immediate as a 64-bit word (R235). -/
def immVal (w : Ins) : W64 := w.imm.signExtend 64

/-- The 47-bit immediate of LI, sign-extended: bits [46:0] of the word (R231, R235). -/
def liVal (w : Ins) : W64 :=
  let lo := w.imm.toNat + w.c.toNat <<< 32 + w.b.toNat <<< 37 + w.a.toNat <<< 42
  BitVec.ofInt 64 (sext lo 47)

end Sys2Proof.Machine
end

