-- ==== Sys2Proof/Machine/Front.lean ====
section
/-!
DEFINITION. The scalar pipe around an instruction (R230 to R234, R253 to R258, R264): whether a core can execute, the
fetch of the instruction, its legality, its guard, exceptions in their order, and how it retires. The address checks of
loads and stores (R239, R240, R321) stand here too.
-/
namespace Sys2Proof.Machine

/-- An exception: event code, class, POISON flag and the detail after csr.optag (R254, R260). -/
structure Exc where
  code : Nat
  cls : EvClass
  poison : Bool
  det : List (Nat × Nat × Nat)
  deriving DecidableEq, Repr

/-- ILLEGAL with OPC and guard (R260). -/
def excIllegal (opc : Nat) (w : Ins) : Exc :=
  ⟨0x5001, .deferred, false, [(10, 1, opc), (11, 1, 8 * ofBool w.gn + w.gp.toNat)]⟩
/-- PRIVILEGE with the OPC or the control register's number. -/
def excPrivilege (n : Nat) : Exc := ⟨0x5002, .deferred, false, [(10, 2, n)]⟩
/-- MISALIGNED with the address. -/
def excMisaligned (a : Nat) : Exc := ⟨0x5003, .deferred, false, [(10, 6, a)]⟩
/-- ACCESS with the address. -/
def excAccess (a : Nat) : Exc := ⟨0x5004, .deferred, false, [(10, 6, a)]⟩
/-- POISON_USE with the register's number and kind: 0 s, 1 p, 2 memory. -/
def excPoison (r kind : Nat) : Exc := ⟨0x5005, .deferred, true, [(10, 1, r), (11, 1, kind)]⟩
/-- FETCH. -/
def excFetch (poison : Bool) : Exc := ⟨0x5006, .deferred, poison, []⟩
/-- TRAP with its code. -/
def excTrap (n : Nat) : Exc := ⟨0x5007, .notice, false, [(10, 2, n)]⟩
/-- TENSOR_FAULT with csr.fault_tag: TAG, CODE and MORE. -/
def excTensor (k : Core) : Exc := ⟨0x5008, .deferred, false, [(10, 6, k.csr.faultTag.toNat)]⟩

/-! ## Exceptions (R253 to R256) -/

/-- An IND packet with its ARG and target (R615). -/
def indPacket (arg : Nat) (target : W64) : List Byte :=
  BitVec.ofNat 8 (0x03 + 16 * arg) :: leBytes 7 (bitsOf target.toNat 51 3)

/-- An EXC packet (R615). -/
def excPacket (code : Nat) (epc : W64) : List Byte :=
  (0x04 : Byte) :: (leBytes 2 code ++ leBytes 7 (bitsOf epc.toNat 51 3))

/-- The instruction at the core's pc raises an exception. A compute core issues nothing further and will emit the record
(R255). A control core saves, sets EXC and goes to csr.evec, or halts with CORE_DOUBLE where EXC is already 1 (R256). -/
def Device.raise (d : Device) (c : CoreId) (e : Exc) : Device :=
  let k := d.core c
  let head := [(0, 8, k.pc.toNat), (8, 2, k.csr.optag.toNat)]
  if isCompute c then
    d.setCore c { k with run := .raising e.code e.cls e.poison (detail (head ++ e.det)) }
  else if k.csr.exc then
    (d.setCore c { k with run := .halted }).emit (srcCore c 0x00) 0x5009
      (if isSteward c then .fatal else .deferred) false (detail (head ++ [(10, 2, k.csr.cause.toNat)]))
  else
    let d1 := d.setCore c (k.takeException e.code k.pc)
    let a := d1.traceWrite (partOf c) (excPacket e.code k.pc)
    let b := a.1.traceWrite (partOf c) (indPacket 2 k.csr.evec)
    b.1.emitAll (a.2 ++ b.2)

/-! ## Addresses of a core (R240) -/

/-- The PCIe function of the launch a compute core works for (R229). -/
def Device.coreFn (d : Device) (c : CoreId) : Nat :=
  match (d.core c).launch with
  | some (f, _, _) => f
  | none => 0

/-- A device address lies in the staging region of a core store (R321). -/
def inStaging (a : Nat) : Bool :=
  match regionOf a with
  | (.coreStore _ _ _, o) => decide (0xC_0000 ≤ o)
  | _ => false

/-- A device address lies in the width-controller region of a cluster store (R192). -/
def inWcRegion (a : Nat) : Bool :=
  match regionOf a with
  | (.clusterStore _ _, o) => decide (0x7F_0000 ≤ o)
  | _ => false

/-- n bytes at a device address lie in the LOSS field of a scorecard of the open bank (R192). -/
def Device.isLoss (d : Device) (a n : Nat) : Bool :=
  match regionOf a with
  | (.clusterStore dd cc, o) =>
    let bank := d.rf (Reg.wcStep ⟨dd, cc⟩) 0 0
    let b := 0x7F_8000 + 0x4000 * bank
    decide (b ≤ o) && decide (o < b + 0x4000) && decide (28 ≤ (o - b) % 64) && decide ((o - b) % 64 + n ≤ 32)
  | _ => false

/-- A compute core may store n bytes at a device address as far as the staging and width-controller regions go. -/
def Device.userStoreOk (d : Device) (a n : Nat) : Bool := !(inStaging a) && (!(inWcRegion a) || d.isLoss a n)

/-- The device address of an access of a core to memory; none: ACCESS (R240). -/
def State.coreAddr (s : State) (c : CoreId) (ea n : Nat) (acc : Access) : Option Nat :=
  if isCompute c then
    match s.translateMem (s.dev.coreFn c) ea acc with
    | none => none
    | some a => if inStaging a || (acc.write && !(s.dev.userStoreOk a n)) then none else some a
  else if 2 ^ 52 ≤ ea ∨ !(s.present ea) then none
  else some ea

/-- The device address of a semaphore operation, which may store or not; none: ACCESS. It needs R and W (R240, R245, R362). -/
def State.semAddr (s : State) (c : CoreId) (ea : Nat) (store : Bool) : Option Nat :=
  if isCompute c then
    match s.translateMem (s.dev.coreFn c) ea ⟨true, true⟩ with
    | none => none
    | some a => if inStaging a || (store && !(s.dev.userStoreOk a 8)) then none else some a
  else s.coreAddr c ea 8 ⟨true, true⟩

/-- The instruction at the core's pc cannot be fetched, or is poisoned (R243, R254, R259). -/
def State.fetchFault (s : State) (c : CoreId) : Option Exc :=
  let pc := (s.dev.core c).pc.toNat
  if pc % 8 ≠ 0 then some (excFetch false)
  else
    let a := if isCompute c then s.translateMem (s.dev.coreFn c) pc ⟨true, false⟩
      else if 2 ^ 52 ≤ pc ∨ !(s.present pc) then none else some pc
    match a with
    | none => some (excFetch false)
    | some a => if s.poisoned a 8 then some (excFetch true) else none

/-! ## Execution -/

/-- What the body of an instruction does: hold the pipe with nothing changed, raise an exception, retire with the state
given and go on or to a target, or go on working without having retired. -/
inductive Act where
  | hold
  | raise (e : Exc)
  | done (s : State)
  | jump (s : State) (target : W64)
  | busy (s : State)

/-- The instruction of a core retires and the next one stands at an address (R229). -/
def Device.retireTo (d : Device) (c : CoreId) (next : W64) : Device :=
  d.onCore c fun k => { k with pc := next, csr := { k.csr with instret := k.csr.instret + 1 } }

/-- The instruction of a core retires and the next one follows it. -/
def Device.retire (d : Device) (c : CoreId) : Device := d.retireTo c ((d.core c).pc + 8)

/-- END and FENCE with T = 1 report what stands against them only when the earlier tensor operations have completed (R258). -/
def reportsLate (opc : Nat) (w : Ins) : Bool := decide (opc = 0x58) || (decide (opc = 0x64) && bitAt w.imm.toNat 2)

/-- The register a poisoned guard stands in. -/
def guardPoison (k : Core) (w : Ins) : Option Nat := if (guardOf k w).poison then some w.gp.toNat else none

/-- The synchronising instructions but END and FENCE with T = 1, which report later (R258, R267). -/
def synchronising (opc : Nat) (w : Ins) : Bool :=
  match opc with
  | 0x60 => true
  | 0x61 => true
  | 0x62 => true
  | 0x63 => true
  | 0x64 => !(bitAt w.imm.toNat 2)
  | 0x80 => true
  | 0x83 => true
  | _ => false

/-! ## Control registers a core may name (R228) -/

/-- The kinds of core that have a control register: compute, control (R228). -/
def csrCores (n : Nat) : Option (Bool × Bool) :=
  match n with
  | 0x000 => some (true, true)
  | 0x001 => some (false, true)
  | 0x002 => some (false, true)
  | 0x003 => some (false, true)
  | 0x004 => some (false, true)
  | 0x008 => some (true, false)
  | 0x010 => some (true, true)
  | 0x011 => some (true, false)
  | 0x020 => some (true, true)
  | 0x021 => some (true, false)
  | 0x030 => some (true, true)
  | 0x031 => some (true, true)
  | 0x032 => some (true, true)
  | 0x040 => some (false, true)
  | 0x041 => some (false, true)
  | 0x042 => some (false, true)
  | 0x043 => some (false, true)
  | _ => none

/-- A register that a CSRW may write on a core of its kind: every other is shown as read only (R228). -/
def csrWritable (control : Bool) (n : Nat) : Bool :=
  if control then [0x000, 0x002, 0x003, 0x004, 0x010, 0x040, 0x041, 0x042, 0x043].contains n else decide (n = 0x010)

/-- Why an access to a control register is refused: an unlisted number, or one of compute cores only, is ILLEGAL; one that
the table shows as none for a user raises PRIVILEGE (R228). -/
def csrExc (control write : Bool) (n opc : Nat) (w : Ins) : Option Exc :=
  match csrCores n with
  | none => some (excIllegal opc w)
  | some (u, v) =>
    if control then (if v = true ∧ (write = false ∨ csrWritable true n = true) then none else some (excIllegal opc w))
    else if u = false then some (excPrivilege n)
    else if write = true ∧ csrWritable false n = false then some (excIllegal opc w)
    else none

/-- The exception of an access to a control register, for CSRR and CSRW (R228). -/
def csrAccessExc (c : CoreId) (opc : Nat) (w : Ins) : Option Exc :=
  match opc with
  | 0x70 => csrExc (isControl c) false w.imm.toNat opc w
  | 0x71 => csrExc (isControl c) true w.imm.toNat opc w
  | _ => none

/-- The exception that stands before the instruction's own effect, in the order of R254: ILLEGAL or PRIVILEGE by the kind
of core (R234, R242) or the control register named (R228), TENSOR_FAULT (R258), and a poisoned guard, which END and FENCE with T = 1 report after a TENSOR_FAULT of theirs. -/
def Device.preExc (d : Device) (c : CoreId) (opc : Nat) (w : Ins) : Option Exc :=
  let k := d.core c
  if isControl c && (decide (0x80 ≤ opc ∧ opc ≤ 0xDF) || decide (opc = 0x58)) then some (excIllegal opc w)
  else if isCompute c && decide (0xE0 ≤ opc) then some (excPrivilege opc)
  else if (csrAccessExc c opc w).isSome then csrAccessExc c opc w
  else if synchronising opc w && k.csr.fpend then some (excTensor k)
  else if (guardOf k w).poison && !(reportsLate opc w) then some (excPoison w.gp.toNat 1)
  else none

/-- A core can execute an instruction now. -/
def Device.canRun (d : Device) (c : CoreId) : Bool :=
  corePresent c && decide ((d.core c).run = .running) && !((d.core c).parked)

/-- The core goes on after its instruction: a store to RST.MODULE_RESET ends it (R553). -/
def Device.stillRuns (d : Device) (c : CoreId) : Bool := decide ((d.core c).run = .running)

/-- BRA and CALL whose guard is not p0 record their outcome on a control core (R616). -/
def Device.branchOutcome (d : Device) (c : CoreId) (opc : Nat) (w : Ins) (taken : Bool) : Device :=
  if isControl c && (decide (opc = 0x50) || decide (opc = 0x51)) && decide (w.gp ≠ 0) then
    Device.traced (d.brOutcome (partOf c) taken)
  else d

/-- The instruction at the core's pc is the one given: it is executed (R231 to R234, R253, R254, R264). A core that is
not running executes nothing. -/
def State.runIns (s : State) (c : CoreId) (opc : Nat) (w : Ins) (body : State → Act) : State :=
  let k := s.dev.core c
  if !(s.dev.canRun c) then s
  else
    match s.fetchFault c with
    | some e => s.onDev fun d => d.raise c e
    | none =>
      if !(insLegal opc w) then s.onDev fun d => d.raise c (excIllegal opc w)
      else if !((guardOf k w).val) && !((guardOf k w).poison) then
        s.onDev fun d => (d.retire c).branchOutcome c opc w false
      else
        match s.dev.preExc c opc w with
        | some e => s.onDev fun d => d.raise c e
        | none =>
          if (sRegs opc w).any (fun r => k.pendingS.contains r) then s
          else
            match body s with
            | .hold => s
            | .raise e => s.onDev fun d => d.raise c e
            | .done t => t.onDev fun d => if d.stillRuns c then (d.retire c).branchOutcome c opc w true else d
            | .jump t target => t.onDev fun d => if d.stillRuns c then (d.retireTo c target).branchOutcome c opc w true else d
            | .busy t => t

/-- The first poisoned s register of a list raises POISON_USE (R254, R270). -/
def poisonUse (k : Core) (rs : List Nat) : Option Exc :=
  match rs.find? (fun r => (k.getS r).poison) with
  | some r => some (excPoison r 0)
  | none => none

/-- A body that runs where none of the registers given is poisoned. -/
def needClean (k : Core) (rs : List Nat) (f : Act) : Act :=
  match poisonUse k rs with
  | some e => .raise e
  | none => f

end Sys2Proof.Machine
end

