-- ==== Sys2Proof/Machine/Formats.lean ====
section
/-!
DEFINITION. Number formats (chapter 03): FP32 and BF16 (R83, R113), narrow codes and codebooks (R86 to R93), two-level
scaling and rounding (R97 to R99), the keyed generator (R109), and blocks in packets and memory (R106 to R108).
Values are exact rationals; each result is rounded once.
-/
namespace Sys2Proof.Machine

/-! ## FP32, BF16 and INT32 -/

/-- A source value: a finite real, an infinity or a NaN. -/
inductive Real where
  | fin (r : Rat)
  | inf (neg : Bool)
  | nan
  deriving DecidableEq, Repr

/-- The quiet NaN that the module produces in FP32 (R113). -/
def qNan : Nat := 0x7FC0_0000

/-- The value of an FP32 encoding (R83). -/
def fp32Val (w : Nat) : Real :=
  let e := bitsOf w 30 23
  let m := bitsOf w 22 0
  let neg := bitAt w 31
  if e = 255 then (if m = 0 then .inf neg else .nan)
  else
    let mag : Rat := if e = 0 then (m : Rat) * pow2 (-149) else ((m + 2 ^ 23 : Nat) : Rat) * pow2 ((e : Int) - 150)
    .fin (if neg then -mag else mag)

/-- The value of a BF16 encoding: the upper half of an FP32 encoding (R83). -/
def bf16Val (w : Nat) : Real := fp32Val (w % 65536 * 65536)

/-- The exponent of a positive rational: the greatest e with 2^e at most r. -/
def ratLog2 (r : Rat) : Int :=
  let e : Int := (Nat.log2 r.num.natAbs : Int) - (Nat.log2 r.den : Int)
  if pow2 e ≤ r then e else e - 1

/-- How a value between two representable ones is rounded: to nearest with ties to even, or by a draw (R99, R113). -/
inductive Rounding where
  | nearest
  | draw (r : Nat)
  deriving DecidableEq, Repr

/-- How a padding element is rounded: it never receives a draw, so the pseudocode's r stays 0 (R84, R99). -/
def Rounding.padding : Rounding → Rounding
  | .nearest => .nearest
  | .draw _ => .draw 0

/-- The integer that a non-negative value n + fraction rounds to (R99, R113); `neg` tells that the value's sign is
negative, so that the draw sees the two neighbours in their order. -/
def roundMag (mode : Rounding) (neg : Bool) (q : Rat) : Nat :=
  let n := q.floor.toNat
  let frac := q - (n : Rat)
  if frac = 0 then n
  else match mode with
  | .nearest =>
    if frac < 1 / 2 then n else if frac > 1 / 2 then n + 1 else if n % 2 = 0 then n else n + 1
  | .draw r =>
    if neg then
      (if r < ((1 - frac) * (2 ^ 24 : Nat)).floor.toNat then n else n + 1)
    else
      (if r < (frac * (2 ^ 24 : Nat)).floor.toNat then n + 1 else n)

/-- A finite value rounded to a binary format of 8 exponent bits and m fraction bits, as its upper 9 + m bits, and
whether it saturated (R113). `negZero` gives the sign of a zero. -/
def roundFp (m : Nat) (mode : Rounding) (negZero : Bool) (r : Rat) : Nat × Bool :=
  let neg := if r = 0 then negZero else decide (r < 0)
  let sign := ofBool neg <<< (8 + m)
  let a := if r < 0 then -r else r
  let big : Rat := ((2 ^ (m + 1) - 1 : Nat) : Rat) * pow2 (127 - (m : Int))
  if a = 0 then (sign, false)
  else if a > big then (sign + (255 <<< m) - 1, true)
  else
    let e0 := ratLog2 a
    let e := if e0 < -126 then -126 else e0
    let n := roundMag mode neg (a * pow2 ((m : Int) - e))
    (sign + (e + 126).toNat * 2 ^ m + n, false)

/-- A value converted to FP32, and whether it saturated (R113). -/
def toFp32 (mode : Rounding) (negZero : Bool) (v : Real) : Nat × Bool :=
  match v with
  | .fin r => roundFp 23 mode negZero r
  | .inf neg => (if neg then 0xFF80_0000 else 0x7F80_0000, false)
  | .nan => (qNan, false)

/-- A value converted to BF16, and whether it saturated (R113). -/
def toBf16 (mode : Rounding) (negZero : Bool) (v : Real) : Nat × Bool :=
  match v with
  | .fin r => roundFp 7 mode negZero r
  | .inf neg => (if neg then 0xFF80 else 0x7F80, false)
  | .nan => (0x7FC0, false)

/-- The smallest FP32 value at or above a non-negative value, at most 0x7F7F_FFFF (R193). -/
def fp32Up (r : Rat) : Nat :=
  if r ≤ 0 then 0
  else
    let big : Rat := ((2 ^ 24 - 1 : Nat) : Rat) * pow2 104
    if r > big then 0x7F7F_FFFF
    else
      let e0 := ratLog2 r
      let e := if e0 < -126 then -126 else e0
      (e + 126).toNat * 2 ^ 23 + (r * pow2 (23 - e)).ceil.toNat

/-- A value converted to INT32: code, saturated, and poisoned (a NaN) (R114). -/
def toInt32 (mode : Rounding) (v : Real) : Nat × Bool × Bool :=
  match v with
  | .nan => (0x8000_0000, false, true)
  | .inf neg => (if neg then 0x8000_0000 else 0x7FFF_FFFF, true, false)
  | .fin r =>
    if r > 2147483647 then (0x7FFF_FFFF, true, false)
    else if r < -2147483648 then (0x8000_0000, true, false)
    else
      let n := roundMag mode (decide (r < 0)) (if r < 0 then -r else r)
      (if r < 0 then (2 ^ 32 - n) % 2 ^ 32 else n, false, false)

/-! ## Codebooks (R86 to R93) -/

/-- A codebook: the width of its codes, its offset B, and its entries as low and high pip halves (R88). -/
structure Codebook where
  width : Nat
  offset : Int
  entries : List (Nat × Nat)
  deriving DecidableEq, Repr

/-- The value of a pip-form half (R88). -/
def pipVal (p : Nat) : Int :=
  let v : Int := ((bitsOf p 3 0 * 2 ^ bitsOf p 5 4 : Nat) : Int)
  if bitAt p 6 then -v else v

/-- The pip-form half of an integer of magnitude at most 15, with ex = 0 (R89 to R91). -/
def pipOf (v : Int) : Nat := v.natAbs + (if v < 0 then 64 else 0)

/-- An entry's value without the offset (R88). -/
def entryInt (e : Nat × Nat) : Int := pipVal e.1 + 16 * pipVal e.2

/-- A codebook whose entries have one half. -/
def oneHalf (width : Nat) (offset : Int) (vs : List Int) : Codebook := ⟨width, offset, vs.map fun v => (pipOf v, 0)⟩

/-- The entries of the 8-bit two's-complement codebooks (R91). -/
def byteEntries : List (Nat × Nat) :=
  (List.range 256).map fun c =>
    let v := sext c 8
    (pipOf (v % 16), pipOf (v.fdiv 16))

/-- The built-in codebook of an identifier (R86, R89 to R91). -/
def builtinCodebook (id : Nat) : Option Codebook :=
  match id with
  | 0x01 => some (oneHalf 1 0 [1, -1])
  | 0x02 => some (oneHalf 2 0 [0, 1, 0, -1])
  | 0x03 => some (oneHalf 2 0 [0, 1, -2, -1])
  | 0x04 => some (oneHalf 4 0 [0, 1, 2, 3, 4, 5, 6, 7, -8, -7, -6, -5, -4, -3, -2, -1])
  | 0x05 => some ⟨4, -1, [0, 1, 2, 3, 4, 6, 8, 12, 64, 65, 66, 67, 68, 70, 72, 76].map fun p => (p, 0)⟩
  | 0x08 => some ⟨8, 0, byteEntries⟩
  | 0x09 => some ⟨8, -6, byteEntries⟩
  | _ => none

/-- The codebook of custom slot n of a cluster; none while the slot is invalid (R92, R93). -/
def Device.customCodebook (d : Device) (cl : ClusterId) (n : Nat) : Option Codebook :=
  let w := d.rf (Reg.cbDesc cl n) 3 0
  if w = 0 then none
  else some ⟨w, sext (d.rf (Reg.cbDesc cl n) 12 8) 5,
    (List.range (2 ^ w)).map fun k =>
      let e := bitsOf (d.regN (Reg.cbEntry cl n k)) (16 * (k % 4) + 15) (16 * (k % 4))
      (bitsOf e 6 0, bitsOf e 14 8)⟩

/-- What a CODEBOOK value names in a cluster: a codebook, an invalid custom slot (R95), or a reserved value (R86). -/
inductive CbLookup where
  | found (cb : Codebook)
  | invalidSlot
  | reserved
  deriving DecidableEq, Repr

/-- The codebook that a CODEBOOK value names in a cluster (R86, R87, R92). -/
def Device.codebook (d : Device) (cl : ClusterId) (id : Nat) : CbLookup :=
  if 0x80 ≤ id ∧ id ≤ 0xBF then
    match d.customCodebook cl (id - 0x80) with
    | some cb => .found cb
    | none => .invalidSlot
  else match builtinCodebook id with
    | some cb => .found cb
    | none => .reserved

/-- The value of a code without its block and tensor scale (R88). -/
def Codebook.value (cb : Codebook) (code : Nat) : Rat := (entryInt (cb.entries.getD code (0, 0)) : Rat) * pow2 cb.offset

/-- The lowest code of an entry value (R99). -/
def Codebook.codeOf (cb : Codebook) (v : Int) : Nat := cb.entries.findIdx fun e => entryInt e == v

/-- The largest entry value, without the offset. -/
def Codebook.maxInt (cb : Codebook) : Int :=
  cb.entries.foldl (fun m e => max m (entryInt e)) (entryInt (cb.entries.headD (0, 0)))

/-- The smallest entry value, without the offset. -/
def Codebook.minInt (cb : Codebook) : Int :=
  cb.entries.foldl (fun m e => min m (entryInt e)) (entryInt (cb.entries.headD (0, 0)))

/-- Every entry of the first 2^W has HI = 0: the check for widths 1 to 4 (R93). -/
def Device.cbCheck (d : Device) (cl : ClusterId) (n w : Nat) : Bool :=
  decide (4 < w) || (List.range (2 ^ w)).all fun k =>
    decide (bitsOf (d.regN (Reg.cbEntry cl n k)) (16 * (k % 4) + 14) (16 * (k % 4) + 8) = 0)

/-! ## Rounding to a codebook (R98, R99) -/

/-- The code for a tie between two entry values (R99). -/
def Codebook.tie (cb : Codebook) (lo hi : Int) : Nat :=
  let klo := cb.codeOf lo
  let khi := cb.codeOf hi
  if klo % 2 = 0 ∧ khi % 2 = 1 then klo
  else if khi % 2 = 0 ∧ klo % 2 = 1 then khi
  else if lo.natAbs < hi.natAbs then klo
  else if hi.natAbs < lo.natAbs then khi
  else cb.codeOf (max lo hi)

/-- The code a scaled value rounds to, and whether it saturated (R99). `y` is in units of 2^B. -/
def Codebook.round (cb : Codebook) (mode : Rounding) (y : Rat) : Nat × Bool :=
  let maxv := cb.maxInt
  let minv := cb.minInt
  if y > (maxv : Rat) then (cb.codeOf maxv, true)
  else if y < (minv : Rat) then (cb.codeOf minv, true)
  else
    let lo := cb.entries.foldl (fun m e => if (entryInt e : Rat) ≤ y then max m (entryInt e) else m) minv
    let hi := cb.entries.foldl (fun m e => if (entryInt e : Rat) ≥ y then min m (entryInt e) else m) maxv
    if lo = hi then (cb.codeOf lo, false)
    else match mode with
    | .draw r =>
      let f := ((y - (lo : Rat)) * ((2 ^ 24 : Nat) : Rat) / ((hi - lo : Int) : Rat)).floor.toNat
      (cb.codeOf (if r < f then hi else lo), false)
    | .nearest =>
      if y - (lo : Rat) < (hi : Rat) - y then (cb.codeOf lo, false)
      else if y - (lo : Rat) > (hi : Rat) - y then (cb.codeOf hi, false)
      else (cb.tie lo hi, false)

/-- A block of 32 codes: a zero block, or an exponent byte and codes; exponent byte 0xFF marks a dead block (R104,
R105). -/
inductive Blk where
  | zero
  | codes (e : Nat) (cs : List Nat)
  deriving DecidableEq, Repr

/-- A block is dead (R104). -/
def Blk.dead : Blk → Bool
  | .zero => false
  | .codes e _ => decide (e = 0xFF)

/-- What converting one block gives: the block, its saturated elements, and whether it is range-saturated. -/
structure ConvBlock where
  blk : Blk
  sat : Nat
  rangeSat : Bool
  deriving DecidableEq, Repr

/-- A conversion of one block to a narrow code (R99). `x` are the 32 source values in order, `t` the tensor scale,
`fixed` the exponent mode; `rnd i` is the rounding of element i; elements from `real` on are padding (R84). -/
def convertBlock (cb : Codebook) (x : List Real) (t : Rat) (fixed : Bool) (rnd : Nat → Rounding) (real : Nat) :
    ConvBlock :=
  let vals := x.filterMap fun v => match v with
    | .fin r => some r
    | _ => none
  if vals.length < x.length then ⟨.codes 0xFF (List.replicate 32 0), 0, false⟩
  else if vals.all (fun r => decide (r = 0)) then ⟨.zero, 0, false⟩
  else
    let scale := t * pow2 cb.offset
    let ys := vals.map fun r => r / scale
    let top := ys.foldl (fun m y => if y > m then y else m) 0
    let bot := ys.foldl (fun m y => if y < m then y else m) 0
    let maxv := cb.maxInt
    let minv := cb.minInt
    let fits := fun (e : Nat) =>
      let k := pow2 (127 - (e : Int))
      (decide (maxv ≤ 0) || decide (top * k ≤ (maxv : Rat))) && (decide (0 ≤ minv) || decide (bot * k ≥ (minv : Rat)))
    let found := if fixed then some 127 else (List.range 255).find? fits
    let e := found.getD 254
    let k := pow2 (127 - (e : Int))
    let rs := ys.mapIdx fun i y => cb.round (if i < real then rnd i else (rnd i).padding) (y * k)
    let sat := (rs.zipIdx.filter fun p => p.1.2 && decide (p.2 < real)).length
    let codes := rs.map fun r => r.1
    if codes.all (fun c => decide (entryInt (cb.entries.getD c (0, 0)) = 0)) then ⟨.zero, sat, found.isNone⟩
    else ⟨.codes e codes, sat, found.isNone⟩

/-! ## The keyed generator (R109) -/

/-- The mixing function (R109). -/
def mixWord (z0 : Nat) : Nat :=
  let z1 := ((z0 ^^^ (z0 >>> 31)) * 0xE3A57C19B24D0F6B) % 2 ^ 64
  let z2 := ((z1 ^^^ (z1 >>> 29)) * 0x8F1D36C25AE974B5) % 2 ^ 64
  z2 ^^^ (z2 >>> 32)

/-- The key of a random stream (R109). -/
structure DrawKey where
  seed : Nat
  stream : Nat
  step : Nat
  tensor : Nat
  deriving DecidableEq, Repr

/-- The 24-bit draw of an element (R109). -/
def keyedDraw (k : DrawKey) (index : Nat) : Nat :=
  let h1 := mixWord ((k.seed ^^^ k.stream) % 2 ^ 64)
  let h2 := mixWord (h1 ^^^ ((k.step <<< 32) + k.tensor))
  let h3 := mixWord ((h2 + 0x6B2ED94F13A7C85D * (index + 1)) % 2 ^ 64)
  bitsOf h3 63 40

/-- The rounding of element i of a tensor: nearest, or the draw of a key (R99, R110). -/
def roundingAt (key : Option DrawKey) (index : Nat) : Rounding :=
  match key with
  | none => .nearest
  | some k => .draw (keyedDraw k index)

/-! ## Values of blocks -/

/-- The exact values of a block's 32 elements without the tensor scale (R97). A dead block has no values. -/
def Blk.values (b : Blk) (cb : Codebook) : List Real :=
  match b with
  | .zero => List.replicate 32 (.fin 0)
  | .codes e cs =>
    if e = 0xFF then List.replicate 32 .nan
    else cs.map fun c => .fin (cb.value c * pow2 ((e : Int) - 127))

/-- A value times a tensor scale (R97). -/
def Real.scale (t : Rat) : Real → Real
  | .fin r => .fin (r * t)
  | v => v

/-! ## Blocks in packets and in memory (R106 to R108) -/

/-- The code bytes of a block: element j at bits [W j + W − 1 : W j] (R106). -/
def packCodes (w : Nat) (cs : List Nat) : List Byte :=
  leBytes (4 * w) (cs.zipIdx.foldl (fun a p => a + (p.1 % 2 ^ w) <<< (w * p.2)) 0)

/-- The 32 codes of a block's code bytes (R106). -/
def unpackCodes (w : Nat) (bs : List Byte) : List Nat :=
  let v := leNat bs
  (List.range 32).map fun j => bitsOf v (w * j + w - 1) (w * j)

/-- Zero bytes up to a multiple of n. -/
def padTo (n : Nat) (bs : List Byte) : List Byte := bs ++ List.replicate ((n - bs.length % n) % n) 0

/-- The payload of a narrow-code packet (R106). -/
def packBlocks (w : Nat) (zmask : Bool) (bs : List Blk) : List Byte :=
  let mask := if zmask then
      leBytes (8 * ((bs.length + 63) / 64)) (bs.zipIdx.foldl (fun a p => a + ofBool (p.1 == .zero) <<< p.2) 0)
    else []
  let live := bs.filterMap fun b => match b with
    | .zero => if zmask then none else some (0, List.replicate 32 0)
    | .codes e cs => some (e, cs)
  let exps := live.map fun p => BitVec.ofNat 8 p.1
  mask ++ padTo 8 exps ++ live.flatMap fun p => packCodes w p.2

/-- The blocks of a narrow-code packet's payload; none where its length is not the one R106 gives (R107). -/
def unpackBlocks (w b : Nat) (zmask : Bool) (bs : List Byte) : Option (List Blk) :=
  let ml := if zmask then 8 * ((b + 63) / 64) else 0
  let mask := leAt bs 0 ml
  let zero := fun i => zmask && bitAt mask i
  let n := ((List.range b).filter fun i => !(zero i)).length
  let el := 8 * ((n + 7) / 8)
  if bs.length ≠ ml + el + 4 * w * n then none
  else some ((List.range b).foldl (fun (a : List Blk × Nat) i =>
    if zero i then (a.1 ++ [.zero], a.2)
    else (a.1 ++ [.codes (leAt bs (ml + a.2) 1) (unpackCodes w (slice bs (ml + el + 4 * w * a.2) (4 * w)))], a.2 + 1))
    ([], 0)).1

/-- A block read from memory: a zero block where its exponent byte is 0x00 and every code is zero, or where it is not
dead and every code decodes to zero (R108). -/
def blockFromMem (cb : Codebook) (e : Nat) (cs : List Nat) : Blk :=
  if (e = 0 ∧ cs.all (fun c => c == 0) = true)
      ∨ (e ≠ 0xFF ∧ cs.all (fun c => decide (entryInt (cb.entries.getD c (0, 0)) = 0)) = true) then .zero
  else .codes e cs

/-- The bytes of a group of eight blocks in memory (R108). -/
def packGroup (w : Nat) (bs : List Blk) : List Byte :=
  let at' := fun i => match bs.getD i .zero with
    | .zero => (0, List.replicate 32 0)
    | .codes e cs => (e, cs)
  ((List.range 8).map fun i => BitVec.ofNat 8 (at' i).1) ++ (List.range 8).flatMap fun i => packCodes w (at' i).2

end Sys2Proof.Machine
end

