-- ==== Sys2Proof/Machine/Layers.lean ====
section
/-!
DEFINITION. What conversions, runs and drains read and count of the width controller: width epochs and generations
(R206 to R214), layer descriptors and rungs (R181 to R189), tensor-scale entries (R101), map areas (R187, R188) and
scorecards (R192 to R196).
-/
namespace Sys2Proof.Machine

/-! ## Epochs and generations -/

/-- How a packet's epoch stands to an expected epoch (R207). -/
inductive EpochClass where
  | current | prior | newer | stale
  deriving DecidableEq, Repr

/-- The class of packet epoch h against expected epoch x (R207). -/
def epochClass (h x : W16) : EpochClass :=
  let n := (h - x).toNat
  if n = 0 then .current else if n = 0xFFFF then .prior else if n ≤ 0x7FFF then .newer else .stale

/-- CLU.WC_EPOCH.CURRENT (R206). -/
def Device.curEpoch (d : Device) (cl : ClusterId) : W16 := BitVec.ofNat 16 (d.rf (Reg.wcEpoch cl) 15 0)

/-- CLU.WC_EPOCH.PRIOR (R206). -/
def Device.priorEpoch (d : Device) (cl : ClusterId) : W16 := BitVec.ofNat 16 (d.rf (Reg.wcEpoch cl) 31 16)

/-- The generation whose epoch is e: 0 current, 1 prior (R210). -/
def Device.genOf (d : Device) (cl : ClusterId) (e : W16) : Option Nat :=
  if e = d.curEpoch cl then some 0 else if e = d.priorEpoch cl then some 1 else none

/-- A tensor-scale entry is pinned (R213, R214). -/
def Device.pinned (d : Device) (cl : ClusterId) (i : Nat) : Bool := d.rbit (Reg.tscalePin cl (i / 64)) (i % 64)

/-- CLU.TSCALE_ENT or CLU.TSCALE_PRIOR by generation (R101, R214). -/
def Device.tscale (d : Device) (cl : ClusterId) (gen i : Nat) : Nat :=
  if gen = 1 then d.regN (Reg.tscalePrior cl i) else d.regN (Reg.tscaleEnt cl i)

/-- The generation in which a packet's entry is read: the current one for a pinned entry, else the packet's (R210,
R213). -/
def Device.entryGen (d : Device) (cl : ClusterId) (e : W16) (i : Nat) : Nat :=
  if d.pinned cl i then 0 else (d.genOf cl e).getD 0

/-- VALUE of a tensor-scale word (R101). -/
def tsValue (w : Nat) : Nat := bitsOf w 31 0

/-- VALID of a tensor-scale word (R101). -/
def tsValid (w : Nat) : Bool := bitAt w 38

/-- The exact value of an FP32 encoding that is finite; zero for others. -/
def fp32Rat (w : Nat) : Rat :=
  match fp32Val w with
  | .fin r => r
  | _ => 0

/-! ## Layer descriptors (R185) -/

/-- Field [hi:lo] of layer n's descriptor in a generation: 0 current, 1 prior. -/
def Device.layerF (d : Device) (cl : ClusterId) (gen n hi lo : Nat) : Nat :=
  let w := fun k => if gen = 1 then d.regN (Reg.layerPrior cl n k) else d.regN (Reg.layerDesc cl n k)
  bitsOf (w 0 + w 1 <<< 64) hi lo

/-- VALID of a layer descriptor. -/
def Device.layerValid (d : Device) (cl : ClusterId) (gen n : Nat) : Bool := decide (d.layerF cl gen n 37 37 = 1)

/-- OUTL_EN of a layer descriptor. -/
def Device.outlEn (d : Device) (cl : ClusterId) (gen n : Nat) : Bool := decide (d.layerF cl gen n 23 23 = 1)

/-- The codebook of rung k; the ladder ends at the first rung that holds 0x00 (R182). -/
def Device.rungBook (d : Device) (cl : ClusterId) (k : Nat) : Nat := d.rf (Reg.wcLadder cl) (8 * k + 7) (8 * k)

/-- Number of valid rungs of a ladder word (R182). -/
def ladderLen (w : Nat) : Nat := ((List.range 8).takeWhile fun k => decide (bitsOf w (8 * k + 7) (8 * k) ≠ 0)).length

/-- The highest valid rung at or below RUNG_MAX, t (R189). -/
def Device.topRung (d : Device) (cl : ClusterId) (gen n : Nat) : Nat :=
  Nat.min (ladderLen (d.regN (Reg.wcLadder cl)) - 1) (d.layerF cl gen n 14 12)

/-! ## Map areas (R187, R188) -/

/-- Device address of a layer's map area. -/
def Device.mapBase (d : Device) (cl : ClusterId) (gen n : Nat) : Nat := 256 * d.layerF cl gen n 107 64

/-- MAP_BLOCKS of a layer. -/
def Device.mapBlocks (d : Device) (cl : ClusterId) (gen n : Nat) : Nat := d.layerF cl gen n 127 108

/-- A size rounded up to 256 bytes. -/
def up256 (n : Nat) : Nat := (n + 255) / 256 * 256

/-- Offset of the hot map in a map area that covers b blocks. -/
def hotOff (b : Nat) : Nat := 256 + up256 ((b + 3) / 4)

/-- Offset of the candidate map in a map area that covers b blocks. -/
def candOff (b : Nat) : Nat := hotOff b + up256 ((b + 7) / 8)

/-- n bytes of a map area; none: they fall on no memory or on retired memory, or are poisoned (R188). -/
def State.mapRead (s : State) (a n : Nat) : Option (List Byte) :=
  if s.presentRange a n && !(s.poisoned a n) then some (s.load a n).1 else none

/-- The rung offset of reduction block j; none: the map area is unusable (R188, R189). -/
def State.mapOffset (s : State) (cl : ClusterId) (gen n j : Nat) : Option Nat :=
  if s.dev.mapBlocks cl gen n ≤ j then some 0
  else match s.mapRead (s.dev.mapBase cl gen n + 256 + j / 4) 1 with
    | none => none
    | some bs => some (bitsOf (leNat bs) (2 * (j % 4) + 1) (2 * (j % 4)))

/-- The codebook of reduction block j of a layer for the role weight (0) or activation (1) (R181, R189); none: the map
area is unusable. -/
def State.blockBook (s : State) (cl : ClusterId) (gen n role j : Nat) : Option Nat :=
  match s.mapOffset cl gen n j with
  | none => none
  | some o =>
    let r := if role = 0 then s.dev.layerF cl gen n 2 0 else s.dev.layerF cl gen n 6 4
    some (s.dev.rungBook cl (Nat.min (r + o) (s.dev.topRung cl gen n)))

/-- The channels of a layer's outlier table, in table order; none: the map area is unusable (R187, R188). -/
def State.outlierTable (s : State) (cl : ClusterId) (gen n : Nat) : Option (List Nat) :=
  match s.mapRead (s.dev.mapBase cl gen n) 256 with
  | none => none
  | some bs => some (((List.range 64).map fun i => leAt bs (4 * i) 4).takeWhile fun c => c ≠ 0xFFFF_FFFF)

/-- A set-bit write of one bit of a map; answers whether it was lost (R188, R366). -/
def State.setMapBit (s : State) (base i : Nat) : State × Bool :=
  let a := base + i / 8
  if s.present a && !(s.poisoned a 1) then
    (s.store a [BitVec.ofNat 8 ((s.byte a).toNat ||| 2 ^ (i % 8))] false, false)
  else (s, true)

/-! ## Scorecards (R192 to R194) -/

/-- The open bank: CLU.WC_STEP mod 2 (R192). -/
def Device.openBank (d : Device) (cl : ClusterId) : Nat := d.rf (Reg.wcStep cl) 0 0

/-- Word number, from 0x7F_0000, of byte off of layer n's scorecard in a bank. -/
def scWord (bank n off : Nat) : Nat := (0x8000 + 0x4000 * bank + 64 * n + off) / 8

/-- A scorecard field. -/
def Cluster.scGet (x : Cluster) (bank n off size : Nat) : Nat :=
  bitsOf (tget x.wc (0 : W64) (scWord bank n off)).toNat (8 * (off % 8) + 8 * size - 1) (8 * (off % 8))

/-- A cluster with a scorecard field set. -/
def Cluster.scPut (x : Cluster) (bank n off size v : Nat) : Cluster :=
  let w := (tget x.wc (0 : W64) (scWord bank n off)).toNat
  let w' : W64 := BitVec.ofNat 64 (setBits w (8 * (off % 8) + 8 * size - 1) (8 * (off % 8)) v)
  { x with wc := tput x.wc (scWord bank n off) w' }

/-- A count added to a field of the open scorecard of a layer; it stops at its largest value (R193, R194). -/
def Device.scAdd (d : Device) (cl : ClusterId) (n off size k : Nat) : Device :=
  if k = 0 then d
  else
    let x := d.cluster cl
    let b := d.openBank cl
    d.setCluster cl (x.scPut b n off size (satBits (8 * size) (x.scGet b n off size + k)))

/-- A maximum taken into a field of the open scorecard of a layer. -/
def Device.scMax (d : Device) (cl : ClusterId) (n off size v : Nat) : Device :=
  let x := d.cluster cl
  let b := d.openBank cl
  if x.scGet b n off size < v then d.setCluster cl (x.scPut b n off size v) else d

/-- POISONED of the open scorecard of a layer is set (R193, R194). -/
def Device.scPoison (d : Device) (cl : ClusterId) (n : Nat) : Device :=
  let x := d.cluster cl
  let b := d.openBank cl
  d.setCluster cl (x.scPut b n 16 1 (x.scGet b n 16 1 ||| 0x80))

/-- A channel of the outlier table carries an element: it counts once in the step (R190). -/
def Device.scChannel (d : Device) (cl : ClusterId) (n ch : Nat) : Device :=
  let u := d.unitsOf cl
  let key := n * 2 ^ 32 + ch
  if u.seen.contains key then d
  else
    let x := d.cluster cl
    let b := d.openBank cl
    let v := x.scGet b n 16 1
    (d.setUnits cl { u with seen := sinsert u.seen key }).setCluster cl
      (x.scPut b n 16 1 (setBits v 6 0 (satBits 7 (v % 128 + 1))))

/-- The largest |x| converted with a tensor-scale entry in the open step (R193, R214). -/
def Device.tsMax (d : Device) (cl : ClusterId) (i v : Nat) : Device :=
  if d.rf (Reg.tscaleMax cl i) 63 32 < v then d.setRf (Reg.tscaleMax cl i) 63 32 v else d

/-- A draw of the width controller's sampler: stream 0x02 under CLU.WC_SEED and CLU.WC_STEP (R197, R198). -/
def Device.sampled (d : Device) (cl : ClusterId) (tensor shift index : Nat) : Bool :=
  decide (keyedDraw ⟨d.regN (Reg.wcSeed cl), 2, d.rf (Reg.wcStep cl) 31 0, tensor⟩ index < 2 ^ (24 - shift))

/-- The histogram bin of a block whose largest magnitude is m, with tensor scale t (R197). -/
def histBin (m t : Rat) : Nat := Nat.min 15 (ratLog2 (m / t) + 12).toNat

/-! ## Launches -/

/-- The launch of a compute core carries pass kind backward in its own submission entry (R388, R435). -/
def Device.launchBackward (d : Device) (c : CoreId) : Bool :=
  match (d.core c).launch with
  | none => false
  | some (f, q, i) =>
    d.entries.any fun e =>
      decide (e.fn = f) && decide (e.queue = q) && decide (e.slot = i) && decide (bitsOf (leAt e.bytes 1 1) 3 2 = 2)

/-- Bytes of poisoned data whose value the manual does not give (DESIGN CHOICE, log 8). -/
def freeBytes (k n : Nat) : List Byte := (List.range n).map fun i => Config.poisonData k i

end Sys2Proof.Machine
end

