-- ==== Sys2Proof/Machine/Tiles.lean ====
section
/-!
DEFINITION. Stream descriptors (R307 to R309), the walk of a tensor (R311 to R313), tiles as fetched and as formed into
items (R314 to R317), reading an operand's packets (R57, R87, R95, R103, R107, R209 to R211), and the records and faults
of tensor units (R257, R268).
-/
namespace Sys2Proof.Machine

/-! ## Records and faults of a core's tensor units -/

/-- A tensor unit detects a fault of an operation: FPEND and csr.fault_tag (R257). -/
def Device.tfault (d : Device) (c : CoreId) (code : Nat) (tag : W16) : Device :=
  d.onCore c fun k =>
    let f := k.csr.faultTag.toNat
    if k.csr.fpend then
      { k with csr := { k.csr with faultTag := BitVec.ofNat 64 (setBits f 47 32 (satBits 16 (bitsOf f 47 32 + 1))) } }
    else { k with csr := { k.csr with fpend := true, faultTag := BitVec.ofNat 64 (tag.toNat + code <<< 16) } }

/-- A record of a tensor unit of a core; its detail begins with the OP_TAG. -/
def Device.trec (d : Device) (c : CoreId) (unit code : Nat) (cls : EvClass) (poison : Bool) (tag : W16)
    (det : List (Nat × Nat × Nat)) : Device :=
  d.emit (srcCore c unit) code cls poison (detail ((0, 2, tag.toNat) :: det)) (d.originOf c)

/-- A record emitted once for each operation tag and handle (16: no handle). -/
def Device.trecOnce (d : Device) (c : CoreId) (unit code : Nat) (cls : EvClass) (poison : Bool) (tag : W16) (h : Nat)
    (det : List (Nat × Nat × Nat)) : Device :=
  let t := d.tensor c
  if t.once.contains (code, tag.toNat, h) then d
  else (d.setTensor c { t with once := (code, tag.toNat, h) :: t.once }).trec c unit code cls poison tag det

/-- A unit of a core has consumed poison under an OP_TAG: the record of R36, once for each unit and tag. The event code of a unit
that the manual lists no such record for is free (log 170). -/
def Device.consumed (d : Device) (c : CoreId) (unit : Nat) (tag : W16) (poison : Bool) : Device :=
  let t := d.tensor c
  if !poison || t.once.contains (0x10000 + unit, tag.toNat, 16) then d
  else (d.setTensor c { t with once := (0x10000 + unit, tag.toNat, 16) :: t.once }).trec c unit
    (Config.poisonCode unit).toNat .deferred true tag []

/-- A fault of a tensor unit with its record. -/
def Device.trecFault (d : Device) (c : CoreId) (unit code : Nat) (poison : Bool) (tag : W16)
    (det : List (Nat × Nat × Nat)) : Device :=
  (d.trec c unit code .deferred poison tag det).tfault c code tag

/-- A stream fault, emitted once for each operation tag and handle (R351). -/
def Device.streamFault (d : Device) (c : CoreId) (code : Nat) (poison : Bool) (tag : W16) (h : Nat)
    (det : List (Nat × Nat × Nat)) : Device :=
  if (d.tensor c).once.contains (code, tag.toNat, h) then d
  else (d.trecOnce c 0x04 code .deferred poison tag h ((2, 1, h) :: det)).tfault c code tag

/-- STREAM_STATE with its cause (R276, R277, R306). -/
def Device.streamState (d : Device) (c : CoreId) (op : TOp) (h cause : Nat) : Device :=
  d.trecFault c 0x04 0x6001 false op.tag [(2, 1, h), (3, 1, op.opc), (4, 1, cause)]

/-- STREAM_DESC with its cause (R351). -/
def Device.streamDesc (d : Device) (c : CoreId) (tag : W16) (h cause partner : Nat) : Device :=
  d.streamFault c 0x6010 false tag h [(3, 1, cause), (4, 2, partner)]

/-! ## Descriptor fields (R307 to R309); w is the descriptor's 512 bits -/

/-- BASE. -/
def sdBase (w : Nat) : Nat := bitsOf w 51 0
/-- EXTk. -/
def sdExt (w k : Nat) : Nat := bitsOf w (95 + 32 * k) (64 + 32 * k)
/-- STRk, for k from 1 to 4. -/
def sdStr (w k : Nat) : Int := sext (bitsOf w (223 + 48 * k) (176 + 48 * k)) 48
/-- FMT. -/
def sdFmt (w : Nat) : Nat := bitsOf w 447 416
/-- TILE0. -/
def sdTile0 (w : Nat) : Nat := bitsOf w 463 448
/-- TILE1. -/
def sdTile1 (w : Nat) : Nat := bitsOf w 479 464
/-- DIR. -/
def sdDir (w : Nat) : Nat := bitsOf w 481 480
/-- END: 0 memory, 1 chain, 2 orbit. -/
def sdEnd (w : Nat) : Nat := bitsOf w 483 482
/-- NDIM. -/
def sdNdim (w : Nat) : Nat := bitsOf w 486 484
/-- PERSIST. -/
def sdPersist (w : Nat) : Bool := bitAt w 487
/-- AHEAD in tiles. -/
def sdAhead (w : Nat) : Nat := if bitsOf w 491 488 = 0 then 4 else bitsOf w 491 488
/-- SLOTW. -/
def sdSlotw (w : Nat) : Nat := bitsOf w 495 492
/-- ILINK. -/
def sdIlink (w : Nat) : Nat := bitsOf w 499 496
/-- LINKED. -/
def sdLinked (w : Nat) : Bool := bitAt w 500
/-- EPSEL. -/
def sdEpsel (w : Nat) : Nat := bitsOf w 502 501

/-- LAYER of a format reference (R309). -/
def fmtLayer (f : Nat) : Nat := bitsOf f 7 0
/-- ROLE of a format reference. -/
def fmtRole (f : Nat) : Nat := bitsOf f 9 8
/-- KIND of a format reference. -/
def fmtKind (f : Nat) : Nat := bitsOf f 12 10
/-- CODEBOOK of a format reference. -/
def fmtCb (f : Nat) : Nat := bitsOf f 23 16
/-- TSCALE of a format reference. -/
def fmtTs (f : Nat) : Nat := bitsOf f 31 24

/-- Bits of an element slot in memory, e (R322). -/
def sdElemBits (w : Nat) : Nat :=
  match fmtKind (sdFmt w) with
  | 0 => sdSlotw w
  | 1 => 16
  | 2 => 32
  | 3 => 32
  | _ => 8

/-- Bytes of a tile buffer, TB (R322). -/
def sdTileBytes (w : Nat) : Nat :=
  let rw' := (sdTile0 w * sdElemBits w + 7) / 8 + 64 * ((sdTile0 w + 511) / 512)
  256 * ((sdTile1 w * rw' + 255) / 256)

/-- WIDTH of the packets of a KIND other than narrow (R318). -/
def kindWidth (kind : Nat) : Nat :=
  match kind with
  | 1 => 0x9
  | 2 => 0xA
  | 3 => 0xB
  | _ => 0x0

/-! ## The walk (R311 to R313) -/

/-- Where a tile stands: its first coordinates, and its extent along dimensions 0 and 1. -/
structure TileAt where
  x0 : Nat
  x1 : Nat
  x2 : Nat
  x3 : Nat
  x4 : Nat
  cols : Nat
  rows : Nat
  deriving DecidableEq, Repr

/-- Tile columns, Tc. -/
def sdTc (w : Nat) : Nat := (sdExt w 0 + sdTile0 w - 1) / sdTile0 w

/-- Number of tiles of a tensor whose dimension 1 has r1 rows, T (R311, R330). -/
def sdTiles (w r1 : Nat) : Nat :=
  sdTc w * ((r1 + sdTile1 w - 1) / sdTile1 w) * sdExt w 2 * sdExt w 3 * sdExt w 4

/-- Tile n of a tensor whose dimension 1 has r1 rows. -/
def sdTileAt (w r1 n : Nat) : TileAt :=
  let tc := sdTc w
  let tr := (r1 + sdTile1 w - 1) / sdTile1 w
  let q := n / tc
  let x0 := n % tc * sdTile0 w
  let x1 := q % tr * sdTile1 w
  let p := q / tr
  ⟨x0, x1, p % sdExt w 2, p / sdExt w 2 % sdExt w 3, p / (sdExt w 2 * sdExt w 3) % sdExt w 4,
    Nat.min (sdTile0 w) (sdExt w 0 - x0), Nat.min (sdTile1 w) (r1 - x1)⟩

/-- Index of element j of a tile in the row whose coordinate along dimension 1 is x1 (R312). -/
def sdIndex (w : Nat) (t : TileAt) (x1 j : Nat) : Nat :=
  (t.x0 + j) + sdExt w 0 * (x1 + sdExt w 1 * (t.x2 + sdExt w 2 * (t.x3 + sdExt w 3 * t.x4)))

/-- Byte address of row x1 of a tile's plane, from a base (R313); addresses are taken modulo 2^52. -/
def sdRowAddr (w base : Nat) (t : TileAt) (x1 : Nat) : Nat :=
  wrapInt ((base : Int) + (x1 : Int) * sdStr w 1 + (t.x2 : Int) * sdStr w 2 + (t.x3 : Int) * sdStr w 3
    + (t.x4 : Int) * sdStr w 4) 52

/-- Offsets in a row of the exponent byte and of the codes of block b of a row of KIND 0 (R313). -/
def sdBlockOff (slotw b : Nat) : Nat × Nat :=
  let g := b / 8 * (8 + 32 * slotw)
  (g + b % 8, g + 8 + 4 * slotw * (b % 8))

/-- Rows along dimension 1 of a stream: EXT1, or the length of its index stream (R330). -/
def Stream.rows1 (st : Stream) (x : Tensor) : Nat :=
  match st.link with
  | some h => match tfind x.streams h with
    | some ix => sdExt ix.desc.toNat 0
    | none => 0
  | none => sdExt st.desc.toNat 1

/-! ## Fetching (R313, R320, R323, R330, R331) -/

/-- Bytes of a stream's memory; bytes that cannot be reached are poisoned and of no stated value. Answers the failing
address (R320). -/
def State.streamBytes (s : State) (f : Nat) (phys : Bool) (va n : Nat) : List Byte × Bool × Option Nat :=
  if phys then
    (if s.presentRange va n then (let r := s.load va n; (r.1, r.2, none))
     else (freeBytes s.dev.fresh n, true, some va))
  else
    match s.loadV f va n with
    | some r => (r.1, r.2, none)
    | none =>
      (freeBytes s.dev.fresh n, true,
        ((pieces va n).find? fun p => (s.translateMem f p.1 ⟨true, false⟩).isNone).map fun p => p.1)

/-- The parts of one row of a tile and the first failing address. -/
def State.fetchRow (s : State) (f : Nat) (phys : Bool) (w : Nat) (t : TileAt) (addr : Nat) :
    List (List Byte × Bool) × Option Nat :=
  if fmtKind (sdFmt w) = 0 then
    let sl := sdSlotw w
    (List.range ((t.cols + 31) / 32)).foldl (fun (a : List (List Byte × Bool) × Option Nat) i =>
      let o := sdBlockOff sl (t.x0 / 32 + i)
      let e := s.streamBytes f phys (addr + o.1) 1
      let cs := s.streamBytes f phys (addr + o.2) (4 * sl)
      (a.1 ++ [(e.1 ++ cs.1, e.2.1 || cs.2.1)], a.2.or (e.2.2.or cs.2.2))) ([], none)
  else
    let sz := sdElemBits w / 8
    let n := t.cols * sz
    (List.range ((n + 1023) / 1024)).foldl (fun (a : List (List Byte × Bool) × Option Nat) i =>
      let r := s.streamBytes f phys (addr + t.x0 * sz + 1024 * i) (Nat.min 1024 (n - 1024 * i))
      (a.1 ++ [(r.1, r.2.1)], a.2.or r.2.2)) ([], none)

/-- A row of a tile whose index value is out of range: nothing of it is read (R331). -/
def deadRow (w : Nat) (t : TileAt) (k : Nat) : FetchRow :=
  if fmtKind (sdFmt w) = 0 then
    ⟨true, List.replicate ((t.cols + 31) / 32) ((0xFF : Byte) :: List.replicate (4 * sdSlotw w) 0, true)⟩
  else
    let n := t.cols * (sdElemBits w / 8)
    ⟨true, (List.range ((n + 1023) / 1024)).map fun i => (freeBytes k (Nat.min 1024 (n - 1024 * i)), true)⟩

/-- The base from which a stream's tiles are read, and whether it is a device address: an orbit reads its own core
store (R336). -/
def Stream.source (st : Stream) : Nat × Bool :=
  match st.orbit with
  | none => (st.base, false)
  | some o =>
    let j := if o.step = 0 then 0 else if o.step % 2 = 1 then 1 else 2
    (o.base + j * o.size, true)

/-- The data row of row r of a tile: its coordinate along dimension 1, or none where its index value is poisoned or out
of range (R330, R331). -/
def Stream.dataRow (st : Stream) (t : TileAt) (r : Nat) : Option Nat :=
  match st.link with
  | none => some (t.x1 + r)
  | some _ =>
    match st.indices[t.x1 + r]? with
    | none => none
    | some (v, p) => if p || decide (sdExt st.desc.toNat 1 ≤ v) then none else some v

/-- The coordinate along dimension 1 that row r of a tile has under R110: of a linked stream the index value that selects the
row (R312). -/
def Stream.rowIndex (st : Stream) (t : TileAt) (r : Nat) : Nat :=
  match st.link with
  | none => t.x1 + r
  | some _ => (st.indices.getD (t.x1 + r) (0, true)).1

/-- Tile n of a stream's pass as memory holds it now, and the first failing address. -/
def State.fetchTile (s : State) (f : Nat) (st : Stream) (r1 n : Nat) : List FetchRow × Option Nat :=
  let w := st.desc.toNat
  let t := sdTileAt w r1 n
  let src := st.source
  (List.range t.rows).foldl (fun (a : List FetchRow × Option Nat) r =>
    match st.dataRow t r with
    | none => (a.1 ++ [deadRow w t s.dev.fresh], a.2)
    | some x1 =>
      let q := s.fetchRow f src.2 w t (sdRowAddr w src.1 t x1)
      (a.1 ++ [⟨false, q.1⟩], a.2.or q.2)) ([], none)

/-! ## Forming packets (R46, R106, R314 to R317) -/

/-- The header of a packet that a unit of a core forms. -/
def coreHdr (c : CoreId) (unit : Nat) (tag epoch : W16) : Header :=
  { dstDie := .ofNat 4 c.die, dstCluster := .ofNat 4 c.cluster, dstCore := .ofNat 8 c.core, dstUnit := .ofNat 8 unit
    vnet := 2, poison := false, last := false, compressed := false, observed := false, zmask := false
    srcDie := .ofNat 4 c.die, srcCluster := .ofNat 4 c.cluster, srcCore := .ofNat 8 c.core, srcUnit := .ofNat 8 unit
    codebook := 0, opTag := tag, width := 0, len := 0, blocks := 0, tscale := 0, epoch := epoch }

/-- The header of a row's packet of a kind without blocks: BLOCKS counts blocks of 32 elements (R294, R317). -/
def plainPacket (h : Header) (width ts : Nat) (bytes : List Byte) (poison : Bool) : Packet :=
  let sz := match width with
    | 0x9 => 2
    | 0xA => 4
    | 0xB => 4
    | _ => 1
  ⟨{ h with width := .ofNat 4 width, tscale := .ofNat 8 ts, len := .ofNat 11 bytes.length, poison := poison,
            blocks := .ofNat 8 (if width = 0 then 0 else (bytes.length / sz + 31) / 32) }, bytes⟩

/-- A narrow-code packet of blocks that share width, CODEBOOK and tensor-scale entry (R85, R106). -/
def narrowPacket (h : Header) (bs : List OutBlk) : Packet :=
  match bs with
  | [] => ⟨h, []⟩
  | b :: _ =>
    let zm := bs.any fun x => x.zero
    let blks := bs.map fun x => if x.zero then Blk.zero else Blk.codes x.exp x.codes
    let pay := packBlocks b.width zm blks
    ⟨{ h with width := .ofNat 4 b.width, codebook := .ofNat 8 b.cb, tscale := .ofNat 8 b.ts, zmask := zm
              blocks := .ofNat 8 bs.length, len := .ofNat 11 pay.length
              poison := bs.any fun x => x.poison || (!x.zero && decide (x.exp = 0xFF)) }, pay⟩

/-- Two neighbouring blocks travel in one packet (R85, R316). -/
def sameForm (a b : OutBlk) : Bool :=
  decide (a.row = b.row) && decide (a.width = b.width) && decide (a.cb = b.cb) && decide (a.ts = b.ts)

/-- Neighbouring blocks gathered into packets of at most n (R85, R316). -/
def gatherBlocks (n : Nat) (bs : List OutBlk) : List (List OutBlk) :=
  bs.foldl (fun acc b =>
    match acc.getLast? with
    | some g => match g.head? with
      | some x => if sameForm x b && decide (g.length < n) then acc.dropLast ++ [g ++ [b]] else acc ++ [[b]]
      | none => acc ++ [[b]]
    | none => [[b]]) []

/-- LAST set on the final packet of an item. -/
def markLast (ps : List Packet) : List Packet := mapLast (fun p => { p with hdr := { p.hdr with last := true } }) ps

/-- The packets of a list of blocks: narrow blocks in packets of at most 16, other kinds in rows of at most 1,024 bytes
(R316). -/
def packOut (h : Header) (width : Nat) (bs : List OutBlk) : List Packet :=
  if 1 ≤ width ∧ width ≤ 8 then markLast ((gatherBlocks 16 bs).map (narrowPacket h))
  else
    let rows := bs.foldl (fun (acc : List (Nat × List Byte × Bool × Nat)) b =>
      match acc.getLast? with
      | some (r, x, p, ts) =>
        if decide (r = b.row) && decide (x.length + b.bytes.length ≤ 1024) then
          acc.dropLast ++ [(r, x ++ b.bytes, p || b.poison, ts)]
        else acc ++ [(b.row, b.bytes, b.poison, b.ts)]
      | none => [(b.row, b.bytes, b.poison, b.ts)]) []
    markLast (rows.map fun r => plainPacket h width r.2.2.2 r.2.1 r.2.2.1)

/-- The epoch that a stream's packets carry: EPSEL applied to the expected epoch of the pass (R308, R317). -/
def hdrEpoch (w : Nat) (e : W16) : W16 := if sdEpsel w = 1 then e - 1 else e

/-- One block as read from memory, with the reading it was given: STREAM_FORMAT (block wider than its slot), an invalid
custom slot, or a map area that cannot be used (R181, R188, R189, R314). -/
structure FormedBlk where
  blk : OutBlk
  wide : Bool
  slot : Bool
  deriving DecidableEq, Repr

/-- What the headers of a tile of a stream hold: as the descriptor gives them, or, for a slice that an orbit has received, as they
arrived with it (R317). -/
def Stream.headOf (st : Stream) (step : Nat) (tag epoch : W16) : SliceHead :=
  let own : SliceHead := ⟨sdFmt st.desc.toNat, tag, hdrEpoch st.desc.toNat epoch⟩
  match st.orbit with
  | none => own
  | some o => (tfind o.heads step).getD own

/-- Block number b of a row (reduction block of the tensor) as the stream unit forms it for a format reference (R309, R314). -/
def State.formBlock (s : State) (cl : ClusterId) (w fmt gen row b : Nat) (part : List Byte × Bool) (dead : Bool) :
    FormedBlk :=
  let role := fmtRole fmt
  let n := fmtLayer fmt
  let ts := if role < 2 then s.dev.layerF cl gen n (if role = 0 then 55 else 63) (if role = 0 then 48 else 56) else fmtTs fmt
  let book := if role < 2 then s.blockBook cl gen n role b else some (fmtCb fmt)
  let id := book.getD (if role < 2 then s.dev.rungBook cl (s.dev.layerF cl gen n (if role = 0 then 2 else 6)
    (if role = 0 then 0 else 4)) else fmtCb fmt)
  let sl := sdSlotw w
  let e := (part.1.headD 0).toNat
  let slots := unpackCodes sl (part.1.drop 1)
  let bad := part.2 || book.isNone
  match s.dev.codebook cl id with
  | .found cb =>
    if sl < cb.width ∨ dead = true then
      ⟨⟨row, cb.width, id, ts, false, 0xFF, List.replicate 32 0, [], true⟩, decide (sl < cb.width) && !dead, false⟩
    else
      match blockFromMem cb e (slots.map fun c => c % 2 ^ cb.width) with
      | .zero => ⟨⟨row, cb.width, id, ts, true, 0, List.replicate 32 0, [], bad⟩, false, false⟩
      | .codes e cs => ⟨⟨row, cb.width, id, ts, false, e, cs, [], bad⟩, false, false⟩
  | _ => ⟨⟨row, sl, id, ts, false, e, slots, [], true⟩, false, true⟩

/-- A tile as fetched becomes an item (R316, R317), with the records of R314. -/
def State.formItem (s : State) (c : CoreId) (h : Nat) (st : Stream) (f : Fetch) : State × Item :=
  let w := st.desc.toNat
  let cl := cluOfCore c
  let per := sdTiles w (st.rows1 (s.dev.tensor c))
  let hd := st.headOf (if per = 0 then 0 else f.tile / per) f.tag f.epoch
  let fmt := hd.fmt
  let gen := (s.dev.genOf cl hd.epoch).getD 0
  let hdr := { coreHdr c 0x04 hd.tag hd.epoch with observed := decide (s.dev.layerF cl gen (fmtLayer fmt) 29 29 = 1) }
  if fmtKind (sdFmt w) = 0 then
    let t := sdTileAt w (st.rows1 (s.dev.tensor c)) (if per = 0 then 0 else f.tile % per)
    let fs := (f.rows.mapIdx fun r row =>
      row.parts.mapIdx fun i part => s.formBlock cl w fmt gen r (t.x0 / 32 + i) part row.dead).flatten
    let s1 := if fs.any (fun x => x.slot) then
        s.onDev fun d => d.trecOnce c 0x04 0x2003 .deferred true f.tag 16
          [(2, 1, ((fs.find? fun x => x.slot).map fun x => x.blk.cb).getD 0)]
      else s
    let s2 := if fs.any (fun x => x.wide) then
        s1.onDev fun d => d.trec c 0x04 0x6014 .deferred true f.tag [(2, 1, h), (3, 1, 1), (4, 5, f.tile)]
      else s1
    (s2, ⟨f.tile, markLast ((gatherBlocks 16 (fs.map fun x => x.blk)).map (narrowPacket hdr))⟩)
  else
    (s, ⟨f.tile, markLast ((f.rows.map fun row => row.parts.map fun p =>
      plainPacket hdr (kindWidth (fmtKind (sdFmt w))) (fmtTs fmt) p.1 p.2).flatten)⟩)

/-! ## Reading an operand's packets -/

/-- A record that reading a packet causes: code, POISON, detail after the OP_TAG; emitted once per operation tag where
`once`. -/
structure ReadRec where
  code : Nat
  det : List (Nat × Nat × Nat)
  once : Bool
  deriving DecidableEq, Repr

/-- A packet that the unit consuming it finds to break its header: a reserved encoding, or the save form, which only BREST may
consume (R57, R390). -/
def pktIll (p : Packet) : Bool := hdrInvalid (headerWord p.hdr) || p.hdr.compressed

/-- A packet of bytes is poisoned for its consumer (R57, R60, R390). -/
def pktBad (p : Packet) : Bool := p.hdr.poison || pktIll p

/-- The records of consuming packets that break their headers (R57). -/
def headerRecs (ps : List Packet) : List ReadRec :=
  (ps.filter pktIll).map fun p => ⟨0x1003, [(0, 16, headerWord p.hdr)], false⟩

/-- What reading a packet gives: its blocks, whether they are poisoned, its records, and whether its WIDTH is not that of
a narrow code (R143). -/
structure ReadPkt where
  blks : List OBlk
  recs : List ReadRec
  wide : Bool
  deriving DecidableEq, Repr

/-- The codebook of a packet does not fit its header: width mismatch, reserved CODEBOOK, or a length R106 does not give
(R87, R107); COMPRESSED (R390). -/
def pktInvalid (lk : CbLookup) (p : Packet) : Bool :=
  pktIll p ||
    match lk with
    | .reserved => true
    | .invalidSlot => false
    | .found cb => decide (cb.width ≠ p.hdr.width.toNat)
        || (unpackBlocks p.hdr.width.toNat p.hdr.blocks.toNat p.hdr.zmask p.payload).isNone

/-- A packet read by an operation with an expected epoch that takes narrow codes; another is `wide`, and one that does not fit its header or is
compressed is reported under R57 as well (R143, R390). Each packet that names an invalid slot or entry gives a
record; EPOCH_STALE is once for each operation tag (R35, R95, R103, R207, R210, R211). -/
def Device.readPacket (d : Device) (cl : ClusterId) (expect : W16) (p : Packet) : ReadPkt :=
  let h := p.hdr
  let w := h.width.toNat
  if w = 0 ∨ 8 < w then
    ⟨[], if h.compressed || hdrInvalid (headerWord h) then [⟨0x1003, [(0, 16, headerWord h)], false⟩] else [], true⟩
  else
    let ts := h.tscale.toNat
    let pin := d.pinned cl ts
    let known := (d.genOf cl h.epoch).isSome
    let stale := !pin && (decide (epochClass h.epoch expect = .stale) || !known)
    let tw := d.tscale cl (d.entryGen cl h.epoch ts) ts
    let lk := d.codebook cl h.codebook.toNat
    let inv := pktInvalid lk p
    let slot := decide (lk = .invalidSlot)
    let bad := h.poison || inv || slot || stale || !(tsValid tw)
    let cb := match lk with
      | .found cb => cb
      | _ => ⟨w, 0, []⟩
    let bs := match unpackBlocks w h.blocks.toNat h.zmask p.payload with
      | some bs => bs
      | none => List.replicate h.blocks.toNat (.codes 0xFF (List.replicate 32 0))
    let mk := fun (b : Blk) => match b with
      | .zero => (⟨0, cb.offset, w, h.codebook.toNat, ts, tsValue tw, h.epoch, [], 32, true, false, bad⟩ : OBlk)
      | .codes e cs =>
        ⟨e, cb.offset, w, h.codebook.toNat, ts, tsValue tw, h.epoch,
          cs.map (fun c => cb.entries.getD c (0, 0)), 32, false, decide (e = 0xFF), bad || decide (e = 0xFF)⟩
    ⟨bs.map mk,
     (if inv then [⟨0x1003, [(0, 16, headerWord h)], false⟩] else [])
      ++ (if slot then [⟨0x2003, [(2, 1, h.codebook.toNat)], false⟩] else [])
      ++ (if tsValid tw then [] else [⟨0x2004, [(2, 1, ts)], false⟩])
      ++ (if stale then [⟨0x4001, [(2, 2, h.epoch.toNat), (4, 2, expect.toNat), (6, 2, (d.curEpoch cl).toNat)], true⟩]
          else []), false⟩

/-- The records of reading packets are emitted by a unit of a core for an operation tag. HEADER_INVALID's detail is the
header alone. -/
def Device.emitReads (d : Device) (c : CoreId) (unit : Nat) (tag : W16) (rs : List ReadRec) : Device :=
  rs.foldl (fun d r =>
    if r.code = 0x1003 then d.emit (srcCore c unit) r.code .deferred true (detail r.det) (d.originOf c)
    else if r.once then d.trecOnce c unit r.code .deferred true tag 16 r.det
    else d.trec c unit r.code .deferred true tag r.det) d

/-- HEADER_INVALID for each packet of an item that does not fit its header or, where `compressedToo`, that a unit other than BREST consumes
compressed (R57, R390). -/
def Device.badHeaders (d : Device) (c : CoreId) (compressedToo : Bool) (ps : List Packet) : Device :=
  ps.foldl (fun d p =>
    if hdrInvalid (headerWord p.hdr) || (compressedToo && p.hdr.compressed) then
      d.emit (srcCore c 0x04) 0x1003 .deferred true (detail [(0, 16, headerWord p.hdr)]) (d.originOf c)
    else d) d

/-- An item holds a packet that is newer than an expected epoch (R207, R209, R212); answers its epoch. -/
def Device.newerIn (d : Device) (cl : ClusterId) (expect : W16) (ps : List Packet) : Option W16 :=
  (ps.find? fun p => decide (1 ≤ p.hdr.width.toNat) && decide (p.hdr.width.toNat ≤ 8)
    && !(d.pinned cl p.hdr.tscale.toNat) && decide (epochClass p.hdr.epoch expect = .newer)).map fun p => p.hdr.epoch

/-- A list cut into rows of n blocks each. -/
def rowsOf {α : Type} (n : Nat) : Nat → List α → List (List α)
  | 0, _ => []
  | fuel + 1, l => if l.isEmpty then [] else l.take n :: rowsOf n fuel (l.drop n)

/-- The blocks of an item in rows, the final block of each row marked with its elements that are not padding (R311). -/
def blockRows (t : TileAt) (bs : List OBlk) : List (List OBlk) :=
  let n := (t.cols + 31) / 32
  (rowsOf n (bs.length + 1) bs).map fun row => row.mapIdx fun i b =>
    { b with live := Nat.min 32 (t.cols - 32 * i) }

/-- An item read as an operand of an operation: its rows of blocks, its records, and whether a packet was not a narrow
code. -/
def Device.readItem (d : Device) (cl : ClusterId) (expect : W16) (t : TileAt) (ps : List Packet) :
    List (List OBlk) × List ReadRec × Bool :=
  let rs := ps.map fun p => d.readPacket cl expect p
  (blockRows t (rs.map fun r => r.blks).flatten, (rs.map fun r => r.recs).flatten, rs.any fun r => r.wide)

end Sys2Proof.Machine
end

