-- ==== Sys2Proof/Machine/Streams.lean ====
section
/-!
DEFINITION. Stream handles (R264, R276, R277, R307 to R350): who may use a handle, arming, fetching, delivering and
writing tiles, index streams, orbits and chains, and the stream instructions that a queue executes.
-/
namespace Sys2Proof.Machine

/-! ## Issue order (R264) -/

/-- Every operation of a core that has not completed. -/
def Tensor.ops (t : Tensor) : List TOp :=
  t.streamQ ++ t.latticeQ ++ t.drainQ ++ t.convQ ++ t.vectorQ ++ t.saveQ ++
    (match t.run with
     | some r => [r.op]
     | none => [])

/-- No earlier operation holds the handle. -/
def Tensor.turn (t : Tensor) (op : TOp) (h : Nat) : Bool :=
  !(t.ops.any fun o => decide (o.seq < op.seq) && o.holds.contains h)

/-- It is the operation's turn at every handle it names. -/
def Tensor.turns (t : Tensor) (op : TOp) : Bool := (handlesOf op.opc op.ins).all fun h => t.turn op h

/-- No earlier operation has still to read or write a v register in conflict (R264). -/
def Tensor.vTurn (t : Tensor) (op : TOp) : Bool :=
  let rs := vReads op.opc op.ins
  let ws := vWrites op.opc op.ins
  !(t.ops.any fun o => decide (o.seq < op.seq) &&
    ((vWrites o.opc o.ins).any (fun r => rs.contains r || ws.contains r)
      || (vReads o.opc o.ins).any (fun r => ws.contains r)))

/-- The queues of a core, each in issue order; a run in the array stands before the Lattice queue (R261, R264). -/
def Tensor.queues (t : Tensor) : List (List TOp) :=
  [t.streamQ, t.run.toList.map (fun r => r.op) ++ t.latticeQ, t.drainQ, t.convQ, t.vectorQ, t.saveQ]

/-- The run whose output tile a drain at a place of the drain queue takes (R264, R284). -/
def Tensor.drains (t : Tensor) (op : TOp) : Option Nat :=
  ((t.outs.map fun o => o.seq) ++ (t.latticeQ.filter fun o => decide (o.opc = 0x92)).map fun o => o.seq)[
    (t.drainQ.takeWhile fun o => decide (o.seq ≠ op.seq)).length]?

/-- The run stands at a layer boundary of the core (R344). -/
def Tensor.boundary (t : Tensor) (op : TOp) : Bool :=
  decide (t.lastLayer ≠ some (fmtLayer (((tfind t.streams op.ins.a.toNat).map fun st => sdFmt st.desc.toNat).getD 0)))

/-- An operation waits for one of the operations given by their places in issue order: it stands behind it in a queue, or at a handle it
holds, or at a v register, or it drains its output tile, or it is a run that its drain holds at a layer boundary (R261, R264, R284, R344). -/
def Tensor.waitsFor (t : Tensor) (b : List Nat) (o : TOp) : Bool :=
  let before := t.ops.filter fun p => decide (p.seq < o.seq) && b.contains p.seq
  (t.queues.any fun q => (q.any fun p => decide (p.seq = o.seq)) && q.any fun p => before.any fun x => decide (x.seq = p.seq))
    || decide (o.opc ≠ 0x81) && (handlesOf o.opc o.ins).any (fun h => before.any fun p => p.holds.contains h)
    || before.any (fun p =>
      (vWrites p.opc p.ins).any (fun r => (vReads o.opc o.ins).contains r || (vWrites o.opc o.ins).contains r)
        || (vReads p.opc p.ins).any fun r => (vWrites o.opc o.ins).contains r)
    || decide (o.opc = 0x93) && ((t.drains o).map fun q => b.contains q).getD false
    || decide (o.opc = 0x92) && t.boundary o && before.any fun p => decide (p.opc = 0x93)

/-- The operations that cannot complete while those given do not, with those given. -/
def Tensor.blockedBy (t : Tensor) (seed : List Nat) : List Nat :=
  (List.range t.ops.length).foldl (fun b _ => b ++ ((t.ops.filter fun o => !(b.contains o.seq) && t.waitsFor b o).map fun o => o.seq)) seed

/-- A handle. -/
def Device.stream (d : Device) (c : CoreId) (h : Nat) : Option Stream := tfind (d.tensor c).streams h

/-- The module with an armed handle replaced. -/
def Device.setStream (d : Device) (c : CoreId) (h : Nat) (st : Stream) : Device :=
  d.onTensor c fun t => { t with streams := tput t.streams h st }

/-- The module with a handle unarmed. -/
def Device.dropStream (d : Device) (c : CoreId) (h : Nat) : Device :=
  d.onTensor c fun t => { t with streams := tdel t.streams h }

/-- An operation names a handle to read through it (0) or to write through it (1): the check of R277 and R329. Answers
whether the handle can be used. -/
def Device.useHandle (d : Device) (c : CoreId) (op : TOp) (h dir : Nat) : Device × Bool :=
  match d.stream c h with
  | none => (d.streamState c op h 1, false)
  | some st =>
    if st.drives.isSome then (d.streamDesc c op.tag h 9 0, false)
    else if sdDir st.desc.toNat ≠ dir then (d.streamState c op h 3, false)
    else (d, true)

/-! ## Items of a read stream -/

/-- Tiles of a stream before its end: T, T for each pass begun, or N × T (R319, R336, R346). -/
def Stream.limit (st : Stream) (x : Tensor) : Nat :=
  let t := sdTiles st.desc.toNat (st.rows1 x)
  match st.orbit with
  | some o => o.n * t
  | none => t * st.passes

/-- The next item for a consumer: one already taken from staging, or the staged tile whose turn it is; none past the last item of
the stream (R319). -/
def Stream.next (st : Stream) (x : Tensor) : Option Item :=
  match st.given with
  | i :: _ => some i
  | [] => if st.limit x ≤ st.taken then none else st.staged.find? fun i => decide (i.tile = st.taken)

/-- The item that stands i places after the next one, of those taken from staging or staged. -/
def Stream.itemAt (st : Stream) (x : Tensor) (i : Nat) : Option Item :=
  match st.given[i]? with
  | some it => some it
  | none =>
    let n := st.taken + (i - st.given.length)
    if st.limit x ≤ n then none else st.staged.find? fun j => decide (j.tile = n)

/-- The staged tile whose turn it is leaves its buffer (R323); a chain owes one more grant (R341), an orbit counts it. -/
def Stream.takeStaged (st : Stream) : Stream :=
  match st.staged.find? fun i => decide (i.tile = st.taken) with
  | none => st
  | some i =>
    { st with
      staged := st.staged.filter fun j => decide (j.tile ≠ st.taken)
      given := st.given ++ [i]
      taken := st.taken + 1
      owed := if sdEnd st.desc.toNat = 1 then st.owed + 1 else st.owed
      orbit := st.orbit.map fun o => { o with took := o.took + 1 } }

/-- A consumer uses up the next item. -/
def Stream.pop (st : Stream) : Stream :=
  let st1 := if st.given.isEmpty then st.takeStaged else st
  { st1 with given := st1.given.drop 1, used := 0 }

/-- The program of a core is at its end: at END, or after an exception or a cut that ends it (R244, R255, R440). -/
def Device.atEnd (d : Device) (c : CoreId) : Bool :=
  match (d.core c).run with
  | .ending _ _ => true
  | .raising _ _ _ _ => true
  | .cutting => true
  | _ => false

/-- A SREARM of a handle still to come takes effect: it does not itself wait for the operation that holds the handle (R346, R348). -/
def Tensor.rearmComes (t : Tensor) (h : Nat) : Bool :=
  let first := (t.ops.filter fun o => o.holds.contains h).foldl (fun (m : Option Nat) o => match m with
    | none => some o.seq
    | some n => some (Nat.min n o.seq)) none
  let b := t.blockedBy first.toList
  t.streamQ.any fun o => decide (o.opc = 0x81) && decide (o.ins.d.toNat = h) && !(b.contains o.seq)

/-- Item n of a stream will never come (R319, R338). A persistent stream waits for a re-arm instead, until its core's program is at
its end and none comes (R348). -/
def Device.pastEnd (d : Device) (c : CoreId) (h : Nat) (st : Stream) (n : Nat) : Bool :=
  decide (st.limit (d.tensor c) ≤ n) && (!(sdPersist st.desc.toNat) ||
    (d.atEnd c && st.rearm.isNone && !((d.tensor c).rearmComes h)))

/-- A stream has delivered its last item. -/
def Device.isOver (d : Device) (c : CoreId) (h : Nat) (st : Stream) : Bool := st.given.isEmpty && d.pastEnd c h st st.taken

/-- STREAM_END of an operation at a handle (R319, R351). -/
def Device.streamEnd (d : Device) (c : CoreId) (tag : W16) (h : Nat) : Device :=
  match d.stream c h with
  | none => d
  | some st => d.streamFault c 0x6011 false tag h [(4, 5, sdTiles st.desc.toNat (st.rows1 (d.tensor c)))]

/-- Where an orbit stands once its step's tiles are taken and its copy is complete: the next step begins (R336). -/
def Orbit.advance (o : Orbit) (t : Nat) : Orbit :=
  if decide (t ≤ o.took) && (o.copied || decide (o.n ≤ o.step + 1)) then
    (if o.step + 1 < o.n then { o with step := o.step + 1, took := 0, copied := false } else o)
  else o

/-- The number of steps an orbit member has finished (R336). -/
def Orbit.finished (o : Orbit) (t : Nat) : Nat :=
  if decide (o.n ≤ o.step + 1) && decide (t ≤ o.took) then o.n else o.step

/-- A stream whose orbit may have finished a step. -/
def Stream.orbitStep (st : Stream) (x : Tensor) : Stream :=
  { st with orbit := st.orbit.map fun o => o.advance (sdTiles st.desc.toNat (st.rows1 x)) }

/-- The module with a handle replaced and its orbit brought up to date. -/
def Device.putStream (d : Device) (c : CoreId) (h : Nat) (st : Stream) : Device :=
  d.setStream c h (st.orbitStep (d.tensor c))

/-- Where tile n since SARM stands in the tensor. -/
def Device.tileAt (d : Device) (c : CoreId) (st : Stream) (n : Nat) : TileAt :=
  let r1 := st.rows1 (d.tensor c)
  let t := sdTiles st.desc.toNat r1
  sdTileAt st.desc.toNat r1 (if t = 0 then 0 else n % t)

/-! ## Items of a write stream (R318, R319, R324) -/

/-- A write stream has a free buffer. -/
def Stream.room (st : Stream) : Bool := decide (st.buf.length + st.writing < sdAhead st.desc.toNat)

/-- An operation sends an item to a write stream; an item beyond the T-th is discarded (R319). -/
def Device.acceptItem (d : Device) (c : CoreId) (h : Nat) (tag : W16) (ps : List Packet) : Device :=
  match d.stream c h with
  | none => d
  | some st =>
    if sdTiles st.desc.toNat (sdExt st.desc.toNat 1) ≤ st.accepted then d.streamEnd c tag h
    else d.setStream c h { st with buf := st.buf ++ [⟨st.accepted, ps⟩], accepted := st.accepted + 1 }

/-- A built-in codebook whose codes fit a slot width. -/
def slotBook (w : Nat) : Nat × Nat :=
  if w = 1 then (1, 0x01) else if w < 4 then (2, 0x03) else if w < 8 then (4, 0x04) else (8, 0x08)

/-- A poisoned item of the shape of a write stream's next tile; its bytes are of no stated value (R277, R287). -/
def Device.poisonItem (d : Device) (c : CoreId) (st : Stream) (tag epoch : W16) : List Packet :=
  let w := st.desc.toNat
  let t := d.tileAt c st st.accepted
  let h := coreHdr c 0x04 tag epoch
  let k := d.fresh
  if fmtKind (sdFmt w) = 0 then
    let sb := slotBook (sdSlotw w)
    packOut h sb.1 (((List.range t.rows).map fun r => (List.range ((t.cols + 31) / 32)).map fun i =>
      (⟨r, sb.1, sb.2, fmtTs (sdFmt w), false, (Config.poisonData k (64 * r + i)).toNat,
        (List.range 32).map (fun j => (Config.poisonData k (32 * i + j)).toNat % 2 ^ sb.1), [], true⟩ : OutBlk)).flatten)
  else
    let n := t.cols * (sdElemBits w / 8)
    packOut h (kindWidth (fmtKind (sdFmt w))) (((List.range t.rows).map fun r =>
      (List.range ((n + 1023) / 1024)).map fun i =>
      (⟨r, 0, 0, fmtTs (sdFmt w), false, 0, [], freeBytes (k + r) (Nat.min 1024 (n - 1024 * i)), true⟩ : OutBlk)).flatten)

/-- A poisoned item goes to a handle that can be written. -/
def Device.sendPoison (d : Device) (c : CoreId) (h : Nat) (op : TOp) : Device :=
  match d.stream c h with
  | none => d
  | some st => (d.acceptItem c h op.tag (d.poisonItem c st op.tag op.epoch)).takeFresh

/-- Bytes of a write stream's tensor; an address that fails is not written and is a fault (R320). -/
def State.streamStore (s : State) (c : CoreId) (h : Nat) (tag : W16) (va : Nat) (bs : List Byte) (p : Bool) : State :=
  let f := s.dev.coreFn c
  (pieces va bs.length).foldl (fun s q =>
    match s.translateMem f q.1 ⟨false, true⟩ with
    | some a => s.store a (slice bs (q.1 - va) q.2) p
    | none => s.onDev fun d => d.streamFault c 0x6015 true tag h [(8, 8, q.1)]) s

/-- The element bytes that a packet of a kind without blocks carries, with its poison. -/
def plainBytes (ps : List Packet) : List (Byte × Bool) := (ps.map fun p => p.payload.map fun b => (b, p.hdr.poison)).flatten

/-- The blocks of an item of narrow codes with their width and poison; a packet that cannot be read gives poisoned
blocks. -/
def itemBlocks (ps : List Packet) : List (Nat × Blk × Bool) :=
  (ps.map fun p =>
    match unpackBlocks p.hdr.width.toNat p.hdr.blocks.toNat p.hdr.zmask p.payload with
    | some bs => bs.map fun b => (p.hdr.width.toNat, b, p.hdr.poison)
    | none => List.replicate p.hdr.blocks.toNat (p.hdr.width.toNat, .codes 0xFF (List.replicate 32 0), true)).flatten

/-- The bytes of a stored block: exponent byte and codes in slots (R108, R314). -/
def slotBytes (slotw width : Nat) (b : Blk) : Byte × List Byte :=
  if slotw < width then (0xFF, List.replicate (4 * slotw) 0)
  else match b with
  | .zero => (0, List.replicate (4 * slotw) 0)
  | .codes e cs => (BitVec.ofNat 8 e, packCodes slotw (cs.map fun c => c % 2 ^ width))

/-- STREAM_FORMAT of a write stream (R351). -/
def Device.streamFormat (d : Device) (c : CoreId) (h : Nat) (tag : W16) (cause n : Nat) : Device :=
  d.trec c 0x04 0x6014 .deferred true tag [(2, 1, h), (3, 1, cause), (4, 5, n)]

/-- Where a tile ends the rows of its tensor, the group that a row ends within is filled with zero blocks (R108, R313). -/
def State.fillGroups (s : State) (c : CoreId) (h : Nat) (st : Stream) (t : TileAt) (tag : W16) : State :=
  let w := st.desc.toNat
  let sl := sdSlotw w
  let n := (sdExt w 0 + 31) / 32
  if t.x0 + t.cols < sdExt w 0 then s
  else (List.range (t.rows * ((8 - n % 8) % 8))).foldl (fun s i =>
    let per := (8 - n % 8) % 8
    let addr := sdRowAddr w st.base t (t.x1 + i / per)
    let o := sdBlockOff sl (n + i % per)
    (s.streamStore c h tag (addr + o.1) [0] false).streamStore c h tag (addr + o.2) (List.replicate (4 * sl) 0) false) s

/-- The blocks of an item from lo to hi are placed in its tile, block by block (R108, R313, R314, R318). -/
def State.placeBlocks (s : State) (c : CoreId) (h : Nat) (st : Stream) (t : TileAt) (tag : W16) (bad : Bool)
    (bs : List (Nat × Blk × Bool)) (lo hi : Nat) : State :=
  let w := st.desc.toNat
  let sl := sdSlotw w
  let per := (t.cols + 31) / 32
  ((List.range hi).drop lo).foldl (fun s i =>
    let addr := sdRowAddr w st.base t (t.x1 + i / per)
    let o := sdBlockOff sl (t.x0 / 32 + i % per)
    let b := bs.getD i (0, .codes 0xFF (List.replicate 32 0), true)
    let x := slotBytes sl b.1 b.2.1
    let p := bad || b.2.2 || decide (x.1 = 0xFF)
    (s.streamStore c h tag (addr + o.1) [x.1] p).streamStore c h tag (addr + o.2) x.2 p) s

/-- Bytes with their own poison stored in a write stream's tensor: only units that poisoned bytes fall on are poisoned (R35). -/
def State.streamRuns (s : State) (c : CoreId) (h : Nat) (tag : W16) (va : Nat) (xs : List (Byte × Bool)) : State :=
  ((poisonRuns xs).foldl (fun (a : State × Nat) r => (a.1.streamStore c h tag a.2 r.1 r.2, a.2 + r.1.length)) (s, va)).1

/-- The bytes of an item of another kind from byte lo on are placed in its tile, row by row (R313, R318). -/
def State.placeBytes (s : State) (c : CoreId) (h : Nat) (st : Stream) (t : TileAt) (tag : W16) (bad : Bool)
    (bs : List (Byte × Bool)) (lo : Nat) : State :=
  let w := st.desc.toNat
  let n := t.cols * (sdElemBits w / 8)
  (List.range t.rows).foldl (fun s r =>
    let addr := sdRowAddr w st.base t (t.x1 + r) + t.x0 * (sdElemBits w / 8)
    let k := lo - r * n
    let xs := ((bs.drop (r * n)).take n).drop k
    if xs = [] then s else s.streamRuns c h tag (addr + k) (xs.map fun x => (x.1, bad || x.2))) s

/-- The bytes that an item lacks of its tile: zeros where a compressed item is shorter, else poisoned bytes of no stated value (R318,
R394). -/
def State.fillBytes (s : State) (c : CoreId) (h : Nat) (st : Stream) (t : TileAt) (tag : W16) (bad : Bool) (have' : Nat) (pad : Bool) :
    State :=
  let w := st.desc.toNat
  let n := t.cols * (sdElemBits w / 8)
  (List.range t.rows).foldl (fun s r =>
    let addr := sdRowAddr w st.base t (t.x1 + r) + t.x0 * (sdElemBits w / 8)
    let k := Nat.min n (have' - r * n)
    if k = n then s
    else s.streamStore c h tag (addr + k) (if pad then List.replicate (n - k) 0 else freeBytes s.dev.fresh (n - k)) (bad || !pad)) s

/-- The packets of the open item of a write stream so far. -/
def Stream.openPkts (st : Stream) : List Packet :=
  match st.cur with
  | [] => st.puts
  | b :: _ => packOut (coreHdr ⟨0, 0, 0⟩ 0x04 0 0) b.width st.cur

/-- An item's WIDTH does not match the KIND of the stream that is to store it (R318). -/
def wrongKind (kind : Nat) (ps : List Packet) : Bool :=
  ps.any fun p => if kind = 0 then decide (p.hdr.width.toNat = 0) || decide (8 < p.hdr.width.toNat)
    else decide (p.hdr.width.toNat ≠ kindWidth kind)

/-- Blocks or bytes of the open item that a stream has: what it could write now (R324). -/
def Stream.openCount (st : Stream) : Nat :=
  let kind := fmtKind (sdFmt st.desc.toNat)
  if wrongKind kind st.openPkts then 0
  else if kind = 0 then (itemBlocks st.openPkts).length else (plainBytes st.openPkts).length

/-- How much of the item of a tile is in memory already. -/
def Stream.shownOf (st : Stream) (tile : Nat) : Nat :=
  match st.shown with
  | some (n, k) => if n = tile then k else 0
  | none => 0

/-- What has come of the open item of a memory write stream is written (R324); an item of another kind waits for its end (R318). -/
def State.writeOpen (s : State) (c : CoreId) (h : Nat) (st : Stream) : State :=
  let w := st.desc.toNat
  let n := st.openCount
  if sdDir w ≠ 1 ∨ sdEnd w ≠ 0 ∨ n ≤ st.shownOf st.accepted ∨ sdTiles w (sdExt w 1) ≤ st.accepted then s
  else
    let t := s.dev.tileAt c st st.accepted
    let s1 := s.onDev fun d => d.setStream c h { st with shown := some (st.accepted, n) }
    if fmtKind (sdFmt w) = 0 then
      s1.placeBlocks c h st t st.tag false (itemBlocks st.openPkts) (st.shownOf st.accepted) (Nat.min n (t.rows * ((t.cols + 31) / 32)))
    else s1.placeBytes c h st t st.tag false (plainBytes st.openPkts) (st.shownOf st.accepted)

/-- The item at the head of a memory write stream is placed and its writes are issued, but for what is written of it already; with none
complete, what has come of the open item is. A compressed item has its place in a stream of untyped bytes only (R318, R324, R390,
R394). -/
def State.writeTile (s : State) (c : CoreId) (h : Nat) : State :=
  match s.dev.stream c h with
  | none => s
  | some st =>
    let w := st.desc.toNat
    match st.buf with
    | [] => s.writeOpen c h st
    | it :: rest =>
      if sdDir w ≠ 1 ∨ sdEnd w ≠ 0 then s
      else
        let kind := fmtKind (sdFmt w)
        let t := s.dev.tileAt c st it.tile
        let hdr := (it.pkts.headD ⟨coreHdr c 0x04 0 0, []⟩).hdr
        let tag := hdr.opTag
        let s1 := s.onDev fun d => (d.setStream c h { st with buf := rest, writing := st.writing + 1, placed := st.placed + 1 }).badHeaders c
          (decide (kind ≠ 4)) it.pkts
        let wrong := wrongKind kind it.pkts
        if kind = 0 then
          let bs := if wrong then [] else itemBlocks it.pkts
          let size := decide (bs.length ≠ t.rows * ((t.cols + 31) / 32))
          let s2 := if wrong then s1.onDev fun d => d.streamFormat c h tag 0 it.tile
            else if size then s1.onDev fun d => d.streamFormat c h tag 2 it.tile else s1
          let s3 := if bs.any (fun b => decide (sdSlotw w < b.1)) then
              s2.onDev fun d => d.streamFormat c h tag 1 it.tile else s2
          let lo := if wrong || size then 0 else st.shownOf it.tile
          (s3.fillGroups c h st t tag).placeBlocks c h st t tag (wrong || size) bs lo (t.rows * ((t.cols + 31) / 32))
        else
          let bs := plainBytes it.pkts
          let n := t.rows * t.cols * (sdElemBits w / 8)
          let comp := it.pkts.any fun p => p.hdr.compressed
          let size := if comp then decide (n < bs.length) else decide (bs.length ≠ n)
          let s2 := if wrong then s1.onDev fun d => d.streamFormat c h tag 0 it.tile
            else if size then s1.onDev fun d => d.streamFormat c h tag 2 it.tile else s1
          let void := it.pkts.any fun p => p.hdr.poison && p.payload.isEmpty
          let bad := wrong || size || void
          (s2.placeBytes c h st t tag bad bs (if bad then 0 else st.shownOf it.tile)).fillBytes c h st t tag bad bs.length comp

/-! ## Arming (R310) -/

/-- A CODEBOOK value is an identifier of R86 other than 0x00. -/
def cbIdent (id : Nat) : Bool := (builtinCodebook id).isSome || (decide (0x80 ≤ id) && decide (id ≤ 0xBF))

/-- Cause 0: a reserved encoding or a non-zero reserved bit (R307 to R309). -/
def armReserved (w : Nat) : Bool :=
  let f := sdFmt w
  let kind := fmtKind f
  decide (bitsOf w 63 52 ≠ 0) || (decide (sdEnd w = 1) && decide (bitsOf w 51 16 ≠ 0)) || decide (2 ≤ sdDir w)
    || decide (sdEnd w = 3) || decide (sdNdim w = 0) || decide (6 ≤ sdNdim w) || decide (9 ≤ bitsOf w 491 488)
    || (if kind = 0 then decide (sdSlotw w = 0) || decide (8 < sdSlotw w) else decide (sdSlotw w ≠ 0))
    || decide (2 ≤ sdEpsel w) || bitAt w 503 || decide (bitsOf w 511 504 ≠ 0) || decide (bitsOf f 15 13 ≠ 0)
    || decide (5 ≤ kind)
    || (if kind = 0 ∧ 2 ≤ fmtRole f then !(cbIdent (fmtCb f)) else decide (fmtCb f ≠ 0))
    || (decide (kind = 0) && decide (fmtRole f < 2) && decide (fmtTs f ≠ 0))
    || (List.range 4).any fun i => decide (sdNdim w ≤ i + 1) && decide (bitsOf w (271 + 48 * i) (224 + 48 * i) ≠ 0)

/-- Cause 1: shape. -/
def armShape (w : Nat) : Bool :=
  (List.range 5).any (fun k => decide (sdExt w k = 0) || (decide (sdNdim w ≤ k) && decide (sdExt w k ≠ 1)))
    || decide (2 ^ 40 < sdExt w 0 * sdExt w 1 * sdExt w 2 * sdExt w 3 * sdExt w 4)
    || (decide (fmtKind (sdFmt w) = 0) && decide (sdTile0 w % 32 ≠ 0))
    || decide (sdTile0 w = 0) || decide (4096 < sdTile0 w) || decide (sdTile1 w = 0) || decide (256 < sdTile1 w)
    || decide (32768 < sdTileBytes w)

/-- The unit of addresses and strides of a stream (R310). -/
def sdUnit (w : Nat) : Nat :=
  match fmtKind (sdFmt w) with
  | 0 => 8
  | 1 => 2
  | 2 => 4
  | 3 => 4
  | _ => 1

/-- Cause 2: alignment. -/
def armAlign (w : Nat) : Bool :=
  (decide (sdEnd w ≠ 1) && decide (sdBase w % sdUnit w ≠ 0))
    || (List.range 4).any fun i => decide (sdStr w (i + 1) % (sdUnit w : Int) ≠ 0)

/-- Staging reserved by the armed streams of a core, in bytes (R322). -/
def Tensor.staging (t : Tensor) : Nat :=
  (t.streams.map fun p => sdAhead p.2.desc.toNat * sdTileBytes p.2.desc.toNat).sum

/-- An index stream as R328 asks. -/
def indexOk (w : Nat) : Bool :=
  decide (sdDir w = 0) && decide (fmtKind (sdFmt w) = 3) && decide (sdNdim w = 1) && decide (sdEnd w = 0)
    && !(sdLinked w) && !(sdPersist w)

/-- A data stream as R328 asks. -/
def linkedOk (w : Nat) : Bool :=
  decide (sdDir w = 0) && decide (sdNdim w ≤ 2) && decide (sdEnd w = 0) && !(sdPersist w)

/-- Cause 4: link. -/
def Tensor.armLink (t : Tensor) (h w : Nat) : Bool :=
  sdLinked w && (!(linkedOk w) || decide (sdIlink w = h) ||
    match tfind t.streams (sdIlink w) with
    | none => false
    | some ix => !(indexOk ix.desc.toNat) || ix.drives.isSome)

/-- The partner of a chain endpoint, coded as csr.core bits [15:0] (R307). -/
def partnerOf (w : Nat) : CoreId := ⟨bitsOf w 15 12, bitsOf w 11 8, bitsOf w 7 0⟩

/-- Cause 5: chain. -/
def Tensor.armChain (t : Tensor) (w : Nat) : Bool :=
  let p := partnerOf w
  decide (sdEnd w = 1) && (!(corePresent p && isCompute p) ||
    t.streams.any fun q => decide (sdEnd q.2.desc.toNat = 1) && decide (sdDir q.2.desc.toNat = sdDir w)
      && decide (partnerOf q.2.desc.toNat = p))

/-- Byte length of a row of an orbit's slice: whole block groups with KIND 0 (R108, R313). -/
def orbitRow (w : Nat) : Nat :=
  if fmtKind (sdFmt w) = 0 then (sdExt w 0 + 255) / 256 * (8 + 32 * sdSlotw w)
  else sdExt w 0 * (sdElemBits w / 8)

/-- Byte span of the rows of an orbit's slice, L (R335). -/
def orbitSpan (w : Nat) : Nat := (sdExt w 1 - 1) * (sdStr w 1).toNat + orbitRow w

/-- The physical core index at ring position k (R334). -/
def Device.orbitPos (d : Device) (cl : ClusterId) (k : Nat) : Nat :=
  d.rf (Reg.orbitRing cl (k / 8)) (8 * (k % 8) + 7) (8 * (k % 8))

/-- A core that CSWAP put in another's place stands at that core's ring position (R251, R335). -/
def Device.orbitCore (d : Device) (cl : ClusterId) (p : Nat) : Nat := (tfind (d.cluster cl).swapped p).getD p

/-- The orbit a stream captures when it is armed; none: cause 6 (R334, R335). -/
def State.armOrbit (s : State) (c : CoreId) (f w : Nat) : Option Orbit :=
  let cl := cluOfCore c
  let n := s.dev.rf (Reg.orbitCtl cl) 5 0
  let ring := (List.range n).map fun k => s.dev.orbitCore cl (s.dev.orbitPos cl k)
  let size := up256 (orbitSpan w)
  let va := sdBase w
  let own := fun (a : Option Nat) (o : Nat) => match a with
    | none => false
    | some a => match regionOf a with
      | (.coreStore dd cc kk, off) => decide (dd = c.die) && decide (cc = c.cluster) && decide (kk = c.core)
          && decide (off + o ≤ 0xC_0000)
      | _ => false
  let a0 := s.translateMem f va ⟨true, true⟩
  let a2 := s.translateMem f (va + 3 * size - 1) ⟨true, true⟩
  if decide (sdDir w = 0) && decide (sdNdim w ≤ 2) && !(sdLinked w) && !(sdPersist w)
      && (decide (sdNdim w = 1) || decide ((orbitRow w : Int) ≤ sdStr w 1))
      && own a0 (3 * size) && own a2 0 && ring.contains c.core && decide (2 ≤ n) then
    some ⟨n, ring, ring.idxOf c.core, a0.getD 0, size, 0, 0, false, [], [], 0, 0⟩
  else none

/-- Cause 7: persistent (R345). -/
def Tensor.armPersist (t : Tensor) (w : Nat) : Bool :=
  sdPersist w && (decide (sdDir w ≠ 0) || decide (sdEnd w ≠ 0) || sdLinked w || decide (3 < sdNdim w)
    || decide (4 < bitsOf w 491 488) || decide (4 ≤ (t.streams.filter fun q => sdPersist q.2.desc.toNat).length))

/-- The first failing check of a descriptor in the order of the causes (R310). -/
def State.armCause (s : State) (c : CoreId) (f h w : Nat) : Option Nat :=
  let t := s.dev.tensor c
  if armReserved w then some 0
  else if armShape w then some 1
  else if armAlign w then some 2
  else if 262144 < t.staging + sdAhead w * sdTileBytes w then some 3
  else if t.armLink h w then some 4
  else if t.armChain w then some 5
  else if sdEnd w = 2 ∧ (s.armOrbit c f w).isNone then some 6
  else if t.armPersist w then some 7
  else none

/-- A handle just armed (R323, R341, R346). -/
def State.armed (s : State) (c : CoreId) (op : TOp) (w : Nat) : Stream :=
  let p := coreKey (partnerOf w)
  let chain := decide (sdEnd w = 1)
  { desc := BitVec.ofNat 512 w, tag := op.tag, epoch := op.epoch, base := sdBase w, passEpoch := op.epoch
    passTag := op.tag, passes := 1, rearm := none, requested := 0, taken := 0, flight := [], staged := [], given := []
    used := 0, link := none, indices := [], drives := none, cur := [], tail := [], count := 0, puts := [], buf := []
    writing := 0, accepted := 0, placed := 0, shown := none
    owed := if chain && decide (sdDir w = 0) then sdAhead w else 0
    grants := if chain && decide (sdDir w = 1) then tget (s.dev.tensor c).kept 0 p else 0
    arriving := [], orbit := if sdEnd w = 2 then s.armOrbit c op.fn w else none, loose := false }

/-- An index stream begins to drive a data stream (R276, R328). -/
def Device.linkStreams (d : Device) (c : CoreId) (data ix : Nat) : Device :=
  match d.stream c data, d.stream c ix with
  | some a, some b =>
    (d.setStream c data { a with link := some ix }).setStream c ix { b with drives := some data }
  | _, _ => d

/-- SARM is carried out on handle h: the descriptor is read and checked (R276, R310); an index handle cannot be named (R329). -/
def State.armStream (s : State) (c : CoreId) (op : TOp) (h : Nat) : State :=
  match s.dev.stream c h with
  | some st => s.onDev fun d => if st.drives.isSome then d.streamDesc c op.tag h 9 0 else d.streamState c op h 0
  | none =>
    match s.loadV op.fn op.x.toNat 64 with
    | none => s.onDev fun d => d.streamDesc c op.tag h 8 0
    | some (bs, p) =>
      let w := leNat bs
      if p then s.onDev fun d => d.streamDesc c op.tag h 8 0
      else match s.armCause c op.fn h w with
        | some n => s.onDev fun d => d.streamDesc c op.tag h n (if n = 5 then bitsOf w 15 0 else 0)
        | none => s.onDev fun d =>
          let d1 := d.setStream c h (s.armed c op w)
          let d2 := if sdEnd w = 1 ∧ sdDir w = 1 then
              d1.onTensor c fun t => { t with kept := tdel t.kept (coreKey (partnerOf w)) }
            else d1
          if sdLinked w && (d2.stream c (sdIlink w)).isSome then d2.linkStreams c h (sdIlink w) else d2

/-! ## Fetching ahead (R323, R330, R331) -/

/-- Index values that an item of an index stream carries, with poison. -/
def indexValues (i : Item) : List (Nat × Bool) :=
  (i.pkts.map fun p => (List.range (p.payload.length / 4)).map fun k => (leAt p.payload (4 * k) 4, p.hdr.poison)).flatten

/-- A data stream takes index values from its index stream until it holds n of them or none is staged. -/
def Device.pullIndices : Nat → Device → CoreId → Nat → Nat → Device
  | 0, d, _, _, _ => d
  | fuel + 1, d, c, h, n =>
    match d.stream c h with
    | none => d
    | some st =>
      if n ≤ st.indices.length then d
      else match st.link with
        | none => d
        | some ix => match d.stream c ix with
          | none => d
          | some xs => match xs.next (d.tensor c) with
            | none => d
            | some i =>
              Device.pullIndices fuel ((d.setStream c ix xs.pop).setStream c h
                { st with indices := st.indices ++ indexValues i }) c h n

/-- The first index value of a tile that is poisoned or out of range, with its position (R331). -/
def Stream.badIndex (st : Stream) (t : TileAt) : Option (Nat × Nat) :=
  match st.link with
  | none => none
  | some _ =>
    match (List.range t.rows).find? fun r => (st.dataRow t r).isNone with
    | none => none
    | some r => some ((st.indices.getD (t.x1 + r) (0, true)).1, t.x1 + r)

/-- A poisoned row: every part of it. -/
def FetchRow.poisoned (r : FetchRow) : FetchRow := { r with parts := r.parts.map fun p => (p.1, true) }

/-- A read stream may request its next tile (R323, R328, R336). -/
def Stream.mayRequest (st : Stream) (x : Tensor) : Bool :=
  let w := st.desc.toNat
  let t := sdTiles w (st.rows1 x)
  decide (sdDir w = 0) && decide (sdEnd w ≠ 1) && (!(sdLinked w) || st.link.isSome)
    && decide (st.staged.length + st.flight.length < sdAhead w) && decide (st.requested < st.limit x)
    && (match st.orbit with
        | none => true
        | some o => decide (st.requested < (o.step + 1) * t)
            && (decide (o.step = 0) || (tfind o.arrived o.step).isSome))

/-- A read stream requests its next tile: memory is read now, the bytes arrive with TILE_STAGED (R320, R323, R330,
R331, R337). -/
def State.requestTile (s : State) (c : CoreId) (h : Nat) : State :=
  match s.dev.stream c h with
  | none => s
  | some st0 =>
    let x := s.dev.tensor c
    if !(st0.mayRequest x) then s
    else
      let w := st0.desc.toNat
      let r1 := st0.rows1 x
      let n := st0.requested % sdTiles w r1
      let t := sdTileAt w r1 n
      let s1 := s.onDev fun d => Device.pullIndices 4096 d c h (t.x1 + t.rows)
      match s1.dev.stream c h with
      | none => s
      | some st =>
        if st.link.isSome && decide (st.indices.length < t.x1 + t.rows) then s1
        else
          let f := s1.dev.coreFn c
          let q := s1.fetchTile f st r1 n
          let shapeBad := match st.orbit with
            | none => false
            | some o => decide (o.step ≠ 0) && (tfind o.arrived o.step == some false)
          let rows := if shapeBad then q.1.map FetchRow.poisoned else q.1
          let s2 := s1.onDev fun d => (d.setStream c h
            { st with requested := st.requested + 1, flight := st.flight ++ [⟨st.requested, st.passEpoch, st.passTag, rows⟩] }).takeFresh
          let s3 := match st.badIndex t with
            | none => s2
            | some (v, pos) => s2.onDev fun d =>
              d.trecOnce c 0x04 0x6012 .deferred true st.passTag 16 [(2, 1, h), (4, 4, v), (8, 5, pos)]
          match q.2 with
          | none => s3
          | some va => s3.onDev fun d => d.streamFault c 0x6015 true st.passTag h [(8, 8, va)]

/-- All the bytes of a tile have arrived (R316, R323). -/
def State.stageTile (s : State) (c : CoreId) (h n : Nat) : State :=
  match s.dev.stream c h with
  | none => s
  | some st =>
    match st.flight.find? fun f => decide (f.tile = n) with
    | none => s
    | some f =>
      let r := s.formItem c h st f
      r.1.onDev fun d => match d.stream c h with
        | none => d
        | some st => d.setStream c h
          { st with flight := st.flight.filter fun f => decide (f.tile ≠ n), staged := st.staged ++ [r.2] }

/-- Item i from now on of a read stream as it will be delivered: taken, staged, in flight, or as memory holds it. None: it
cannot be seen yet, or lies past the end of the stream. -/
def State.peekFrom (s : State) (c : CoreId) (h : Nat) (st : Stream) (i : Nat) : Option (List Packet) :=
  match st.given[i]? with
  | some it => some it.pkts
  | none =>
    let n := st.taken + (i - st.given.length)
    let x := s.dev.tensor c
    if st.limit x ≤ n then none
    else match st.staged.find? fun j => decide (j.tile = n) with
    | some it => some it.pkts
    | none =>
      match st.flight.find? fun f => decide (f.tile = n) with
      | some f => some (s.formItem c h st f).2.pkts
      | none =>
        let r1 := st.rows1 x
        let t := sdTiles st.desc.toNat r1
        let at' := sdTileAt st.desc.toNat r1 (n % t)
        let seen := match st.orbit with
          | none => decide (sdEnd st.desc.toNat = 0)
              && (st.link.isNone || decide (at'.x1 + at'.rows ≤ st.indices.length))
          | some o => decide (n / t = o.step) && (decide (o.step = 0) || (tfind o.arrived o.step).isSome)
        if seen then
          some (s.formItem c h st ⟨n, st.passEpoch, st.passTag, (s.fetchTile (s.dev.coreFn c) st r1 (n % t)).1⟩).2.pkts
        else none

/-- The index values of a data stream, with those that its index stream has still to deliver and that can be seen now. -/
def State.peekIndices (s : State) (c : CoreId) (st : Stream) (ix : Nat) : List (Nat × Bool) :=
  match s.dev.stream c ix with
  | none => st.indices
  | some xs =>
    (List.range (sdTiles xs.desc.toNat (sdExt xs.desc.toNat 1))).foldl (fun l i =>
      match s.peekFrom c ix xs i with
      | some ps => l ++ indexValues ⟨0, ps⟩
      | none => l) st.indices

/-- Item i from now on of a read stream, ahead of its codes and without the limit of AHEAD; that of a linked stream once its index
values can be seen (R325, R330). -/
def State.peekItem (s : State) (c : CoreId) (h i : Nat) : Option (List Packet) :=
  match s.dev.stream c h with
  | none => none
  | some st =>
    match st.link with
    | none => s.peekFrom c h st i
    | some ix => s.peekFrom c h { st with indices := s.peekIndices c st ix } i

/-! ## Stream instructions in their queue (R276, R346, R348, R350) -/

/-- Re-arm waits to take effect: once the last tile of the current pass is requested (R346). -/
def Stream.rearmDue (st : Stream) (x : Tensor) : Bool := st.rearm.isSome && decide (st.limit x ≤ st.requested)

/-- A re-arm takes effect: the fetcher goes on to the new pass (R346). -/
def Stream.rearmed (st : Stream) : Stream :=
  match st.rearm with
  | none => st
  | some (b, e, tag) => { st with base := b, passEpoch := e, passTag := tag, passes := st.passes + 1, rearm := none }

/-- The position of a stream (R350). -/
def Stream.position (st : Stream) : Nat :=
  let items := if sdDir st.desc.toNat = 0 then st.taken else st.accepted
  items % 2 ^ 40 + (match st.orbit with
      | some o => o.step % 256
      | none => 0) <<< 40
    + (if sdPersist st.desc.toNat then (st.passes % 256) <<< 48 else 0)

/-- A write stream has nothing left to write: neither of complete items nor of what has come of the open one (R276, R324). -/
def Stream.written (st : Stream) : Bool :=
  st.buf.isEmpty && decide (st.writing = 0) && (decide (sdEnd st.desc.toNat ≠ 0) || decide (st.openCount ≤ st.shownOf st.accepted)
    || decide (sdTiles st.desc.toNat (sdExt st.desc.toNat 1) ≤ st.accepted))

/-- The next item of a read stream is brought to its consumer as soon as it can be: requested, and staged (R323). -/
def State.bringItem (s : State) (c : CoreId) (h : Nat) : State :=
  match s.dev.stream c h with
  | none => s
  | some st =>
    if (st.next (s.dev.tensor c)).isSome then s
    else (if st.requested ≤ st.taken then s.requestTile c h else s).stageTile c h st.taken

/-- The head of the stream queue done: it leaves the queue. -/
def Device.popStreamQ (d : Device) (c : CoreId) : Device := d.onTensor c fun t => { t with streamQ := t.streamQ.drop 1 }

/-- An s register that an operation writes when it completes (R264). -/
def Device.writeS (d : Device) (c : CoreId) (r : Nat) (v : PVal) : Device :=
  d.onCore c fun k => { (k.setS r v) with pendingS := sremove k.pendingS r }

/-- SDRAIN on an armed handle that can be drained (R276, R329, R348). -/
def Device.drainStream (d : Device) (c : CoreId) (h : Nat) (st : Stream) : Device :=
  let d1 := match st.link with
    | some ix => d.dropStream c ix
    | none => d
  let d2 := match st.drives with
    | some x => match d1.stream c x with
      | some y => d1.setStream c x { y with link := none }
      | none => d1
    | none => d1
  d2.dropStream c h

/-- An operation of the stream queue names a handle that serves as an index stream (R329): SLINK its data stream, the others the
handle they act on. -/
def Device.namesIndex (d : Device) (c : CoreId) (op : TOp) : Option Nat :=
  let n := if op.opc = 0x84 then op.ins.a.toNat else op.ins.d.toNat
  match d.stream c n with
  | none => none
  | some st => if st.drives.isSome then some n else none

/-- SPOS leaves its register poisoned, its value of no stated kind (R277, R329). -/
def Device.posLost (d : Device) (c : CoreId) (r : Nat) : Device :=
  (d.writeS c r ⟨BitVec.ofNat 64 (leNat (freeBytes d.fresh 8)), true⟩).takeFresh

/-- The operation at the head of the stream queue is carried out where it can be; SARM waits for STREAM_ARMED. -/
def Device.streamHead (d : Device) (c : CoreId) : Option Device :=
  let t := d.tensor c
  match t.streamQ with
  | [] => none
  | op :: _ =>
    let h := op.ins.d.toNat
    let a := op.ins.a.toNat
    match op.opc with
    | 0x81 =>
      if (d.namesIndex c op).isSome then some ((d.popStreamQ c).streamDesc c op.tag h 9 0)
      else match d.stream c h with
      | none => some ((d.popStreamQ c).streamState c op h 1)
      | some st =>
        if !(sdPersist st.desc.toNat) then some ((d.popStreamQ c).streamState c op h 2)
        else if op.x.toNat % sdUnit st.desc.toNat ≠ 0 then some ((d.popStreamQ c).streamDesc c op.tag h 2 0)
        else if st.rearm.isSome then none
        else some ((d.popStreamQ c).setStream c h { st with rearm := some (op.x.toNat, op.epoch, op.tag) })
    | 0x82 =>
      if !(t.turn op h && t.turn op a) then none
      else if (d.namesIndex c op).isSome then some ((d.popStreamQ c).streamDesc c op.tag h 9 0)
      else match d.stream c h, d.stream c a with
        | some x, some y =>
          let fetched := decide (x.requested ≠ 0) || decide (x.taken ≠ 0)
          if sdDir y.desc.toNat ≠ 0 ∨ fetched = true then some ((d.popStreamQ c).streamState c op h 4)
          else if !(sdLinked x.desc.toNat) || !(indexOk y.desc.toNat) || y.drives.isSome || decide (h = a) then
            some ((d.popStreamQ c).streamDesc c op.tag h 4 0)
          else
            let d1 := match x.link with
              | some old => match d.stream c old with
                | some z => d.setStream c old { z with drives := none }
                | none => d
              | none => d
            some ((d1.popStreamQ c).linkStreams c h a)
        | _, _ => some ((d.popStreamQ c).streamState c op h 4)
    | 0x83 =>
      if !(t.turn op h) then none
      else if (d.namesIndex c op).isSome then some ((d.popStreamQ c).streamDesc c op.tag h 9 0)
      else match d.stream c h with
        | none => some (d.popStreamQ c)
        | some st =>
          if decide (sdDir st.desc.toNat = 1) && !st.written then none
          else some ((d.drainStream c h st).popStreamQ c)
    | 0x84 =>
      if !(t.turn op a) then none
      else if (d.namesIndex c op).isSome then some (((d.popStreamQ c).streamDesc c op.tag a 9 0).posLost c h)
      else match d.stream c a with
        | none => some (((d.popStreamQ c).streamState c op a 1).posLost c h)
        | some st => some ((d.popStreamQ c).writeS c h ⟨BitVec.ofNat 64 st.position, false⟩)
    | _ => none

/-! ## Chains (R340 to R342) -/

/-- The armed chain stream of a core in a direction toward a partner. -/
def Tensor.chainTo (t : Tensor) (dir : Nat) (p : CoreId) : Option (Nat × Stream) :=
  t.streams.find? fun q => decide (sdEnd q.2.desc.toNat = 1) && decide (sdDir q.2.desc.toNat = dir)
    && decide (partnerOf q.2.desc.toNat = p)

/-- A grant that finds the writer's table full is discarded: STREAM_DESC of the writer core, cause 5, a stream fault, once for each
OP_TAG; no handle of that core is concerned, so the handle's byte is zero (R342, R351, DEDUCED, log 180). -/
def Device.grantLost (d : Device) (p : CoreId) (tag : W16) (partner : CoreId) : Device :=
  if (d.tensor p).once.contains (0x6010, tag.toNat, 16) then d
  else (d.trecOnce p 0x04 0x6010 .deferred false tag 16 [(3, 1, 5), (4, 2, bitsOf (csrCore partner) 15 0)]).tfault p 0x6010 tag

/-- A packet of one core's stream unit to another's crosses on a network: neither the sender's send chute nor the receiver's
receive chute holds it back (R23, R66; log 190). -/
def Device.crosses (d : Device) (a b : CoreId) (net : Nat) : Bool :=
  !(d.holdOut ⟨.core a.die a.cluster a.core, 69 + net⟩) && !(d.holdOut ⟨.core b.die b.cluster b.core, 65 + net⟩)

/-- A chain read stream sends one grant to its writer (R341, R342). -/
def Device.chainGrant (d : Device) (c : CoreId) (h : Nat) : Device :=
  match d.stream c h with
  | none => d
  | some st =>
    let w := st.desc.toNat
    let p := partnerOf w
    if sdEnd w ≠ 1 ∨ sdDir w ≠ 0 ∨ st.owed = 0 ∨ d.crosses c p 0 = false then d
    else
      let d1 := d.setStream c h { st with owed := st.owed - 1 }
      let x := d1.tensor p
      match x.chainTo 1 c with
      | some (h', y) => d1.setStream p h' { y with grants := y.grants + 1 }
      | none =>
        if (tfind x.kept (coreKey c)).isSome ∨ x.kept.length < 16 then
          d1.setTensor p { x with kept := tput x.kept (coreKey c) (tget x.kept 0 (coreKey c) + 1) }
        else d1.grantLost p st.tag c

/-- A chain writer sends its next tile against a grant (R341). -/
def Device.chainSend (d : Device) (c : CoreId) (h : Nat) : Device :=
  match d.stream c h with
  | none => d
  | some st =>
    let w := st.desc.toNat
    match st.buf with
    | [] => d
    | it :: rest =>
      if sdEnd w ≠ 1 ∨ sdDir w ≠ 1 ∨ (st.grants = 0 ∧ st.loose = false) ∨ d.crosses c (partnerOf w) 2 = false then d
      else
        let d1 := d.setStream c h
          { st with buf := rest, writing := st.writing + 1, placed := st.placed + 1, grants := st.grants - 1 }
        let p := partnerOf w
        match (d1.tensor p).chainTo 0 c with
        | none => d1
        | some (h', y) => d1.setStream p h' { y with arriving := y.arriving ++ [it] }

/-- The payload bytes of packets up to n in all. -/
def cutPackets (n : Nat) (ps : List Packet) : List Packet :=
  (ps.foldl (fun (a : List Packet × Nat) p =>
    if a.2 = 0 then a
    else
      let k := Nat.min a.2 p.payload.length
      (a.1 ++ [⟨{ p.hdr with poison := true, len := .ofNat 11 k }, p.payload.take k⟩], a.2 - k)) ([], n)).1

/-- An item arrives at a chain read stream: it is staged in arrival order; one longer than its buffer is cut and
poisoned (R341). -/
def Device.chainReceive (d : Device) (c : CoreId) (h : Nat) : Device :=
  match d.stream c h with
  | none => d
  | some st =>
    match st.arriving with
    | [] => d
    | it :: rest =>
      let n := (it.pkts.map fun p => p.payload.length).sum
      let tb := sdTileBytes st.desc.toNat
      let long := decide (tb < n)
      let ps := if long then markLast (cutPackets tb it.pkts) else it.pkts
      let d1 := d.setStream c h
        { st with arriving := rest, staged := st.staged ++ [⟨st.requested, ps⟩], requested := st.requested + 1 }
      if long then d1.streamFormat c h st.tag 2 st.requested else d1

/-! ## Orbits (R336 to R338) -/

/-- The armed orbit handle of a core: the same number where that is an orbit, else the lowest (DESIGN CHOICE, log 9). -/
def Tensor.orbitHandle (t : Tensor) (h : Nat) : Option (Nat × Stream) :=
  match tfind t.streams h with
  | some st => if st.orbit.isSome then some (h, st) else t.streams.find? fun q => q.2.orbit.isSome
  | none => t.streams.find? fun q => q.2.orbit.isSome

/-- The core at ring position k of an orbit. -/
def Orbit.member (o : Orbit) (c : CoreId) (k : Nat) : CoreId := ⟨c.die, c.cluster, o.ring.getD (k % o.n) 0⟩

/-- The region J_s of an orbit: its device address. -/
def Orbit.region (o : Orbit) (step : Nat) : Nat :=
  o.base + (if step = 0 then 0 else if step % 2 = 1 then 1 else 2) * o.size

/-- Bytes of a range copied to another, each poison unit of the source with its own poison, or all poisoned where `bad` (R35). -/
def State.copyRange (s : State) (src dst n : Nat) (bad : Bool) : State :=
  if bad then s.store dst (s.load src n).1 true else s.moveUnits src dst n

/-- A region of an orbit poisoned whole (R337). -/
def State.poisonRegion (s : State) (a n : Nat) : State := s.copyRange a a n true

/-- An orbit member copies its current region to its successor (R336, R337). A successor in block reset answers through
its wrapper: the copy is complete for the sender, which receives a ready (R559). -/
def State.orbitCopy (s : State) (c : CoreId) (h : Nat) : State :=
  match s.dev.stream c h with
  | none => s
  | some st =>
    match st.orbit with
    | none => s
    | some o =>
      if o.copied || decide (o.n ≤ o.step + 1) || (decide (2 ≤ o.step) && decide (o.ready < o.step))
          || (decide (o.step ≠ 0) && (tfind o.arrived o.step).isNone)
          || !(s.dev.crosses c (o.member c (o.pos + 1)) 2) then s
      else
        let done := fun (s : State) => s.onDev fun d => match d.stream c h with
          | some st => d.putStream c h { st with orbit := some { o with copied := true } }
          | none => d
        let p := o.member c (o.pos + 1)
        if (s.dev.core p).run = .blockReset then
          (done s).onDev fun d => match d.stream c h with
            | some st => d.setStream c h { st with orbit := st.orbit.map fun o => { o with ready := o.ready + 1 } }
            | none => d
        else match (s.dev.tensor p).orbitHandle h with
          | none => s
          | some (h', y) =>
            match y.orbit with
            | none => s
            | some q =>
              let n := Nat.min o.size q.size
              let bad := decide (o.size ≠ q.size) || (tfind o.arrived o.step == some false)
              let s1 := s.copyRange (o.region o.step) (q.region (o.step + 1)) n false
              let hd := st.headOf o.step st.passTag st.passEpoch
              let s2 := if o.size = q.size then s1
                else (s1.poisonRegion (q.region (o.step + 1)) q.size).onDev fun d => d.streamFault p 0x6013 true y.tag h'
                  [(3, 1, o.step + 1), (4, 4, o.size)]
              done (s2.onDev fun d =>
                d.setStream p h' { y with orbit := some { q with
                  arrived := tput q.arrived (o.step + 1) (!bad), heads := tput q.heads (o.step + 1) hd } })

/-- An orbit member sends ready for the next step it has finished to its predecessor (R336). -/
def Device.orbitReady (d : Device) (c : CoreId) (h : Nat) : Device :=
  match d.stream c h with
  | none => d
  | some st =>
    match st.orbit with
    | none => d
    | some o =>
      let fin := o.finished (sdTiles st.desc.toNat (st.rows1 (d.tensor c)))
      let p := o.member c (o.pos + o.n - 1)
      if fin ≤ o.readySent ∨ d.crosses c p 0 = false then d
      else
        let d1 := d.setStream c h { st with orbit := some { o with readySent := o.readySent + 1 } }
        match (d1.tensor p).orbitHandle h with
        | none => d1
        | some (h', y) => d1.setStream p h' { y with orbit := y.orbit.map fun q => { q with ready := q.ready + 1 } }

end Sys2Proof.Machine
end

