-- ==== Sys2Proof/Machine/Convert.lean ====
section
/-!
DEFINITION. Conversions (R272 to R274, R284 to R288): exact source values, rounding to the target once, scorecards,
outliers and map bits (R186 to R197), and what CVT, CVTIN and CVTOUT move.
-/
namespace Sys2Proof.Machine

/-! ## Source elements (R286) -/

/-- A source element: its value, whether a zero is negative, its poison, and whether a NaN stands for an element of a dead
block or for a non-finite tally and not for a NaN of the source (R114, R159). -/
structure El where
  v : Real
  neg0 : Bool
  poison : Bool
  lost : Bool
  deriving DecidableEq, Repr

/-- The element that an FP32 encoding is. -/
def elOf (w : Nat) (poison : Bool) : El := ⟨fp32Val w, decide (w = 0x8000_0000), poison, false⟩

/-- The 32 exact values of a block as read, without padding (R97, R104, R311). -/
def OBlk.elems (b : OBlk) : List El :=
  let sc := fp32Rat b.scale * pow2 ((b.exp : Int) - 127 + b.off)
  if b.zero then List.replicate b.live ⟨.fin 0, false, b.poison, false⟩
  else if b.dead ∨ b.pips = [] then List.replicate b.live ⟨.nan, false, true, true⟩
  else (b.pips.take b.live).map fun p => ⟨.fin ((entryInt p : Rat) * sc), false, b.poison, false⟩

/-- The elements of a packet that is not a narrow code (R82, R286). -/
def plainElems (p : Packet) : List El :=
  let bad := pktBad p
  let n := p.payload.length
  match p.hdr.width.toNat with
  | 0x9 => (List.range (n / 2)).map fun i => elOf (leAt p.payload (2 * i) 2 * 65536) bad
  | 0xA => (List.range (n / 4)).map fun i => elOf (leAt p.payload (4 * i) 4) bad
  | 0xB => (List.range (n / 4)).map fun i => ⟨.fin ((sext (leAt p.payload (4 * i) 4) 32 : Int) : Rat), false, bad, false⟩
  | _ => (List.range n).map fun i => ⟨.fin ((leAt p.payload i 1 : Nat) : Rat), false, bad, false⟩

/-- The elements of an item in order and the records of reading it (R286); the blocks of narrow packets are cut into
rows so that padding is left out. -/
def Device.itemElems (d : Device) (cl : ClusterId) (expect : W16) (t : TileAt) (ps : List Packet) :
    List El × List ReadRec :=
  if ps.any (fun p => decide (1 ≤ p.hdr.width.toNat) && decide (p.hdr.width.toNat ≤ 8)) then
    let r := d.readItem cl expect t ps
    ((r.1.map fun row => (row.map OBlk.elems).flatten).flatten, r.2.1)
  else
    ((ps.map plainElems).flatten, headerRecs ps)

/-! ## Targets (R272 to R274, R309) -/

/-- The target of a conversion: its kind (0 FP32, 1 BF16, 2 narrow, 3 INT32), exponent mode, format reference and key. -/
structure Tgt where
  kind : Nat
  fixed : Bool
  fmt : Nat
  key : Option DrawKey
  deriving DecidableEq, Repr

/-- The target that a conversion control word, sx and sy give an operation. -/
def tgtOf (op : TOp) (sx sy : W64) : Tgt :=
  let i := op.ins.imm.toNat
  { kind := bitsOf i 2 0, fixed := bitAt i 4, fmt := bitsOf sx.toNat 31 0
    key := if bitAt i 3 then some ⟨sy.toNat, bitsOf i 12 5, op.step, bitsOf sx.toNat 63 32⟩ else none }

/-- The tensor-scale entry of a narrow target (R309). -/
def Device.tgtEntry (d : Device) (cl : ClusterId) (gen : Nat) (g : Tgt) : Nat :=
  let n := fmtLayer g.fmt
  match fmtRole g.fmt with
  | 0 => d.layerF cl gen n 55 48
  | 1 => d.layerF cl gen n 63 56
  | _ => fmtTs g.fmt

/-- The operation is exempt from counting: its launch carries pass kind backward and the format reference has role
weight or activation (R388). -/
def exempt (op : TOp) (fmt : Nat) : Bool := op.backward && decide (fmtRole fmt < 2)

/-- The reduction blocks of a row of a tile. -/
def TileAt.blocks (t : TileAt) : List Nat := (List.range ((t.cols + 31) / 32)).map fun i => t.x0 / 32 + i

/-- The first codebook, of those that the reduction blocks given convert with, that names an invalid custom slot. -/
def State.slotFault (s : State) (cl : ClusterId) (gen n role : Nat) (js : List Nat) : Option Nat :=
  (js.filterMap fun j => s.blockBook cl gen n role j).find? fun id => decide (s.dev.codebook cl id = .invalidSlot)

/-- What is wrong with a target: the record of R95, R103, R186 or R188, as code and detail after the OP_TAG; the whole output is
then poisoned (R188, R287). `js` are the reduction blocks that the conversion produces. TSCALE is looked at for a narrow target
only (DESIGN CHOICE, log 171); a reserved CODEBOOK is handled as an invalid slot (DESIGN CHOICE, log 172). -/
def State.tgtFault (s : State) (cl : ClusterId) (gen : Nat) (g : Tgt) (js : List Nat) :
    Option (Nat × List (Nat × Nat × Nat)) :=
  let d := s.dev
  let n := fmtLayer g.fmt
  let role := fmtRole g.fmt
  if !(d.layerValid cl gen n) then some (0x4008, [(2, 1, n), (3, 1, gen), (4, 1, 0)])
  else if g.kind ≠ 2 then none
  else if !(tsValid (d.tscale cl gen (d.tgtEntry cl gen g))) then some (0x2004, [(2, 1, d.tgtEntry cl gen g)])
  else if role < 2 then
    (if (role = 1 ∧ d.outlEn cl gen n = true ∧ (s.outlierTable cl gen n).isNone)
        ∨ (js.any fun j => (s.blockBook cl gen n role j).isNone) = true then
      some (0x4008, [(2, 1, n), (3, 1, gen), (4, 1, 1)])
     else (s.slotFault cl gen n role js).map fun id => (0x2003, [(2, 1, id)]))
  else match d.codebook cl (fmtCb g.fmt) with
    | .found _ => none
    | _ => some (0x2003, [(2, 1, fmtCb g.fmt)])

/-- LAYER_INVALID about a map area, cause 1 or 2: once for each operation tag, and a tensor fault (R188, R268). -/
def Device.mapRecord (d : Device) (c : CoreId) (unit : Nat) (tag : W16) (n gen cause : Nat) : Device :=
  if (d.tensor c).once.contains (0x4008, tag.toNat, 16 + cause) then d
  else (d.trecOnce c unit 0x4008 .deferred true tag (16 + cause) [(2, 1, n), (3, 1, gen), (4, 1, cause)]).tfault c 0x4008 tag

/-- A target fault of a conversion and its record: one for each conversion (R95, R103, R186), but for an unusable map area once
for each operation tag (R188). It is a tensor fault (R268). -/
def Device.tgtRecord (d : Device) (c : CoreId) (tag : W16) (code : Nat) (det : List (Nat × Nat × Nat)) : Device :=
  match det with
  | [(2, 1, n), (3, 1, gen), (4, 1, 1)] => d.mapRecord c 0x03 tag n gen 1
  | _ => d.trecFault c 0x03 code true tag det

/-! ## One block (R99, R190 to R197) -/

/-- |x| of a finite element. -/
def El.mag (e : El) : Option Rat :=
  match e.v with
  | .fin r => some (if r < 0 then -r else r)
  | _ => none

/-- The largest finite |x| of elements that are not poisoned. -/
def maxMag (els : List El) : Rat :=
  els.foldl (fun m e => if e.poison then m else match e.mag with
    | some r => if r > m then r else m
    | none => m) 0

/-- An element's magnitude reaches a threshold. -/
def El.reaches (e : El) (th : Rat) : Bool :=
  match e.v with
  | .fin r => decide (th ≤ (if r < 0 then -r else r))
  | .inf _ => true
  | .nan => false

/-- A map bit is set for a layer; where the write is lost, POISONED and LAYER_INVALID with cause 2 (R188). -/
def State.mapBit (s : State) (c : CoreId) (tag : W16) (gen n base i : Nat) : State :=
  let r := s.setMapBit base i
  if r.2 then
    r.1.onDev fun d => (d.scPoison (cluOfCore c) n).mapRecord c 0x03 tag n gen 2
  else r.1

/-- Counts of a converted block or run of elements that go to the open scorecard (R193, R194): maxima, saturated
elements. -/
def Device.countElems (d : Device) (cl : ClusterId) (n : Nat) (els : List El) (sat : Nat) : Device :=
  let d1 := (d.scMax cl n 0 4 (fp32Up (maxMag els))).scAdd cl n 4 2 sat
  if els.any fun e => e.poison then d1.scPoison cl n else d1

/-- Counts of a narrow block (R100, R104, R105, R193, R197). A block with a poisoned element adds to no count; its other elements
enter both maxima (R193, R194). -/
def Device.countBlock (d : Device) (cl : ClusterId) (gen n ts index : Nat) (t : Rat) (els : List El) (r : ConvBlock) :
    Device :=
  if els.any fun e => e.poison then
    ((d.scPoison cl n).scMax cl n 0 4 (fp32Up (maxMag els))).tsMax cl ts (fp32Up (maxMag els))
  else
    let m := maxMag els
    let d1 := ((d.countElems cl n els r.sat).tsMax cl ts (fp32Up m)).scAdd cl n 6 1 (ofBool r.rangeSat)
    let d2 := (d1.scAdd cl n 7 1 (ofBool r.blk.dead)).scAdd cl n 8 4 (ofBool (decide (r.blk = .zero)))
    if decide (r.blk = .zero) || r.blk.dead || decide (m = 0) then d2
    else if d2.sampled cl (0x100 + n) (d2.layerF cl gen n 43 40) index then
      d2.scAdd cl n (32 + 2 * histBin m t) 2 1
    else d2

/-- A conversion emits SCALE_RANGE for the first range-saturated block of an entry (R100). -/
def Device.scaleRange (d : Device) (c : CoreId) (tag : W16) (ts value : Nat) : Device :=
  let cl := cluOfCore c
  let u := d.unitsOf cl
  if u.ranged.contains ts then d
  else (d.setUnits cl { u with ranged := sinsert u.ranged ts }).trec c 0x03 0x2002 .notice false tag
    [(2, 1, ts), (4, 4, value)]

/-- The first forced block of a layer in a step (R191). -/
def Device.overflow (d : Device) (c : CoreId) (n ch : Nat) : Device :=
  let cl := cluOfCore c
  let u := d.unitsOf cl
  if u.overflow.contains n then d
  else (d.setUnits cl { u with overflow := sinsert u.overflow n }).emit (srcCore c 0x03) 0x4004 .notice false
    (detail [(0, 1, n), (4, 4, ch)]) (d.originOf c)

/-- An outlier operand goes to the CFU; a later one of the same layer, row and channel replaces it (R190, DESIGN CHOICE, log 10). -/
def Device.sendSide (d : Device) (cl : ClusterId) (o : SideOp) : Device :=
  let u := d.unitsOf cl
  d.setUnits cl { u with side := o :: u.side.filter fun x =>
    !(decide (x.layer = o.layer) && decide (x.row = o.row) && decide (x.chan = o.chan)) }

/-- A narrow block of an activation conversion with OUTL_EN = 1: operands for the side path, candidate bits, and the
channel of the first excess outlier (R190). -/
def State.outliers (s : State) (c : CoreId) (op : TOp) (gen n row ch0 : Nat) (t : Rat) (table : List Nat)
    (els : List El) (count : Bool) : State × Option Nat :=
  let cl := cluOfCore c
  let k := s.dev.layerF cl gen n 28 24
  let th := pow2 (-(k : Int)) * t
  let base := s.dev.mapBase cl gen n
  let mb := s.dev.mapBlocks cl gen n
  els.zipIdx.foldl (fun (a : State × Option Nat) p =>
    let ch := ch0 + p.2
    let hit := p.1.reaches th
    let s1 := if hit && count && decide (ch / 32 < mb) then a.1.mapBit c op.tag gen n (base + candOff mb) ch else a.1
    if table.contains ch then
      let v := match p.1.v with
        | .fin r => (toBf16 .nearest p.1.neg0 (.fin (r / t))).1
        | x => (toBf16 .nearest false x).1
      let s2 := s1.onDev fun d => d.sendSide cl ⟨n, row, ch, BitVec.ofNat 16 v, p.1.poison, op.epoch⟩
      (if count && !p.1.poison then s2.onDev fun d => d.scChannel cl n ch else s2, a.2)
    else (s1, if hit then a.2.or (some ch) else a.2)) (s, none)

/-- One block of up to 32 elements is converted to a narrow code: block i of row `row` of a tile of the stream whose
descriptor is w (R99, R181, R189, R190). A block that has no codebook or no table is poisoned data of no stated value; its record
is the operation's (`State.tgtFault`). -/
def State.convNarrow (s : State) (c : CoreId) (op : TOp) (g : Tgt) (w : Nat) (t : TileAt) (row i : Nat)
    (els : List El) : State × OutBlk :=
  let cl := cluOfCore c
  let gen := (s.dev.genOf cl op.epoch).getD 0
  let n := fmtLayer g.fmt
  let role := fmtRole g.fmt
  let ts := s.dev.tgtEntry cl gen g
  let tv := tsValue (s.dev.tscale cl gen ts)
  let tr := fp32Rat tv
  let b := t.x0 / 32 + i
  let count := !(exempt op g.fmt)
  let book := if role < 2 then s.blockBook cl gen n role b else some (fmtCb g.fmt)
  let table := if role = 1 ∧ s.dev.outlEn cl gen n = true then s.outlierTable cl gen n else some []
  match book, table with
  | some id, some tab =>
    let ol := if role = 1 ∧ s.dev.outlEn cl gen n = true then
        s.outliers c op gen n (sdIndex w t (t.x1 + row) 0 / sdExt w 0) (t.x0 + 32 * i) tr tab els count
      else (s, none)
    let s1 := ol.1
    let id' := if ol.2.isSome then 0x08 else id
    match s1.dev.codebook cl id' with
    | .found cb =>
      let xs := els.zipIdx.map fun p => if tab.contains (t.x0 + 32 * i + p.2) then (⟨.fin 0, false, p.1.poison, false⟩ : El) else p.1
      let vals := (xs.map fun e => e.v) ++ List.replicate (32 - xs.length) (.fin 0)
      let index := fun j => sdIndex w t (t.x1 + row) (32 * i + j)
      let r := convertBlock cb vals tr (g.fixed && ol.2.isNone) (fun j => roundingAt g.key (index j)) xs.length
      let bad := els.any (fun e => e.poison) || r.blk.dead
      let mb := s1.dev.mapBlocks cl gen n
      let s2 := if count && decide (role < 2) && decide (b < mb) && (r.rangeSat || ol.2.isSome) then
          s1.mapBit c op.tag gen n (s1.dev.mapBase cl gen n + hotOff mb) b else s1
      let s3 := s2.onDev fun d =>
        let d1 := if count then d.countBlock cl gen n ts (index 0) tr xs r else d
        let d2 := if count && ol.2.isSome && !(els.any fun e => e.poison) then d1.scAdd cl n 18 2 1 else d1
        let d3 := match ol.2 with
          | some ch => d2.overflow c n ch
          | none => d2
        let d4 := if r.rangeSat then d3.scaleRange c op.tag ts tv else d3
        if r.blk.dead then d4.trec c 0x03 0x2001 .deferred true op.tag [(2, 2, ts), (4, 5, index 0)] else d4
      match r.blk with
      | .zero => (s3, ⟨row, cb.width, id', ts, true, 0, List.replicate 32 0, [], bad⟩)
      | .codes e cs => (s3, ⟨row, cb.width, id', ts, false, e, cs, [], bad⟩)
    | _ =>
      let sb := slotBook (sdSlotw w)
      (s1.onDev Device.takeFresh,
       ⟨row, sb.1, sb.2, ts, false, (Config.poisonData s.dev.fresh 0).toNat,
        (List.range 32).map (fun j => (Config.poisonData s.dev.fresh (j + 1)).toNat % 2 ^ sb.1), [], true⟩)
  | _, _ =>
    let sb := slotBook (sdSlotw w)
    (s.onDev Device.takeFresh,
     ⟨row, sb.1, sb.2, ts, false, (Config.poisonData s.dev.fresh 0).toNat,
      (List.range 32).map (fun j => (Config.poisonData s.dev.fresh (j + 1)).toNat % 2 ^ sb.1), [], true⟩)

/-- One element rounded to FP32 (0), BF16 (1) or INT32 (3): its bytes, whether it saturated, whether it became poisoned
(R113, R114). -/
def roundEl (kind : Nat) (mode : Rounding) (e : El) : List Byte × Bool × Bool :=
  match kind with
  | 1 => let r := toBf16 mode e.neg0 e.v; (leBytes 2 r.1, r.2, e.poison)
  | 3 => let r := toInt32 mode e.v; (leBytes 4 r.1, r.2.1, e.poison || r.2.2)
  | _ => let r := toFp32 mode e.neg0 e.v; (leBytes 4 r.1, r.2, e.poison)

/-- WIDTH of the packets of a target that is not a narrow code. -/
def tgtWidth (kind : Nat) : Nat :=
  match kind with
  | 1 => 0x9
  | 3 => 0xB
  | _ => 0xA

/-- Up to 32 elements converted to FP32, BF16 or INT32. `index j` is the index of element j under R110. -/
def State.convPlain (s : State) (c : CoreId) (op : TOp) (g : Tgt) (index : Nat → Nat) (row : Nat) (els : List El) :
    State × OutBlk :=
  let cl := cluOfCore c
  let rs := els.zipIdx.map fun p => (roundEl g.kind (roundingAt g.key (index p.2)) p.1, p.1)
  let sat := (rs.filter fun r => r.1.2.1 && !r.2.poison).length
  let nan := decide (g.kind = 3) && els.any fun e => decide (e.v = .nan) && !e.lost
  (s.onDev fun d =>
    let d1 := if exempt op g.fmt then d else d.countElems cl (fmtLayer g.fmt) els sat
    if nan then d1.trecOnce c 0x03 0x2001 .deferred true op.tag 16 [(2, 2, fmtTs g.fmt), (4, 5, index 0)] else d1,
   ⟨row, tgtWidth g.kind, 0, fmtTs g.fmt, false, 0, [], (rs.map fun r => r.1.1).flatten, rs.any fun r => r.1.2.2⟩)

/-- One block of a conversion of any target. -/
def State.convBlock (s : State) (c : CoreId) (op : TOp) (g : Tgt) (w : Nat) (t : TileAt) (row i : Nat)
    (els : List El) : State × OutBlk :=
  if g.kind = 2 then s.convNarrow c op g w t row i els
  else s.convPlain c op g (fun j => sdIndex w t (t.x1 + row) (32 * i + j)) row els

/-- Elements in rows are converted block by block for a tile of the stream with descriptor w (R163, R286). -/
def State.convRows (s : State) (c : CoreId) (op : TOp) (g : Tgt) (w : Nat) (t : TileAt) (rows : List (List El)) :
    State × List OutBlk :=
  rows.zipIdx.foldl (fun (a : State × List OutBlk) r =>
    (rowsOf 32 (r.1.length + 1) r.1).zipIdx.foldl (fun (a : State × List OutBlk) b =>
      let q := a.1.convBlock c op g w t r.2 b.2 b.1
      (q.1, a.2 ++ [q.2])) a) (s, [])

/-- The packets of converted blocks, with the operation's expected epoch. -/
def outPackets (c : CoreId) (op : TOp) (g : Tgt) (bs : List OutBlk) : List Packet :=
  packOut (coreHdr c 0x03 op.tag op.epoch) (if g.kind = 2 then (bs.headD ⟨0, 8, 0, 0, false, 0, [], [], false⟩).width
    else tgtWidth g.kind) bs

/-- The packets that a conversion sends: those that hold no narrow codes, and those whose TSCALE names a pinned entry, carry the sender's
CURRENT (R209). -/
def Device.convPackets (d : Device) (c : CoreId) (op : TOp) (g : Tgt) (bs : List OutBlk) : List Packet :=
  (outPackets c op g bs).map fun p =>
    if g.kind ≠ 2 ∨ d.pinned (cluOfCore c) p.hdr.tscale.toNat = true then { p with hdr := { p.hdr with epoch := d.curEpoch (cluOfCore c) } }
    else p

/-! ## The conversion queue (R264, R277, R286 to R288) -/

/-- The conversion at the head of its queue leaves it. -/
def Device.popConvQ (d : Device) (c : CoreId) : Device := d.onTensor c fun t => { t with convQ := t.convQ.drop 1 }

/-- The operation at the head of the conversion queue takes a new expected epoch, with csr.epoch (R212). -/
def Device.convEpoch (d : Device) (c : CoreId) (e : W16) : Device :=
  (d.onTensor c fun t => { t with convQ := t.convQ.mapIdx fun i o => if i = 0 then { o with epoch := e } else o }).onCore c
    fun k => { k with csr := { k.csr with epoch := e } }

/-- What the source of an operation has: nothing yet, a newer packet the cluster has not committed (R212), nothing more
(R319), an unusable handle (R277), or an item. -/
inductive Src where
  | wait
  | bad
  | ended
  | newer (e : W16)
  | item (st : Stream) (ps : List Packet)

/-- An operation's expected epoch is one the cluster has reached (R208). -/
def Device.epochReached (d : Device) (c : CoreId) (e : W16) : Bool :=
  decide (epochClass e (d.curEpoch (cluOfCore c)) ≠ .newer)

/-- The source of an operation at a handle it reads. -/
def Device.srcOf (d : Device) (c : CoreId) (op : TOp) (h : Nat) : Src :=
  match d.stream c h with
  | none => .bad
  | some st =>
    if st.drives.isSome ∨ sdDir st.desc.toNat ≠ 0 then .bad
    else match st.next (d.tensor c) with
    | some it =>
      match d.newerIn (cluOfCore c) op.epoch it.pkts with
      | some e => if d.epochReached c e then .newer e else .wait
      | none => .item st it.pkts
    | none => if d.isOver c h st then .ended else .wait

/-- A handle an operation writes can take an item, or cannot be used at all. -/
def Device.dstReady (d : Device) (c : CoreId) (h : Nat) : Bool :=
  match d.stream c h with
  | none => true
  | some st => decide (sdDir st.desc.toNat ≠ 1) || st.room

/-- The reduction blocks that an operation's next item at a write stream holds. -/
def Device.itemBlocksAt (d : Device) (c : CoreId) (h : Nat) : List Nat :=
  match d.stream c h with
  | none => []
  | some o => (d.tileAt c o o.accepted).blocks

/-- CVT: the next item of t[A] is converted and written as one item to t[D] (R285 to R287). -/
def State.doCvt (s : State) (c : CoreId) (op : TOp) (src : Src) : State :=
  let a := op.ins.a.toNat
  let h := op.ins.d.toNat
  let g := tgtOf op op.x op.y
  let cl := cluOfCore c
  let s0 := s.onDev fun d => ((d.popConvQ c).useHandle c op a 0).1
  let ok := s0.dev.useHandle c op h 1
  let s1 := s0.onDev fun _ => ok.1
  let poison := fun (s : State) => if ok.2 then s.onDev fun d => d.sendPoison c h op else s
  match src with
  | .item st ps =>
    let t := s1.dev.tileAt c st (st.taken - st.given.length)
    let r := s1.dev.itemElems cl op.epoch t ps
    let s2 := s1.onDev fun d => ((d.emitReads c 0x03 op.tag r.2).putStream c a st.pop).consumed c 0x03 op.tag
      (r.1.any fun e => e.poison)
    match s2.tgtFault cl ((s2.dev.genOf cl op.epoch).getD 0) g (s2.dev.itemBlocksAt c h) with
    | some (code, det) => poison (s2.onDev fun d => d.tgtRecord c op.tag code det)
    | none =>
      match s2.dev.stream c h with
      | none => s2
      | some o =>
        if !ok.2 then s2
        else
          let w := o.desc.toNat
          let td := s2.dev.tileAt c o o.accepted
          let q := s2.convRows c op g w td (rowsOf td.cols (r.1.length + 1) r.1)
          q.1.onDev fun d => d.acceptItem c h op.tag (d.convPackets c op g q.2)
  | .ended => poison (s1.onDev fun d => d.streamEnd c op.tag a)
  | _ => poison s1

/-- A v register written. -/
def Device.writeV (d : Device) (c : CoreId) (r : Nat) (v : VReg) : Device :=
  d.onTensor c fun t => { t with v := tput t.v r v }

/-- A v register. -/
def Tensor.vreg (t : Tensor) (r : Nat) : VReg := tget t.v ⟨0, 0⟩ r

/-- A v register of lanes of n bytes given with their poison; lanes not given are +0 and unpoisoned. -/
def vregOf (n : Nat) (lanes : List (Nat × Bool)) : VReg :=
  ⟨BitVec.ofNat 2048 (lanes.zipIdx.foldl (fun a p => a + (p.1.1 % 2 ^ (8 * n)) <<< (8 * n * p.2)) 0),
   BitVec.ofNat 128 (lanes.zipIdx.foldl (fun a p =>
     if p.1.2 then a + (2 ^ (n / 2) - 1) <<< (n / 2 * p.2) else a) 0)⟩

/-- Lane j of n bytes of a v register, with its poison (R289). -/
def VReg.lane (v : VReg) (n j : Nat) : Nat × Bool :=
  (bitsOf v.val.toNat (8 * n * j + 8 * n - 1) (8 * n * j),
   decide (bitsOf v.poison.toNat (n / 2 * j + n / 2 - 1) (n / 2 * j) ≠ 0))

/-- CVTIN: the next elements of the current item of t[A] go to a v register (R288). -/
def State.doCvtin (s : State) (c : CoreId) (op : TOp) (src : Src) : State :=
  let a := op.ins.a.toNat
  let vd := op.ins.d.toNat
  let g := tgtOf op op.x op.y
  let cl := cluOfCore c
  let n := if g.kind = 1 then 128 else 64
  let sz := if g.kind = 1 then 2 else 4
  let s1 := s.onDev fun d => ((d.popConvQ c).useHandle c op a 0).1
  let lost := fun (s : State) => s.onDev fun d =>
    (d.writeV c vd (vregOf sz ((List.range n).map fun i => (leNat (freeBytes (d.fresh + i) sz), true)))).takeFresh
  match src with
  | .item st ps =>
    let t := s1.dev.tileAt c st (st.taken - st.given.length)
    let r := s1.dev.itemElems cl op.epoch t ps
    let s2 := s1.onDev fun d =>
      let d1 := (if st.used = 0 then d.emitReads c 0x03 op.tag r.2 else d).consumed c 0x03 op.tag
        (((r.1.drop st.used).take n).any fun e => e.poison)
      d1.putStream c a (if r.1.length ≤ st.used + n then st.pop else { st with used := st.used + n })
    match s2.tgtFault cl ((s2.dev.genOf cl op.epoch).getD 0) g [] with
    | some (code, det) => lost (s2.onDev fun d => d.tgtRecord c op.tag code det)
    | none =>
      let els := (r.1.drop st.used).take n
      let q := s2.convPlain c op g (fun j =>
        sdIndex st.desc.toNat t (st.rowIndex t ((st.used + j) / t.cols)) ((st.used + j) % t.cols)) 0 els
      q.1.onDev fun d => d.writeV c vd (vregOf sz (els.zipIdx.map fun p =>
        (leAt q.2.bytes (sz * p.2) sz, p.1.poison)))
  | .ended => lost (s1.onDev fun d => d.streamEnd c op.tag a)
  | _ => lost s1

/-- Elements are appended to the current item of a write stream, and each block that fills is converted. Works through
the elements one by one: the tail, the count and the blocks of the item (R288). -/
def State.appendEl (s : State) (c : CoreId) (op : TOp) (g : Tgt) (w : Nat) (t : TileAt) (tail : List (W32 × Bool))
    (count : Nat) (e : W32 × Bool) : State × List (W32 × Bool) × List OutBlk :=
  let tail' := tail ++ [e]
  let pos := count % t.cols + 1
  if tail'.length = 32 ∨ pos = t.cols then
    let q := s.convBlock c op g w t (count / t.cols) ((pos - 1) / 32) (tail'.map fun x => elOf x.1.toNat x.2)
    (q.1, [], [q.2])
  else (s, tail', [])

/-- CVTOUT's elements enter the current item, while a buffer of the stream is free for it; an item that reaches its length is sent (R288,
R324). Answers how many there was no room for. -/
def State.appendAll (s : State) (c : CoreId) (op : TOp) (g : Tgt) (h : Nat) : List (W32 × Bool) → State × Nat
  | [] => (s, 0)
  | e :: es =>
    match s.dev.stream c h with
    | none => (s, 0)
    | some st =>
      if !st.room then (s, es.length + 1)
      else
        let w := st.desc.toNat
        let t := s.dev.tileAt c st st.accepted
        let q := s.appendEl c op g w t st.tail st.count e
        let cur := st.cur ++ q.2.2
        let s1 := q.1.onDev fun d =>
          if st.count + 1 = t.rows * t.cols then
            (d.setStream c h { st with cur := [], tail := [], count := 0 }).acceptItem c h op.tag (d.convPackets c op g cur)
          else d.setStream c h { st with cur := cur, tail := q.2.1, count := st.count + 1 }
        s1.appendAll c op g h es

/-- The reduction blocks that n elements appended to a write stream lie in, from element k of item a on. -/
def Device.walkBlocks (d : Device) (c : CoreId) (st : Stream) : Nat → Nat → Nat → List Nat
  | 0, _, _ => []
  | n + 1, a, k =>
    let t := d.tileAt c st a
    let r := if k + 1 = t.rows * t.cols then Device.walkBlocks d c st n (a + 1) 0 else Device.walkBlocks d c st n a (k + 1)
    sinsert r (t.x0 / 32 + k % t.cols / 32)

/-- CVTOUT: the lanes of a v register go to the next elements of t[D] (R288). It stays at the head of its queue while some of them have no
buffer to go to (R324). -/
def State.doCvtout (s : State) (c : CoreId) (op : TOp) : State :=
  let h := op.ins.d.toNat
  let g := tgtOf op op.x op.y
  let cl := cluOfCore c
  let v := (s.dev.tensor c).vreg op.ins.a.toNat
  let fp32 := bitAt op.ins.imm.toNat 13
  let els : List (W32 × Bool) := if fp32 then (List.range 64).map fun j =>
      (BitVec.ofNat 32 (v.lane 4 j).1, (v.lane 4 j).2)
    else (List.range 128).map fun j => (BitVec.ofNat 32 ((v.lane 2 j).1 * 65536), (v.lane 2 j).2)
  let done := match s.dev.stream c h with
    | some st => st.used
    | none => 0
  let ok := (s.dev.consumed c 0x03 op.tag (els.any fun e => e.2)).useHandle c op h 1
  let s1 := s.onDev fun _ => ok.1
  let js := match s1.dev.stream c h with
    | some st => s1.dev.walkBlocks c st (els.length - done) st.accepted st.count
    | none => []
  if !ok.2 then s1.onDev fun d => d.popConvQ c
  else
    let q := match s1.tgtFault cl ((s1.dev.genOf cl op.epoch).getD 0) g js with
      | some (code, det) =>
        (if done = 0 then s1.onDev fun d => d.tgtRecord c op.tag code det else s1).appendAll c op g h
          ((els.drop done).map fun (e : W32 × Bool) => (e.1, true))
      | none => s1.appendAll c op g h (els.drop done)
    q.1.onDev fun d => match d.stream c h with
      | none => d
      | some st =>
        if q.2 = 0 then (d.setStream c h { st with used := 0 }).popConvQ c
        else d.setStream c h { st with used := els.length - q.2 }

/-- The conversion at the head of its queue goes over to each newer epoch of its next item that the cluster has reached (R212). -/
def Device.convAdopt : Nat → Device → CoreId → Device
  | 0, d, _ => d
  | n + 1, d, c =>
    match (d.tensor c).convQ with
    | [] => d
    | op :: _ => match d.srcOf c op op.ins.a.toNat with
      | .newer e => Device.convAdopt n (d.convEpoch c e) c
      | _ => d

/-- The conversion at the head of the queue executes when its elements are present, its registers and handles are its
own, and there is room for what it writes (R208, R212, R264, R288). -/
def State.convHead (s : State) (c : CoreId) : State :=
  let t := s.dev.tensor c
  match t.convQ with
  | [] => s
  | op :: _ =>
    if !(t.turns op) || !(t.vTurn op) || !(s.dev.epochReached c op.epoch) then s
    else if op.opc = 0xCA then
      (if s.dev.dstReady c op.ins.d.toNat then s.doCvtout c op else s)
    else
      let s' := s.onDev fun d => Device.convAdopt 65536 d c
      match (s'.dev.tensor c).convQ with
      | [] => s'
      | op' :: _ =>
        match s'.dev.srcOf c op' op'.ins.a.toNat with
        | .wait => s'
        | .newer _ => s'
        | src' =>
          if op'.opc = 0xC9 then s'.doCvtin c op' src'
          else if s'.dev.dstReady c op'.ins.d.toNat then s'.doCvt c op' src' else s'

end Sys2Proof.Machine
end

