-- ==== Sys2Proof/Machine/VecMath.lean ====
section
/-!
DEFINITION. Arithmetic of the vector unit and of update programs (R290, R292, R293, R303): IEEE 754 operations on exact
values with infinities, NaNs and signed zeros, and the four functions whose exact value is irrational. Those are computed
to a grid far finer than any lane type and moved to the middle of the grid cell where they are inexact, so that rounding
them gives what rounding the exact value gives.
-/
namespace Sys2Proof.Machine

/-- The sign of an element: of its value, or of its zero. -/
def El.sign (e : El) : Bool :=
  match e.v with
  | .fin r => if r = 0 then e.neg0 else decide (r < 0)
  | .inf n => n
  | .nan => false

/-- An element is a zero. -/
def El.isZero (e : El) : Bool := decide (e.v = .fin 0)

/-- An element is finite. -/
def El.finite (e : El) : Bool :=
  match e.v with
  | .fin _ => true
  | _ => false

/-- A NaN. -/
def elNan : El := ⟨.nan, false, false, false⟩

/-- A zero of a sign. -/
def elZero (neg : Bool) : El := ⟨.fin 0, neg, false, false⟩

/-- An infinity of a sign. -/
def elInf (neg : Bool) : El := ⟨.inf neg, false, false, false⟩

/-- A finite value. -/
def elFin (r : Rat) : El := ⟨.fin r, false, false, false⟩

/-- The exact sum (R290). -/
def elAdd (a b : El) : El :=
  match a.v, b.v with
  | .nan, _ => elNan
  | _, .nan => elNan
  | .inf x, .inf y => if x = y then elInf x else elNan
  | .inf x, _ => elInf x
  | _, .inf y => elInf y
  | .fin x, .fin y => ⟨.fin (x + y), a.sign && b.sign, false, false⟩

/-- The element with its sign changed; a NaN becomes the quiet NaN. -/
def elNeg (a : El) : El :=
  match a.v with
  | .nan => elNan
  | .inf x => elInf !x
  | .fin x => ⟨.fin (-x), !a.neg0, false, false⟩

/-- The exact difference. -/
def elSub (a b : El) : El := elAdd a (elNeg b)

/-- The exact product. -/
def elMul (a b : El) : El :=
  let n := a.sign != b.sign
  match a.v, b.v with
  | .nan, _ => elNan
  | _, .nan => elNan
  | .inf _, .inf _ => elInf n
  | .inf _, .fin y => if y = 0 then elNan else elInf n
  | .fin x, .inf _ => if x = 0 then elNan else elInf n
  | .fin x, .fin y => ⟨.fin (x * y), n, false, false⟩

/-- The exact product plus a third element. -/
def elFma (a b c : El) : El := elAdd (elMul a b) c

/-- The exact quotient. -/
def elDiv (a b : El) : El :=
  let n := a.sign != b.sign
  match a.v, b.v with
  | .nan, _ => elNan
  | _, .nan => elNan
  | .inf _, .inf _ => elNan
  | .inf _, .fin _ => elInf n
  | .fin _, .inf _ => elZero n
  | .fin x, .fin y => if y = 0 then (if x = 0 then elNan else elInf n) else ⟨.fin (x / y), n, false, false⟩

/-- |a|. -/
def elAbs (a : El) : El := if a.sign then elNeg a else (if a.v = .nan then elNan else a)

/-- a < b in the order of the numbers with −0 below +0; false where either is a NaN (R292). -/
def elBelow (a b : El) : Bool :=
  match a.v, b.v with
  | .nan, _ => false
  | _, .nan => false
  | .inf x, .inf y => x && !y
  | .inf x, .fin _ => x
  | .fin _, .inf y => !y
  | .fin x, .fin y => if x = y then decide (x = 0) && a.neg0 && !b.neg0 else decide (x < y)

/-- Minimum, and maximum (R292). -/
def elMin (a b : El) : El := if a.v = .nan ∨ b.v = .nan then elNan else if elBelow b a then b else a
/-- Maximum (R292). -/
def elMax (a b : El) : El := if a.v = .nan ∨ b.v = .nan then elNan else if elBelow a b then b else a

/-- The conditions of VCMP: =, ≠, <, ≤ by value; with a NaN only ≠ holds (R291, R292). -/
def elCond (n : Nat) (a b : El) : Bool :=
  let nan := decide (a.v = .nan) || decide (b.v = .nan)
  let eq := decide (a.v = b.v)
  let lt := elBelow ⟨a.v, false, false, false⟩ ⟨b.v, false, false, false⟩
  match n with
  | 0 => !nan && eq
  | 1 => nan || !eq
  | 2 => !nan && lt
  | _ => !nan && (eq || lt)

/-! ## Irrational values -/

/-- The integer square root: bit by bit from bit b − 1 down. -/
def isqrtBits : Nat → Nat → Nat → Nat
  | 0, _, r => r
  | b + 1, n, r => if (r + 2 ^ b) * (r + 2 ^ b) ≤ n then isqrtBits b n (r + 2 ^ b) else isqrtBits b n r

/-- The integer square root. -/
def isqrt (n : Nat) : Nat := isqrtBits (bitLen n / 2 + 1) n 0

/-- The value that stands for √x, x positive: √x where it lies on the grid of 2^−k, else the middle of its grid cell. -/
def sqrtGrid (k : Nat) (x : Rat) : Rat :=
  let y := x * ((2 ^ (2 * k) : Nat) : Rat)
  let n := isqrt y.floor.toNat
  if ((n * n : Nat) : Rat) = y then (n : Rat) / ((2 ^ k : Nat) : Rat)
  else ((2 * n + 1 : Nat) : Rat) / ((2 ^ (k + 1) : Nat) : Rat)

/-- √a (R303): −0 stays −0, a negative number gives a NaN. -/
def elSqrt (a : El) : El :=
  match a.v with
  | .nan => elNan
  | .inf n => if n then elNan else elInf false
  | .fin x => if x = 0 then a else if x < 0 then elNan else ⟨.fin (sqrtGrid 240 x), false, false, false⟩

/-- 1 / √a (R292). -/
def elRsqrt (a : El) : El :=
  match a.v with
  | .nan => elNan
  | .inf n => if n then elNan else elZero false
  | .fin x => if x = 0 then elInf a.neg0 else if x < 0 then elNan else ⟨.fin (sqrtGrid 240 (1 / x)), false, false, false⟩

/-- The roots 2^(2^−i), i from 1 to n, in units of 2^−400. -/
def rootTable : Nat → Nat → List Nat
  | 0, _ => []
  | n + 1, r => let q := isqrt (r <<< 400); q :: rootTable n q

/-- The roots of 2 down to the place of the least bit of a subnormal. -/
def roots : List Nat := rootTable 150 (2 <<< 400)

/-- 2^a (R292), with the roots of 2. An integer power is exact; beyond ±400 the value stands for one beyond range, or
for one below half of the least subnormal. -/
def elExp2 (rs : List Nat) (a : El) : El :=
  match a.v with
  | .nan => elNan
  | .inf n => if n then elZero false else elInf false
  | .fin x =>
    if x > 400 then elFin (pow2 400)
    else if x < -400 then elFin (pow2 (-400))
    else
      let n := x.floor
      let f := ((x - (n : Rat)) * ((2 ^ 150 : Nat) : Rat)).floor.toNat
      if f = 0 then elFin (pow2 n)
      else
        let m := rs.zipIdx.foldl (fun acc r => if bitAt f (149 - r.2) then (acc * r.1) >>> 400 else acc) (1 <<< 400)
        elFin (((2 * (m >>> 200) + 1 : Nat) : Rat) / ((2 ^ 201 : Nat) : Rat) * pow2 n)

/-- The first n bits of the fraction of log2(m), with m in [1, 2) in units of 2^−400: by repeated squaring. -/
def log2Bits : Nat → Nat → Nat → Nat
  | 0, _, acc => acc
  | n + 1, m, acc =>
    let q := (m * m) >>> 400
    if 2 <<< 400 ≤ q then log2Bits n (q >>> 1) (2 * acc + 1) else log2Bits n q (2 * acc)

/-- log2(a) (R292). -/
def elLog2 (a : El) : El :=
  match a.v with
  | .nan => elNan
  | .inf n => if n then elNan else elInf false
  | .fin x =>
    if x = 0 then elInf true
    else if x < 0 then elNan
    else
      let e := ratLog2 x
      let m := x / pow2 e
      if m = 1 then (if e = 0 then elZero false else elFin (e : Rat))
      else
        let n := log2Bits 120 (m * ((2 ^ 400 : Nat) : Rat)).floor.toNat 0
        elFin ((e : Rat) + ((2 * n + 1 : Nat) : Rat) / ((2 ^ 121 : Nat) : Rat))

/-! ## Lanes -/

/-- A lane of n bytes as an element. -/
def laneEl (n : Nat) (x : Nat × Bool) : El := elOf (if n = 2 then x.1 * 65536 else x.1) x.2

/-- An element rounded to a lane of n bytes, to nearest: its bits, and whether it saturated (R113, R290). -/
def laneBits (n : Nat) (e : El) : Nat × Bool :=
  if n = 2 then toBf16 .nearest e.neg0 e.v else toFp32 .nearest e.neg0 e.v

/-- A result of one lane: its bits, and what it adds to SAT and NONFIN (R290). -/
def laneOut (n : Nat) (ins : List El) (e : El) : Nat × Nat × Nat :=
  let b := laneBits n e
  (b.1, ofBool b.2, ofBool (!e.finite && ins.all El.finite))

/-! ## FP32 and the CFU reduction (R169, R303) -/

/-- fp32(): rounding to FP32 to nearest. -/
def f32 (e : El) : El := elOf (toFp32 .nearest e.neg0 e.v).1 false

/-- fp32(a × b). -/
def mul32 (a b : El) : El := f32 (elMul a b)
/-- fp32(a + b). -/
def add32 (a b : El) : El := f32 (elAdd a b)
/-- fp32(a − b). -/
def sub32 (a b : El) : El := f32 (elSub a b)
/-- fp32(a / b). -/
def div32 (a b : El) : El := f32 (elDiv a b)
/-- Neighbours added and rounded. -/
def pairAdd : List El → List El
  | a :: b :: r => add32 a b :: pairAdd r
  | l => l

/-- sum32: the CFU reduction of R169 applied to FP32 values; sums follow IEEE 754 addition. -/
def sum32 (xs : List El) : El :=
  (rowsOf 32 (xs.length + 1) xs).foldl (fun acc g =>
    let s0 := g ++ List.replicate (32 - g.length) (elZero false)
    add32 acc ((pairAdd (pairAdd (pairAdd (pairAdd (pairAdd s0))))).headD (elZero false))) (elZero false)

end Sys2Proof.Machine
end

