-- ==== Sys2Proof/Machine/Lattice.lean ====
section
/-!
DEFINITION. The Lattice (chapter 04) and the long tally (chapter 05): weight tiles and their forms, loads and swaps, runs,
anchors, passes with skipping and freezing, contributions, tallies and their poison, semiring modes, outlier products,
drains and agreement sampling.
-/
namespace Sys2Proof.Machine

/-! ## Operands as matrices (R119 to R121, R138) -/

/-- The element of an operand at a reduction position and a column or wave: its block and its place in it. -/
def elemAt (rows : List (List OBlk)) (across : Bool) (red other : Nat) : Option (OBlk × Nat) :=
  let i := if across then red else other
  let j := if across then other else red
  match rows[i]? with
  | none => none
  | some row => match row[j / 32]? with
    | none => none
    | some b => if j % 32 < b.live then some (b, j % 32) else none

/-- The place of an operand holds a padding element: one past the end of its row in the row's last block (R84). -/
def padAt (rows : List (List OBlk)) (across : Bool) (red other : Nat) : Bool :=
  let i := if across then red else other
  let j := if across then other else red
  match rows[i]? with
  | none => false
  | some row => match row[j / 32]? with
    | none => false
    | some b => decide (b.live ≤ j % 32)

/-- Output columns of a form, N (R119). -/
def WForm.cols : WForm → Nat
  | .single => 64
  | .packed2 => 128
  | .packed4 => 256
  | .ganged => 64

/-- Reduction positions of a full tile, P (R119). -/
def WForm.positions : WForm → Nat
  | .ganged => 32
  | _ => 64

/-- Code of a form in CORE.LAT_STAT (R148). -/
def WForm.code : WForm → Nat
  | .single => 0
  | .packed2 => 1
  | .packed4 => 2
  | .ganged => 3

/-- The codebook of blocks is packable (R120). -/
def Device.packable (d : Device) (cl : ClusterId) (b : OBlk) : Bool :=
  match d.codebook cl b.cb with
  | .found cb => (cb.entries.take (2 ^ b.width)).all fun e => decide (bitsOf e.1 3 0 ≤ (if b.width = 1 then 1 else 3))
  | _ => true

/-- The form of a tile's blocks (R119, R120). Of blocks that differ in width: ganged where one has width 5 or more, else single where
one has width 3 or 4 or is not packable, else packed ×2 where one has width 2 (DESIGN CHOICE, log 175). -/
def Device.formOf (d : Device) (cl : ClusterId) (bs : List OBlk) : WForm :=
  if bs.any fun b => decide (5 ≤ b.width) then .ganged
  else if bs.isEmpty || bs.any fun b => decide (3 ≤ b.width) || !(d.packable cl b) then .single
  else if bs.any fun b => decide (b.width = 2) then .packed2
  else .packed4

/-- The weight part of the pair exponent of a block: exponent, offset and 4 × t (R152). -/
def OBlk.pairPart (b : OBlk) : Option Int :=
  if b.zero || b.dead then none
  else some ((b.exp : Int) - 127 + b.off + (if 5 ≤ b.width then 4 else 0))

/-- The larger of two optional integers. -/
def omax (a b : Option Int) : Option Int :=
  match a, b with
  | none, y => y
  | x, none => x
  | some x, some y => some (max x y)

/-- The largest pair part of an operand's elements at a reduction position, over n columns or waves. -/
def partAt (rows : List (List OBlk)) (across : Bool) (red n : Nat) : Option Int :=
  if across then
    match rows[red]? with
    | none => none
    | some row => (row.take ((n + 31) / 32)).foldl (fun a b => omax a b.pairPart) none
  else
    (rows.take n).foldl (fun a row => match row[red / 32]? with
      | none => a
      | some b => if red % 32 < b.live then omax a b.pairPart else a) none

/-- Every block of an operand. -/
def blocksOf (rows : List (List OBlk)) : List OBlk := rows.flatten

/-- A block lies in the integer-exact subset: INT4 or INT8, exponent 0x7F, tensor scale 1.0 (R115). A dead block is poison and no
fault (R268). -/
def OBlk.intExact (b : OBlk) : Bool :=
  (decide (b.cb = 0x04) || decide (b.cb = 0x08)) && (b.zero || b.dead || decide (b.exp = 127)) && decide (b.scale = 0x3F80_0000)

/-! ## Weight tiles (R127, R128, R278) -/

/-- A weight item as a tile, with the records of reading it; a packet that is not a narrow code gives no element (R143). A tile that a
run in a semiring mode loads has the single form (R142): `one`. -/
def Device.weightTile (d : Device) (cl : ClusterId) (expect : W16) (t : TileAt) (trw one : Bool) (ps : List Packet) :
    WTile × List ReadRec :=
  let r := d.readItem cl expect t ps
  let f := if one then .single else d.formOf cl (blocksOf r.1)
  (⟨f, r.1, trw, Nat.min f.positions (if trw then t.rows else t.cols), false, r.2.2⟩, r.2.1)

/-- A tile every element of which is poisoned. -/
def badTile (f : WForm) : WTile := ⟨f, [], false, f.positions, true, false⟩

/-- A tile fills the back registers; what they held is gone (R118, R127). -/
def Tensor.fillBack (t : Tensor) (w : WTile) : Tensor := { t with back := some w, spare := none }

/-- The front and the back registers exchange what they hold; the tile that comes to the front is w (R118, R128). -/
def Tensor.swapIn (t : Tensor) (w : WTile) : Tensor := { t with front := some w, back := none, spare := t.front }

/-- A load that holds a narrow custom codebook that is not packable (R120); answers its CODEBOOK. -/
def Device.singleForm (d : Device) (cl : ClusterId) (t : WTile) : Option Nat :=
  ((blocksOf t.rows).find? fun b => decide (b.width ≤ 2) && !(d.packable cl b)).map fun b => b.cb

/-- LATTICE_OPERAND (R143, R149). -/
def Device.latticeOperand (d : Device) (c : CoreId) (tag : W16) (mode cause : Nat) : Device :=
  d.trecFault c 0x01 0x3001 true tag [(2, 1, mode), (3, 1, cause)]

/-- LATTICE_SEQUENCE (R128, R269, R280). -/
def Device.latticeSequence (d : Device) (c : CoreId) (tag : W16) : Device := d.trecFault c 0x01 0x3004 false tag []

/-- The next weight item of a handle is taken for the back buffer (R127). Answers the module and the tile; none: the item is not
there yet, or the operation's epoch is not reached (R208). -/
def Device.loadTile (d : Device) (c : CoreId) (op : TOp) (h : Nat) (trw one : Bool) : Option (Device × WTile) :=
  let cl := cluOfCore c
  if !(d.epochReached c op.epoch) then none
  else match d.srcOf c op h with
  | .wait => none
  | .newer _ => none
  | .bad => some ((d.useHandle c op h 0).1, badTile .single)
  | .ended => some (d.streamEnd c op.tag h, badTile .single)
  | .item st ps =>
    let t := d.tileAt c st (st.taken - st.given.length)
    let r := d.weightTile cl op.epoch t trw one ps
    let d1 := (d.emitReads c 0x01 op.tag r.2).putStream c h st.pop
    let d2 := match d1.singleForm cl r.1 with
      | some cb => d1.trec c 0x01 0x3003 .notice false op.tag [(2, 1, cb)]
      | none => d1
    some (d2, r.1)

/-! ## Runs -/

/-- Weight tiles of a run (R281). -/
def runTiles (k p : Nat) : Nat := (k + p - 1) / p

/-- The format reference of a run's activation operand. -/
def Device.actFmt (d : Device) (c : CoreId) (op : TOp) : Nat :=
  match d.stream c op.ins.a.toNat with
  | some st => sdFmt st.desc.toNat
  | none => 0

/-- MODE of an LRUN. -/
def runMode (op : TOp) : Nat := bitsOf op.ins.imm.toNat 3 0
/-- TRA. -/
def runTra (op : TOp) : Bool := bitAt op.ins.imm.toNat 4
/-- TRW. -/
def runTrw (op : TOp) : Bool := bitAt op.ins.imm.toNat 5
/-- WSRC. -/
def runWsrc (op : TOp) : Bool := bitAt op.ins.imm.toNat 6
/-- SEED. -/
def runSeed (op : TOp) : Bool := bitAt op.ins.imm.toNat 7
/-- OUTL. -/
def runOutl (op : TOp) : Bool := bitAt op.ins.imm.toNat 8
/-- M. -/
def runM (op : TOp) : Nat := bitsOf op.ins.imm.toNat 15 9
/-- OHND. -/
def runOhnd (op : TOp) : Nat := bitsOf op.ins.imm.toNat 19 16

/-- Reduction positions that one tile of an activation stream covers (R138). -/
def actSpan (w : Nat) (tra : Bool) : Nat := if tra then sdTile1 w else sdTile0 w

/-- The seed records of an item's packets (R165). -/
def seedRecords (ps : List Packet) : List SeedRec :=
  (ps.map fun p => (List.range (p.payload.length / 32)).map fun i =>
    (⟨sext (leAt p.payload (32 * i) 24) 192, sext (leAt p.payload (32 * i + 24) 2) 16,
      leAt p.payload (32 * i + 26) 5, leAt p.payload (32 * i + 31) 1, pktBad p⟩ : SeedRec)).flatten

/-- The n records of a seed item: where poisoned packets carry too few, the rest are poisoned records that hold nothing. -/
def seedsOf (n : Nat) (ps : List Packet) : List SeedRec :=
  let rs := seedRecords ps
  (rs ++ List.replicate (n - rs.length) (⟨0, 0, 0, 1, true⟩ : SeedRec)).take n

/-- Why a seeded run does not start: 0 mode, 1 FLAGS, 2 ANCHOR range, 3 LEN (R167); where several hold, the first in this order
(DESIGN CHOICE, log 179). What is wrong with poisoned packets is no fault (R268). -/
def seedFault (mode n : Nat) (ps : List Packet) : Option Nat :=
  let clean := ps.filter fun p => !pktBad p
  let rs := seedRecords clean
  if rs.any fun r => decide (bitsOf r.flags 7 4 ≠ mode) then some 0
  else if rs.any fun r => decide (bitsOf r.flags 3 2 ≠ 0) then some 1
  else if rs.any fun r => decide (r.anchor < -286) || decide (292 < r.anchor) then some 2
  else if clean.any (fun p => decide (p.payload.length % 32 ≠ 0))
      ∨ (clean.length = ps.length ∧ (ps.map fun p => p.payload.length).sum ≠ 32 * n) then some 3
  else none

/-- A tally with nothing in it (R151). -/
def Tally.empty : Tally := ⟨0, false, false, false, 0⟩

/-- The run is in a semiring mode (R141). -/
def semiring (mode : Nat) : Bool := decide (1 ≤ mode) && decide (mode ≤ 6)

/-- An output tile of a run. Its anchor in a semiring mode is 143 (R164, R165). -/
def outTile (op : TOp) (fmt n k : Nat) (dead ended : Bool) : OutTile :=
  { seq := op.seq, tag := op.tag, fmt := fmt, mode := runMode op, m := runM op, n := n
    anchor := if semiring (runMode op) then some 143 else none, tallies := []
    tw := 0x3F80_0000, ta := 0x3F80_0000, k := k, dead := dead, ended := ended, exact := false, off := 0
    epoch := op.epoch, adopted := none, backward := op.backward, acts := [] }

/-- A run that does not start, or cannot add anything: its output tile is poisoned and complete (R131, R143, R160, R167,
R277, R280, R339). -/
def Device.failRun (d : Device) (c : CoreId) (op : TOp) (n : Nat) : Device :=
  let fmt := d.actFmt c op
  (d.onTensor c fun t => { t with
    latticeQ := t.latticeQ.drop 1, lastLayer := some (fmtLayer fmt), lastMode := runMode op
    outs := t.outs ++ [outTile op fmt n 0 true true] }).setRegN (Reg.tallyStat c) 0

/-- The run's handles can be used as it names them (R277, R329). -/
def Device.runHandles (d : Device) (c : CoreId) (op : TOp) : Device × Bool :=
  (handlesOf 0x92 op.ins).foldl (fun (a : Device × Bool) h =>
    let r := a.1.useHandle c op h 0
    (r.1, a.2 && r.2)) (d, true)

/-- How many columns and rows of tiles of t[OHND] hold the outlier weight rows of a run (R282, DEDUCED, log 182). -/
def State.outlGrid (s : State) (c : CoreId) (st : Stream) (rows cols : Nat) : Nat × Nat :=
  let w := st.desc.toNat
  let t := s.dev.tileAt c st (st.taken - st.given.length)
  ((Nat.min cols (sdExt w 0 - t.x0) + sdTile0 w - 1) / sdTile0 w,
   (Nat.min rows (st.rows1 (s.dev.tensor c) - t.x1) + sdTile1 w - 1) / sdTile1 w)

/-- Items of t[OHND] that a run takes: those up to the last tile that holds a weight of it, and at least one. -/
def State.outlItems (s : State) (c : CoreId) (st : Stream) (rows cols : Nat) : Nat :=
  let g := s.outlGrid c st rows cols
  Nat.max 1 ((g.2 - 1) * sdTc st.desc.toNat + g.1)

/-- Tiles that a run may still take of an operand: what is left of an orbit's slice, or what a chain stages; none: any number (R339,
R343). -/
def Device.spanLeft (d : Device) (c : CoreId) (st : Stream) : Option Nat :=
  match st.orbit with
  | some _ =>
    let t := sdTiles st.desc.toNat (st.rows1 (d.tensor c))
    some (t - (st.taken - st.given.length) % t)
  | none => if sdEnd st.desc.toNat = 1 then some (sdAhead st.desc.toNat) else none

/-- A run takes more tiles of an operand than one slice holds, or than a chain stages (R339, R343). -/
def Device.spanBad (d : Device) (c : CoreId) (h n : Nat) : Bool :=
  match d.stream c h with
  | none => false
  | some st => match d.spanLeft c st with
    | none => false
    | some left => decide (left < n)

/-- The activation tiles that a run may take do not cover its reduction (R339, R343). -/
def Device.actSpanBad (d : Device) (c : CoreId) (h k : Nat) (tra : Bool) : Bool :=
  match d.stream c h with
  | none => false
  | some st => match d.spanLeft c st with
    | none => false
    | some left => decide (((List.range left).map fun i =>
        let t := d.tileAt c st (st.taken - st.given.length + i)
        if tra then t.rows else t.cols).sum < k)

/-- The outlier weight rows of a run cross the slices of an orbit (R339). -/
def State.outlSpanBad (s : State) (c : CoreId) (op : TOp) (fmt n gen : Nat) : Bool :=
  match s.dev.stream c (runOhnd op) with
  | none => false
  | some st => runOutl op && st.orbit.isSome &&
      s.dev.spanBad c (runOhnd op) (s.outlItems c st ((s.outlierTable (cluOfCore c) gen (fmtLayer fmt)).getD []).length n)

/-- The form of a run: single in a semiring mode (R142), else that of its first weight tile as it can be seen now; none: not yet. A semiring
run of the front tile takes the first 64 columns of a tile that an LLOAD placed in packed form (DESIGN CHOICE, log 218). -/
def State.firstForm (s : State) (c : CoreId) (op : TOp) : Option WForm :=
  if semiring (runMode op) then some .single
  else if runWsrc op then
    match s.dev.stream c op.ins.b.toNat with
    | none => some .single
    | some st =>
      match s.peekItem c op.ins.b.toNat 0 with
      | none => if s.dev.isOver c op.ins.b.toNat st then some .single else none
      | some ps =>
        some (s.dev.weightTile (cluOfCore c) op.epoch (s.dev.tileAt c st (st.taken - st.given.length)) (runTrw op) false ps).1.form
  else
    match (s.dev.tensor c).front with
    | some t => some t.form
    | none => some .single

/-- The seed item of a run, and whether it lies past the end of its stream (R319); some none: no seed is asked for; none: not to be
seen yet. -/
def State.seedItem (s : State) (c : CoreId) (op : TOp) : Option (Option (List Packet × Bool)) :=
  if !(runSeed op) then some none
  else match s.peekItem c op.ins.d.toNat 0 with
    | some ps => some (some (ps, false))
    | none => match s.dev.stream c op.ins.d.toNat with
      | none => some none
      | some st => if s.dev.isOver c op.ins.d.toNat st then some (some ([], true)) else none

/-- The run at the head of the Lattice queue may start: no run is in the array, its handles are its own, its epoch is reached, and
at a layer boundary every earlier drain is complete (R208, R264, R281, R344). -/
def Device.runMayStart (d : Device) (c : CoreId) (op : TOp) : Bool :=
  let t := d.tensor c
  t.run.isNone && t.turns op && d.epochReached c op.epoch &&
    (decide (t.lastLayer = some (fmtLayer (d.actFmt c op))) || !(t.drainQ.any fun o => decide (o.seq < op.seq)))

/-- A run starts (R131, R142, R143, R160, R167, R186, R277 to R282, R339, R343, R344). Where seed records differ in COUNT, the
largest is added to the reduction length (DESIGN CHOICE, log 178). -/
def State.startRun (s : State) (c : CoreId) : State :=
  let t := s.dev.tensor c
  match t.latticeQ with
  | [] => s
  | op :: rest =>
    if op.opc ≠ 0x92 ∨ !(s.dev.runMayStart c op) then s
    else
      match s.firstForm c op, s.seedItem c op with
      | some f, some seed =>
        let cl := cluOfCore c
        let fmt := s.dev.actFmt c op
        let n := f.cols
        let m := runM op
        let mode := runMode op
        let k := if runWsrc op then op.x.toNat else (t.front.map fun w => w.positions).getD 0
        let gen := (s.dev.genOf cl op.epoch).getD 0
        let hs := s.dev.runHandles c op
        let counts := match seed with
          | some ps => ((seedRecords (ps.1.filter fun p => !pktBad p)).map fun r => r.count).foldl Nat.max 0
          | none => 0
        let sf := match seed with
          | some ps => if ps.2 then none else seedFault mode (m * n) ps.1
          | none => none
        let wn := runTiles k f.positions
        if 7 ≤ mode then s.onDev fun d => (d.latticeOperand c op.tag mode 4).failRun c op n
        else if !hs.2 then s.onDev fun _ => hs.1.failRun c op n
        else if k = 0 ∧ runWsrc op = false then s.onDev fun d => (d.latticeSequence c op.tag).failRun c op n
        else if k = 0 ∨ 2 ^ 32 < k + counts then
          s.onDev fun d => (d.trecFault c 0x01 0x3101 false op.tag [(2, 5, k + counts)]).failRun c op n
        else if 8192 < m * n then s.onDev fun d => (d.latticeOperand c op.tag mode 3).failRun c op n
        else if sf.isSome then
          s.onDev fun d => (d.trecFault c 0x01 0x3103 false op.tag [(2, 1, sf.getD 0)]).failRun c op n
        else if (runWsrc op && s.dev.spanBad c op.ins.b.toNat wn) then
          s.onDev fun d => (d.streamDesc c op.tag op.ins.b.toNat 10 0).failRun c op n
        else if s.dev.actSpanBad c op.ins.a.toNat k (runTra op) then
          s.onDev fun d => (d.streamDesc c op.tag op.ins.a.toNat 10 0).failRun c op n
        else if runSeed op && s.dev.spanBad c op.ins.d.toNat 1 then
          s.onDev fun d => (d.streamDesc c op.tag op.ins.d.toNat 10 0).failRun c op n
        else if s.outlSpanBad c op fmt n gen then
          s.onDev fun d => (d.streamDesc c op.tag (runOhnd op) 10 0).failRun c op n
        else
          let d0 := s.dev
          let invalid := !(d0.layerValid cl gen (fmtLayer fmt))
          let outl := decide (runOutl op ≠ d0.outlEn cl gen (fmtLayer fmt))
          let d1 := if invalid then
              d0.trec c 0x01 0x4008 .deferred true op.tag [(2, 1, fmtLayer fmt), (3, 1, gen), (4, 1, 0)] else d0
          let d2 := if outl then d1.latticeOperand c op.tag mode 0 else d1
          let front := if runWsrc op then none else t.front
          let wmax := match front with
            | some w => [(List.range w.positions).map fun r => partAt w.rows w.across r n]
            | none => []
          let run : Run :=
            { op := op, k := k, loaded := front.toList.length, swapped := front.toList.length, wmax := wmax, acts := []
              covered := 0, fixed := false, tile := 0, wave := 0, high := false, flight := []
              feeders := List.replicate 64 0, outliers := 0
              crossed := runTra op || (if runWsrc op then runTrw op else (t.front.map fun w => w.across).getD false)
              exact := (front.map fun w => (blocksOf w.rows).all OBlk.intExact).getD true, form := some f
              operand := false, firstRow := 0, held := [] }
          let scale := match front with
            | some w => ((blocksOf w.rows).head?.map fun b => b.scale).getD 0x3F80_0000
            | none => 0x3F80_0000
          let out := { outTile op fmt n k (invalid || outl) false with tw := scale }
          s.onDev fun _ => (d2.onTensor c fun t => { t with
            latticeQ := rest, run := some run, outs := t.outs ++ [out]
            lastLayer := some (fmtLayer fmt), lastMode := mode }).setRegN (Reg.tallyStat c) (ofBool (runSeed op) <<< 11)
      | _, _ => s

/-- The output tile of the run in the array changed. -/
def Device.onOut (d : Device) (c : CoreId) (seq : Nat) (f : OutTile → OutTile) : Device :=
  d.onTensor c fun t => { t with outs := t.outs.map fun o => if o.seq = seq then f o else o }

/-- The output tile of a run. -/
def Tensor.outOf (t : Tensor) (seq : Nat) : Option OutTile := t.outs.find? fun o => decide (o.seq = seq)

/-- The run in the array changed. -/
def Device.setRun (d : Device) (c : CoreId) (r : Run) : Device := d.onTensor c fun t => { t with run := some r }

/-- The LLOAD at the head of the Lattice queue goes over to each newer epoch of its item that the cluster has reached, with csr.epoch
(R212). -/
def Device.loadAdopt : Nat → Device → CoreId → Device
  | 0, d, _ => d
  | n + 1, d, c =>
    match (d.tensor c).latticeQ with
    | [] => d
    | op :: rest => match d.srcOf c op op.ins.a.toNat with
      | .newer e => Device.loadAdopt n ((d.onTensor c fun t => { t with latticeQ := { op with epoch := e } :: rest }).onCore c
          fun k => { k with csr := { k.csr with epoch := e } }) c
      | _ => d

/-- The LLOAD at the head of the Lattice queue takes its tile and fills the back registers (R127, R212, R278). -/
def Device.loadHead (d : Device) (c : CoreId) : Device :=
  let t := d.tensor c
  match t.latticeQ with
  | [] => d
  | op0 :: rest =>
    if op0.opc ≠ 0x90 ∨ !(t.turns op0) ∨ !(d.epochReached c op0.epoch) then d
    else
      let d0 := Device.loadAdopt 65536 d c
      let op := (d0.tensor c).latticeQ.headD op0
      match d0.loadTile c op op.ins.a.toNat (bitAt op.ins.imm.toNat 0) false with
      | none => d0
      | some (d1, w) => d1.onTensor c fun t => ({ t with latticeQ := rest } : Tensor).fillBack w

/-- A weight load done: the next tile of a run that loads its own, in place of whatever the back registers hold, or the first LLOAD
(R127, R128, R278, R281). A tile of another form than the run's first adds nothing. -/
def Device.loadDone (d : Device) (c : CoreId) : Device :=
  let t := d.tensor c
  match t.run with
  | none => d.loadHead c
  | some r =>
    if !(runWsrc r.op) then d.loadHead c
    else
      let f := r.form.getD .single
      if runTiles r.k f.positions ≤ r.loaded ∨ r.swapped < r.loaded then d
      else match d.loadTile c r.op r.op.ins.b.toNat (runTrw r.op) (semiring (runMode r.op)) with
        | none => d
        | some (d1, w) =>
          let out := t.outOf r.op.seq
          let n := (out.map fun o => o.n).getD 64
          let other := decide (w.form ≠ f) && !w.bad && !w.wide
          let d2 := if (w.wide && !r.operand) || other then d1.latticeOperand c r.op.tag (runMode r.op) 0 else d1
          let w' := if other then { badTile f with bad := false } else w
          let d3 := d2.onTensor c fun t => t.fillBack w'
          let d4 := d3.onOut c r.op.seq fun o =>
            { o with dead := o.dead || w.wide || other
                     tw := ((blocksOf w'.rows).head?.map fun b => b.scale).getD o.tw }
          let last := r.loaded + 1 = runTiles r.k f.positions
          let keep := r.op.holds.filter fun h => decide (h ≠ r.op.ins.b.toNat) || decide (h = r.op.ins.a.toNat)
          let op' := if last then { r.op with holds := keep } else r.op
          let wmax' := r.wmax ++ [(List.range w'.positions).map fun i => partAt w'.rows w'.across i n]
          let exact' := r.exact && (blocksOf w'.rows).all OBlk.intExact
          d4.setRun c { r with op := op', loaded := r.loaded + 1, wmax := wmax', exact := exact', operand := r.operand || w.wide }

/-- Every pass of a run has been broadcast. -/
def Run.allPassed (r : Run) : Bool := decide (runTiles r.k ((r.form.getD .single).positions) ≤ r.tile)

/-- A swap takes effect: the run's, once the waves of the tile before it have been broadcast, or that of an LSWAP (R128,
R281). -/
def Device.swapTiles (d : Device) (c : CoreId) : Device :=
  let t := d.tensor c
  let lswap := fun (ready : Bool) =>
    match t.latticeQ with
    | [] => d
    | op :: rest =>
      if op.opc ≠ 0x91 ∨ ready = false then d
      else match t.back with
        | none => (d.onTensor c fun t => { t with latticeQ := rest }).latticeSequence c op.tag
        | some w => d.onTensor c fun t => ({ t with latticeQ := rest } : Tensor).swapIn w
  match t.run with
  | none => lswap true
  | some r =>
    if runWsrc r.op then
      match t.back with
      | none => d
      | some w =>
        if r.swapped ≤ r.tile ∧ r.swapped < r.loaded then
          (d.onTensor c fun t => t.swapIn w).setRun c { r with swapped := r.swapped + 1 }
        else d
    else lswap r.allPassed

/-! ## The activation operand -/

/-- An activation item as a tile of the run. -/
def Device.actTile (d : Device) (c : CoreId) (op : TOp) (st : Stream) (n first : Nat) (ps : List Packet) :
    ATile × List ReadRec × Bool :=
  let t := d.tileAt c st n
  let r := d.readItem (cluOfCore c) op.epoch t ps
  (⟨false, r.1, runTra op, first, if runTra op then t.rows else t.cols, if runTra op then t.x0 else t.x1⟩, r.2.1, r.2.2)

/-- What the activation stream of a run has for it beyond the tiles that its feeders are still taking. -/
def Device.actSrc (d : Device) (c : CoreId) (r : Run) : Src :=
  let h := r.op.ins.a.toNat
  match d.stream c h with
  | none => .bad
  | some st =>
    if st.drives.isSome ∨ sdDir st.desc.toNat ≠ 0 then .bad
    else match st.itemAt (d.tensor c) r.held.length with
    | some it =>
      match d.newerIn (cluOfCore c) r.op.epoch it.pkts with
      | some e => if d.epochReached c e then .newer e else .wait
      | none => .item st it.pkts
    | none => if d.pastEnd c h st (st.taken - st.given.length + r.held.length) then .ended else .wait

/-- Every feeder has been given its words of the positions of a tile. -/
def Run.covers (r : Run) (t : Nat × Nat) : Bool :=
  let p := (r.form.getD .single).positions
  (List.range t.2).all fun i => decide (r.k ≤ t.1 + i) || decide ((t.1 + i) / p < r.feeders.getD ((t.1 + i) % p) 0)

/-- The run lets go of the tiles whose last word its feeders have taken, and of its activation handle once it has taken its last
(R283, R323). -/
def Device.releaseActs : Nat → Device → CoreId → Run → Device × Run
  | 0, d, _, r => (d, r)
  | n + 1, d, c, r =>
    let h := r.op.ins.a.toNat
    match r.held with
    | [] =>
      let keep := r.op.holds.filter fun x =>
        decide (x ≠ h) || (runWsrc r.op && decide (x = r.op.ins.b.toNat) && decide (r.op.ins.b = r.op.ins.a))
      (d, if r.k ≤ r.covered then { r with op := { r.op with holds := keep } } else r)
    | t :: rest =>
      if !(r.covers t) then (d, r)
      else match d.stream c h with
        | none => (d, r)
        | some st => Device.releaseActs n (d.putStream c h st.pop) c { r with held := rest }

/-- The run's feeders turn to its next activation item, which keeps its buffer until they have taken its last word (R323); none: it is not
there. A packet of it that is not a narrow code ends the run under R143. Where the weights come through the same handle, the item leaves
its buffer at once. -/
def Device.takeAct (d : Device) (c : CoreId) (r : Run) : Option (Device × Run) :=
  let h := r.op.ins.a.toNat
  match d.actSrc c r with
  | .wait => none
  | .newer _ => none
  | .bad => some (d, { r with acts := r.acts ++ [⟨true, [], false, r.covered, r.k - r.covered, 0⟩], covered := r.k })
  | .ended => some (d.streamEnd c r.op.tag h,
      { r with acts := r.acts ++ [⟨true, [], false, r.covered, r.k - r.covered, 0⟩], covered := r.k })
  | .item st ps =>
    let a := d.actTile c r.op st (st.taken - st.given.length + r.held.length) r.covered ps
    let own := !(runWsrc r.op) || decide (r.op.ins.b ≠ r.op.ins.a)
    let d0 := d.emitReads c 0x01 r.op.tag a.2.1
    let d1 := if own then d0 else d0.putStream c h st.pop
    let d2 := if a.2.2 && !r.operand then d1.latticeOperand c r.op.tag (runMode r.op) 0 else d1
    let d3 := d2.onOut c r.op.seq fun o =>
      { o with dead := o.dead || a.2.2, ta := ((blocksOf a.1.rows).head?.map fun b => b.scale).getD o.ta }
    some (d3, { r with
      acts := r.acts ++ [a.1], covered := r.covered + a.1.count, operand := r.operand || a.2.2
      held := if own then r.held ++ [(r.covered, a.1.count)] else [] })

/-- The activation element of a wave at a reduction position of the run. -/
def Run.act (r : Run) (m p : Nat) : Option (OBlk × Nat) :=
  match r.acts.find? fun a => decide (a.first ≤ p) && decide (p < a.first + a.count) with
  | none => none
  | some a => elemAt a.rows a.across (p - a.first) m

/-- The activation operand is lost at a position: poisoned as a whole. -/
def Run.actBad (r : Run) (p : Nat) : Bool :=
  r.acts.any fun a => a.bad && decide (a.first ≤ p) && decide (p < a.first + a.count)

/-! ## The anchor (R142, R143, R151 to R155, R166) -/

/-- The activation tiles a run will take, as they can be seen now, with how many reduction positions they cover. -/
def State.peekActs (s : State) (c : CoreId) (r : Run) : Nat → Nat → Nat → Option (List ATile × Bool)
  | 0, _, _ => some ([], false)
  | fuel + 1, i, cov =>
    if r.k ≤ cov then some ([], false)
    else
      match s.dev.stream c r.op.ins.a.toNat with
      | none => some ([], false)
      | some st =>
        match s.peekItem c r.op.ins.a.toNat i with
        | none => if s.dev.pastEnd c r.op.ins.a.toNat st (st.taken - st.given.length + i) then some ([], false) else none
        | some ps =>
          let a := s.dev.actTile c r.op st (st.taken - st.given.length + i) cov ps
          if a.1.count = 0 then some ([], a.2.2)
          else match State.peekActs s c r fuel (i + 1) (cov + a.1.count) with
            | none => none
            | some (l, w) => some (a.1 :: l, w || a.2.2)

/-- The weight tiles a run has still to load, as they can be seen now. -/
def State.peekWeights (s : State) (c : CoreId) (r : Run) (n : Nat) : Option (List WTile × Bool) :=
  let cl := cluOfCore c
  (List.range n).foldl (fun (acc : Option (List WTile × Bool)) i =>
    match acc with
    | none => none
    | some (l, w) =>
      match s.dev.stream c r.op.ins.b.toNat with
      | none => some (l, w)
      | some st =>
        match s.peekItem c r.op.ins.b.toNat i with
        | none => if s.dev.pastEnd c r.op.ins.b.toNat st (st.taken - st.given.length + i) then some (l ++ [badTile .single], w)
          else none
        | some ps =>
          let t := s.dev.weightTile cl r.op.epoch (s.dev.tileAt c st (st.taken - st.given.length + i)) (runTrw r.op)
            (semiring (runMode r.op)) ps
          some (l ++ [t.1], w || t.1.wide)) (some ([], false))

/-- Which rule of R142 the blocks of a semiring run break: 0 width, codebook or ex; 1 exponent or offset; 2 tensor
scale. -/
def semiringFault (d : Device) (cl : ClusterId) (mode : Nat) (ws as' : List OBlk) : Option Nat :=
  let all := ws ++ as'
  if mode = 6 then (if all.any fun b => decide (b.cb ≠ 0x01) then some 0 else none)
  else
    let exOk := fun (b : OBlk) => match d.codebook cl b.cb with
      | .found cb => cb.entries.all fun e => decide (bitsOf e.1 5 4 = 0)
      | _ => true
    let off := (all.head?.map fun b => b.off).getD 0
    let sc := (all.head?.map fun b => b.scale).getD 0
    if all.any fun b => decide (4 < b.width) || !(exOk b) then some 0
    else if all.any fun b => decide (b.off ≠ off) || (!b.zero && !b.dead && decide (b.exp ≠ 127)) then some 1
    else if all.any fun b => decide (b.scale ≠ sc) then some 2
    else none

/-- Significand and exponent of a BF16 outlier operand (R158). -/
def sigExp (x : Nat) : Int × Int :=
  let e := bitsOf x 14 7
  let m : Int := if e = 0 then (bitsOf x 6 0 : Int) else (bitsOf x 6 0 + 128 : Int)
  (if bitAt x 15 then -m else m, if e = 0 then 1 else (e : Int))

/-- One outlier product: wave, column, channel, S, E, whether an operand is poisoned, whether it is an infinity or a NaN (R158,
R159), and the epoch of a stale activation operand (R211). -/
structure OutProd where
  wave : Nat
  col : Nat
  chan : Nat
  s : Int
  e : Int
  poison : Bool
  nonfin : Bool
  stale : Option W16
  deriving DecidableEq, Repr

/-- The row coordinate of the run's first wave: that of its first activation tile, known once the anchor is fixed. -/
def Run.row0 (r : Run) (as' : List ATile) : Nat :=
  if r.fixed then r.firstRow else ((r.acts ++ as').head?.map fun a => a.row0).getD 0

/-- Activation items from place i on that a run takes whose next position is cov. -/
def Device.actNeed (d : Device) (c : CoreId) (st : Stream) (tra : Bool) (k : Nat) : Nat → Nat → Nat → Nat
  | 0, _, _ => 0
  | fuel + 1, i, cov =>
    if k ≤ cov then 0
    else
      let t := d.tileAt c st (st.taken - st.given.length + i)
      Device.actNeed d c st tra k fuel (i + 1) (cov + Nat.max 1 (if tra then t.rows else t.cols)) + 1

/-- The outlier activation operands that a run pairs, those of its layer, its waves and its table channels (R190, R282). -/
def State.sideOps (s : State) (c : CoreId) (r : Run) (o : OutTile) (row0 : Nat) : List SideOp :=
  if !(runOutl r.op) then []
  else
    let cl := cluOfCore c
    let n := fmtLayer o.fmt
    let tab := (s.outlierTable cl ((s.dev.genOf cl r.op.epoch).getD 0) n).getD []
    (s.dev.unitsOf cl).side.filter fun x => decide (x.layer = n) && tab.contains x.chan && decide (x.chan < r.k)
      && decide (row0 ≤ x.row) && decide (x.row < row0 + o.m)

/-- A packet or a side-path operand that the run has still to take and that is newer than its expected epoch (R209, R212). -/
def State.runNewer (s : State) (c : CoreId) (r : Run) (o : OutTile) (nw : Nat) : Option W16 :=
  let cl := cluOfCore c
  let look := fun (h i n : Nat) => (List.range n).foldl (fun (a : Option W16) j =>
    match a with
    | some e => some e
    | none => match s.peekItem c h (i + j) with
      | none => none
      | some ps => s.dev.newerIn cl r.op.epoch ps) none
  let na := match s.dev.stream c r.op.ins.a.toNat with
    | none => 0
    | some st => s.dev.actNeed c st (runTra r.op) r.k r.k r.held.length r.covered
  let row0 := r.row0 (((s.peekActs c r (r.k + 1) r.held.length r.covered).map fun a => a.1).getD [])
  let side := ((s.sideOps c r o row0).find? fun x => decide (epochClass x.epoch r.op.epoch = .newer)).map fun x => x.epoch
  ((look r.op.ins.a.toNat r.held.length na).or (if runWsrc r.op then look r.op.ins.b.toNat 0 nw else none)).or side

/-- The items of t[OHND] that a run pairs, with the poison of each BF16 value; an item past the end of the stream is none and is
read as poisoned. None: one cannot be seen yet. -/
def State.outlTiles (s : State) (c : CoreId) (st : Stream) (h n : Nat) : Option (List (Option (List (Nat × Bool)))) :=
  (List.range n).foldl (fun (a : Option (List (Option (List (Nat × Bool))))) i =>
    match a with
    | none => none
    | some l => match s.peekItem c h i with
      | some ps => some (l ++ [some (ps.map fun p => (List.range (p.payload.length / 2)).map fun i =>
          (leAt p.payload (2 * i) 2, pktBad p)).flatten])
      | none => if s.dev.pastEnd c h st (st.taken - st.given.length + i) then some (l ++ [none]) else none) (some [])

/-- The outlier products of a run: table channels in table order, each with its row of BF16 weights, for the side-path
operands that the conversions of the activations sent (R190, R209, R211, R282, R413). None: the weight rows are not to be seen yet.
-/
def State.outProds (s : State) (c : CoreId) (r : Run) (o : OutTile) (row0 : Nat) : Option (List OutProd) :=
  if !(runOutl r.op) then some []
  else
    let cl := cluOfCore c
    let tab := (s.outlierTable cl ((s.dev.genOf cl r.op.epoch).getD 0) (fmtLayer o.fmt)).getD []
    match s.dev.stream c (runOhnd r.op) with
    | none => some []
    | some st =>
      match s.outlTiles c st (runOhnd r.op) (s.outlItems c st tab.length o.n) with
      | none => none
      | some items =>
        let w := st.desc.toNat
        let n0 := st.taken - st.given.length
        let t0 := s.dev.tileAt c st n0
        let side := s.sideOps c r o row0
        some ((List.range o.m).map fun m => (tab.zipIdx.map fun ch =>
          match side.find? fun x => decide (x.row = row0 + m) && decide (x.chan = ch.1) with
          | none => []
          | some x =>
            if st.rows1 (s.dev.tensor c) ≤ t0.x1 + ch.2 then []
            else (List.range (Nat.min o.n (sdExt w 0 - t0.x0))).map fun col =>
              let i := ch.2 / sdTile1 w * sdTc w + col / sdTile0 w
              let t := s.dev.tileAt c st (n0 + i)
              let v := match items.getD i none with
                | none => (0, true)
                | some es => es.getD (ch.2 % sdTile1 w * t.cols + col % sdTile0 w) (0, false)
              let a := sigExp x.val.toNat
              let b := sigExp v.1
              let stale := decide (epochClass x.epoch r.op.epoch = .stale) || (s.dev.genOf cl x.epoch).isNone
              (⟨m, col, ch.1, a.1 * b.1, a.2 + b.2 - 268, x.poison || v.2 || stale,
                decide (bitsOf x.val.toNat 14 7 = 255) || decide (bitsOf v.1 14 7 = 255),
                if stale then some x.epoch else none⟩ : OutProd)).flatten).flatten

/-- A run takes what it needs of t[OHND] when its products are in its tallies: the records of reading it, and STREAM_END for what
lies past the end (R57, R282, R283, R319). -/
def State.outlTake (s : State) (c : CoreId) (r : Run) (o : OutTile) : State :=
  let cl := cluOfCore c
  let h := runOhnd r.op
  match s.dev.stream c h with
  | none => s
  | some st =>
    if !(runOutl r.op) then s
    else
      let tab := (s.outlierTable cl ((s.dev.genOf cl r.op.epoch).getD 0) (fmtLayer o.fmt)).getD []
      (List.range (s.outlItems c st tab.length o.n)).foldl (fun (s : State) _ =>
        (s.bringItem c h).onDev fun d => match d.stream c h with
          | none => d
          | some x => match x.next (d.tensor c) with
            | some it => (d.emitReads c 0x11 r.op.tag (headerRecs it.pkts)).putStream c h x.pop
            | none => d.streamEnd c r.op.tag h) s

/-- Truncation of R156 and R168: sign(S) × (|S| div 2^d), and whether a non-zero remainder was cut. -/
def cutInt (x : Int) (n : Nat) : Int × Bool :=
  let q : Int := ((x.natAbs / 2 ^ n : Nat) : Int)
  (if x < 0 then -q else q, decide (x.natAbs % 2 ^ n ≠ 0))

/-- Deep flushes and truncations, those of poisoned contributions apart (R157, R194). -/
structure TallyCnt where
  deep : Nat
  trunc : Nat
  badDeep : Nat
  badTrunc : Nat
  deriving DecidableEq, Repr

/-- The counts with those of one contribution. -/
def TallyCnt.plus (x : TallyCnt) (deep trunc : Nat) (bad : Bool) : TallyCnt :=
  if bad then { x with badDeep := x.badDeep + deep, badTrunc := x.badTrunc + trunc }
  else { x with deep := x.deep + deep, trunc := x.trunc + trunc }

/-- Counts of the long tally of a core (R157, R179) and, but for those of poisoned contributions, of the scorecard of the run's layer (R194,
R388). -/
def Device.countTally (d : Device) (c : CoreId) (op : TOp) (fmt : Nat) (x : TallyCnt) : Device :=
  let d1 := (d.addRf (Reg.tallyCnt c) 31 0 (x.deep + x.badDeep)).addRf (Reg.tallyCnt c) 63 32 (x.trunc + x.badTrunc)
  if exempt op fmt then d1
  else (d1.scAdd (cluOfCore c) (fmtLayer fmt) 12 2 x.deep).scAdd (cluOfCore c) (fmtLayer fmt) 14 2 x.trunc

/-- The seeds enter the tallies of a tile whose anchor is A (R166). Answers the tallies and the truncations. In the semiring modes, whose
anchor is 143, a record whose ANCHOR lies above it enters unshifted: R166 states no other value (DESIGN CHOICE, log 213). -/
def seedTallies (mode : Nat) (anchor : Option Int) (rs : List SeedRec) : List (Nat × Tally) × TallyCnt :=
  rs.zipIdx.foldl (fun (a : List (Nat × Tally) × TallyCnt) p =>
    let x := p.1
    let emp := bitAt x.flags 0
    let nf := bitAt x.flags 1
    let k := cutInt x.q ((anchor.getD x.anchor) - x.anchor).toNat
    let q := if emp then 0 else if mode = 3 ∨ mode = 4 then x.q else k.1
    (a.1 ++ [(p.2, ⟨q, !emp, x.poison, nf, x.count⟩)],
     a.2.plus 0 (ofBool (!emp && k.2 && decide (mode ≠ 3) && decide (mode ≠ 4))) x.poison)) ([], ⟨0, 0, 0, 0⟩)

/-- POISON_CONSUMED once for each operation tag (R146). Byte 2 names the operand that the first pass to consume poison took it from,
whatever later passes consume (DESIGN CHOICE, log 176). -/
def Device.poisonConsumed (d : Device) (c : CoreId) (op : TOp) (fmt who : Nat) : Device :=
  let d1 := d.trecOnce c 0x01 0x3002 .deferred true op.tag 16 [(2, 1, who)]
  if exempt op fmt then d1 else d1.scPoison (cluOfCore c) (fmtLayer fmt)

/-- The run goes over, one after the other, to the newer epochs of its operands that the cluster has reached. Answers the run, and
whether no newer packet is left (R212). -/
def State.runAdopt (s : State) (c : CoreId) (o : OutTile) (nw : Nat) : Nat → Run → Run × Bool
  | 0, r => (r, false)
  | n + 1, r => match s.runNewer c r o nw with
    | none => (r, true)
    | some e => if s.dev.epochReached c e then s.runAdopt c o nw n { r with op := { r.op with epoch := e } } else (r, false)

/-- The run in the array has gone over to a newer epoch, with csr.epoch and its output tile (R212); its layer and its OUTL are held to the
generation that it uses from now on (R186, R282). -/
def Device.runEpoch (d : Device) (c : CoreId) (r : Run) : Device :=
  let cl := cluOfCore c
  let e := r.op.epoch
  let gen := (d.genOf cl e).getD 0
  let o := ((d.tensor c).outOf r.op.seq).getD (outTile r.op 0 0 0 true true)
  let invalid := !(d.layerValid cl gen (fmtLayer o.fmt)) && !o.dead
  let outl := decide (runOutl r.op ≠ d.outlEn cl gen (fmtLayer o.fmt)) && !o.dead
  let d1 := if invalid then
      d.trec c 0x01 0x4008 .deferred true r.op.tag [(2, 1, fmtLayer o.fmt), (3, 1, gen), (4, 1, 0)] else d
  let d2 := if outl then d1.latticeOperand c r.op.tag (runMode r.op) 0 else d1
  ((d2.setRun c r).onOut c r.op.seq fun o => { o with adopted := some e, dead := o.dead || invalid || outl }).onCore c
    fun k => { k with csr := { k.csr with epoch := e } }

/-- The pre-pass has seen the whole reduction: the operands are checked, the anchor is fixed and seeds enter the tallies
(R142, R143, R151 to R155, R166, R212). While some of it cannot be seen the run only goes over to newer epochs. -/
def State.fixAnchor (s0 : State) (c : CoreId) : State :=
  let t := s0.dev.tensor c
  match t.run with
  | none => s0
  | some r0 =>
    let f := r0.form.getD .single
    let nw := if runWsrc r0.op then runTiles r0.k f.positions - r0.loaded else 0
    if r0.fixed then s0
    else
      let o0 := (t.outOf r0.op.seq).getD (outTile r0.op 0 0 0 true true)
      let q := s0.runAdopt c o0 nw 65536 r0
      let r := q.1
      let s := if r.op.epoch = r0.op.epoch then s0 else s0.onDev fun d => d.runEpoch c r
      if !q.2 then s
      else
        match s.peekActs c r (r.k + 1) r.held.length r.covered, s.peekWeights c r nw, (s.dev.tensor c).outOf r.op.seq with
        | some (as', wideA), some (ws, wideW), some o =>
          match s.outProds c r o (r.row0 as') with
          | none => s
          | some prods =>
            let cl := cluOfCore c
            let mode := o.mode
            let acts := r.acts ++ as'
            let wparts := r.wmax ++ ws.map fun w => (List.range w.positions).map fun i => partAt w.rows w.across i o.n
            let pair := (List.range r.k).foldl (fun (m : Option Int) p =>
              let wp := ((wparts.getD (p / f.positions) []).getD (p % f.positions) none)
              let ap := match acts.find? fun a => decide (a.first ≤ p) && decide (p < a.first + a.count) with
                | none => none
                | some a => partAt a.rows a.across (p - a.first) o.m
              match wp, ap with
              | some x, some y => omax m (some (x + y))
              | _, _ => m) none
            let item := (s.seedItem c r.op).getD none
            let seeds := match item with
              | some ps => seedsOf (o.m * o.n) ps.1
              | none => []
            let a1 := prods.foldl (fun m p => if p.s = 0 ∨ p.nonfin = true then m else omax m (some (p.e + 2))) pair
            let a2 := seeds.foldl (fun m x =>
              if bitAt x.flags 0 || (x.poison && (decide (x.anchor < -286) || decide (292 < x.anchor))) then m
              else omax m (some x.anchor)) a1
            let anchor := if mode = 0 then a2 else some 143
            let own := !(runWsrc r.op) || decide (0 < r.swapped)
            let wb := (t.front.map fun w => if own then blocksOf w.rows else []).getD []
              ++ (ws.map fun w => blocksOf w.rows).flatten ++ (t.back.map fun w =>
                if runWsrc r.op && decide (r.swapped < r.loaded) then blocksOf w.rows else []).getD []
            let ab := (acts.map fun a => blocksOf a.rows).flatten
            let sf := if mode = 0 then none else semiringFault s.dev cl mode wb ab
            let wide := wideA || wideW || (!(runWsrc r.op) && (t.front.map fun w => w.wide).getD false) || r.operand
            let st := seedTallies mode anchor seeds
            let s1 := if item.isSome then s.bringItem c r.op.ins.d.toNat else s
            let d1 := if wide && !r.operand then s1.dev.latticeOperand c r.op.tag mode 0 else s1.dev
            let d2 := match sf with
              | some n => if wide then d1 else d1.latticeOperand c r.op.tag mode n
              | none => d1
            let d4 := match item with
              | none => d2
              | some ps =>
                let d := if seeds.any fun x => x.poison then
                    d2.poisonConsumed c r.op o.fmt Config.seedOperand.toNat else d2
                if ps.2 then d.streamEnd c r.op.tag r.op.ins.d.toNat
                else match d.stream c r.op.ins.d.toNat with
                  | some x => (d.emitReads c 0x01 r.op.tag (headerRecs ps.1)).putStream c r.op.ins.d.toNat x.pop
                  | none => d
            let d5 := d4.onOut c r.op.seq fun o =>
              { o with anchor := anchor, tallies := st.1, dead := o.dead || wide || sf.isSome
                       exact := r.exact && wb.all OBlk.intExact && ab.all OBlk.intExact
                       off := ((wb ++ ab).head?.map fun b => b.off).getD 0 }
            let nonfin := seeds.any fun x => bitAt x.flags 1
            let d6 := (d5.countTally c r.op o.fmt st.2).setRegN (Reg.tallyStat c)
              (wrapInt (anchor.getD 0) 10 + ofBool anchor.isSome <<< 10 + ofBool (runSeed r.op) <<< 11
                + ofBool nonfin <<< 12)
            let op' := { r.op with holds := r.op.holds.filter fun h =>
              !(runSeed r.op && decide (h = r.op.ins.d.toNat)) || decide (h = r.op.ins.a.toNat)
                || (runWsrc r.op && decide (h = r.op.ins.b.toNat)) }
            s1.onDev fun _ => d6.setRun c
              { r with op := op', fixed := true, operand := r.operand || wide || sf.isSome, firstRow := r.row0 as' }
        | _, _, _ => s

/-! ## Passes (R122 to R126, R132 to R137, R141, R144, R146) -/

/-- Waves of activations in the tile in front: rows in use. -/
def Run.rowsInUse (r : Run) : Nat :=
  let p := (r.form.getD .single).positions
  Nat.min p (r.k - r.tile * p)

/-- A half of an element of a block: low, or high where the code has one (R118, R122). -/
def halfOf (b : OBlk) (j : Nat) (high : Bool) : Option Int :=
  if high then (if 5 ≤ b.width then some (pipVal (b.pips.getD j (0, 0)).2) else none)
  else some (pipVal (b.pips.getD j (0, 0)).1)

/-- A product joins the group of its combined exponent, which it may poison (R126, R146). -/
def addGroup (gs : List (Int × Int × Bool)) (e p : Int) (bad : Bool) : List (Int × Int × Bool) :=
  match gs with
  | [] => [(e, p, bad)]
  | (x, q, b) :: r => if x = e then (x, q + p, b || bad) :: r else (x, q, b) :: addGroup r e p bad

/-- The groups of one half of one column in one pass of multiply-add: exponent, sum, and whether a product of it is poisoned (R124 to
R126, R146). -/
def Run.groups (r : Run) (w : WTile) (m col half : Nat) (high : Bool) : List (Int × Int × Bool) :=
  let p0 := r.tile * w.form.positions
  let rng := (List.range 32).map fun i => if w.form = .ganged then i else 32 * half + i
  rng.foldl (fun gs i =>
    if r.rowsInUse ≤ i ∨ w.positions ≤ i then gs
    else match elemAt w.rows w.across i col, r.act m (p0 + i) with
      | some (bw, jw), some (ba, ja) =>
        if bw.zero || bw.dead || ba.zero || ba.dead then gs
        else
          let hw := decide (w.form = .ganged) && decide (half = 0)
          match halfOf bw jw hw, halfOf ba ja high with
          | some x, some y =>
            addGroup gs ((bw.exp : Int) - 127 + ((ba.exp : Int) - 127) + bw.off + ba.off
              + 4 * ((ofBool hw + ofBool high : Nat) : Int)) (x * y) (bw.poison || ba.poison)
          | _, _ => gs
      | _, _ => gs) []

/-- The term of a pip in a semiring mode (R141, R144). -/
def semTerm (mode : Nat) (w a : Int) : Int :=
  match mode with
  | 1 => ((w - a).natAbs : Int)
  | 2 => (w - a) * (w - a)
  | 3 => w + a
  | 4 => w + a
  | 5 => if w ≤ a then 1 else 0
  | _ => if w = a then 0 else 1

/-- Two terms or half values combined in a semiring mode (R141, R164). -/
def semCombine (mode : Nat) (x y : Int) : Int :=
  match mode with
  | 3 => min x y
  | 4 => max x y
  | _ => x + y

/-- The value of one half of one column in a semiring pass; none: no term (R141, R144). A pip outside a tile shorter than the array
holds zero (R127), which is an element of value zero in modes 0x1 to 0x5 and belongs to no block in mode 0x6 (DEDUCED, log 181). -/
def Run.semHalf (r : Run) (w : WTile) (mode m col half : Nat) : Option Int :=
  let p0 := r.tile * 64
  (List.range 32).foldl (fun (acc : Option Int) i =>
    let q := 32 * half + i
    let wv : Option (Int × Bool) := match elemAt w.rows w.across q col with
      | some (b, j) => some (if b.zero then 0 else pipVal (b.pips.getD j (0, 0)).1, b.zero)
      | none => if padAt w.rows w.across q col then none else some (0, true)
    if r.rowsInUse ≤ q then acc
    else match wv, r.act m (p0 + q) with
      | some (x, z), some (ba, ja) =>
        if mode = 6 ∧ (z || ba.zero) = true then acc
        else
          let y := if ba.zero then 0 else pipVal (ba.pips.getD ja (0, 0)).1
          let v := semTerm mode x y
          match acc with
          | none => some v
          | some u => some (semCombine mode u v)
      | _, _ => acc) none

/-- The activation elements of a wave for the tile in front. -/
def Run.waveElems (r : Run) (m : Nat) : List (OBlk × Nat) :=
  (List.range r.rowsInUse).filterMap fun i => r.act m (r.tile * (r.form.getD .single).positions + i)

/-- The wave has a second pass: some element has width 5 to 8 (R122). -/
def Run.twoPasses (r : Run) (m : Nat) : Bool := (r.waveElems m).any fun e => decide (5 ≤ e.1.width)

/-- The wave is nibble-short (R133). -/
def Run.nibbleShort (r : Run) (m : Nat) : Bool :=
  (r.waveElems m).all fun e => e.1.zero || decide (e.1.width ≤ 4)
    || decide (bitsOf (e.1.pips.getD e.2 (0, 0)).2 3 0 = 0)

/-- The wave holds a poisoned element (R146). -/
def Run.waveBad (r : Run) (m : Nat) : Bool :=
  (r.waveElems m).any (fun e => e.1.poison || e.1.dead) ||
    (List.range r.rowsInUse).any fun i => r.actBad (r.tile * (r.form.getD .single).positions + i)

/-- Every element the wave presents belongs to a zero block, and none is poisoned (R134). A wave that presents no element is one
(DESIGN CHOICE, log 177). -/
def Run.waveZero (r : Run) (m : Nat) : Bool := (r.waveElems m).all (fun e => e.1.zero) && !(r.waveBad m)

/-- The columns whose weights hold a poisoned element at a position of the reduction (R146). -/
def Run.badCols (r : Run) (w : WTile) (n : Nat) : List Nat :=
  (List.range n).filter fun col => w.bad || (List.range r.rowsInUse).any fun i =>
    match elemAt w.rows w.across i col with
    | some (b, _) => b.poison || b.dead
    | none => false

/-- The pass of a wave: contributions, columns poisoned and by which operand, and its number of group cycles G. -/
def Run.pass (r : Run) (w : WTile) (o : OutTile) (m : Nat) (high : Bool) : Pass × Nat :=
  let wb := r.badCols w o.n
  let ab := r.waveBad m
  let bad := if ab then List.range o.n else wb
  let who := if ab then (if wb.isEmpty then 1 else 2) else 0
  let halves := if o.mode = 0 then
      ((List.range o.n).map fun col => (List.range 2).map fun h => (col, r.groups w m col h high)).flatten
    else []
  let adds := if o.dead then []
    else if o.mode = 0 then (halves.map fun x => x.2.map fun g => (x.1, g.2.1, g.1, g.2.2)).flatten
    else ((List.range o.n).map fun col => (List.range 2).filterMap fun h =>
      (r.semHalf w o.mode m col h).map fun v => (col, v, (0 : Int), false)).flatten
  (⟨m, adds, bad, who⟩, halves.foldl (fun g x => Nat.max g x.2.length) 1)

/-- A tally poisoned. -/
def OutTile.poisonCols (o : OutTile) (m : Nat) (cols : List Nat) : OutTile :=
  let ts := cols.foldl (fun t c =>
    let x := tget t Tally.empty (m * o.n + c)
    tput t (m * o.n + c) { x with poison := true }) o.tallies
  { o with tallies := ts }

/-- Output tiles that keep the run's tile from accumulating: those not drained yet take one set each, or both (R130). -/
def Tensor.bankBusy (t : Tensor) (o : OutTile) : Bool :=
  let before := t.outs.takeWhile fun x => decide (x.seq ≠ o.seq)
  let sets := (before.map fun x => if 4096 < x.m * x.n then 2 else 1).sum
  let own : Nat := if 4096 < o.m * o.n then 2 else 1
  decide (2 < sets + own)

/-- Why tile n of a stream cannot be taken: bank conflict where it is staged; network, memory or index wait; else synchronisation
wait (R332). -/
def Device.waitCause (d : Device) (c : CoreId) (h n : Nat) : Nat :=
  match d.stream c h with
  | none => 7
  | some st =>
    let per := sdTiles st.desc.toNat (st.rows1 (d.tensor c))
    let t := d.tileAt c st n
    if n < st.taken ∨ (st.staged.any fun i => decide (i.tile = n)) = true then 1
    else if sdEnd st.desc.toNat = 1 then 3
    else if st.flight.any fun f => decide (f.tile = n) then 0
    else if st.limit (d.tensor c) ≤ n then 7
    else if (match st.orbit with
        | some o => decide (n / per ≠ 0) && (tfind o.arrived (n / per)).isNone
        | none => false) then 3
    else if st.link.isSome && decide (st.indices.length < t.x1 + t.rows) then 2
    else 7

/-- A feeder has no element for the weight tile in front (R136). -/
def Run.starved (r : Run) (f : Nat) : Bool := decide (r.feeders.getD f 0 ≤ r.tile)

/-- The stall cause of the lowest-numbered feeder in use that is empty: why the tile that holds its next elements is not there
(R332). -/
def Device.feederCause (d : Device) (c : CoreId) (r : Run) : Nat :=
  let h := r.op.ins.a.toNat
  let f := ((List.range r.rowsInUse).find? r.starved).getD 0
  let p := r.tile * (r.form.getD .single).positions + f
  match d.stream c h with
  | none => 7
  | some st =>
    if p < r.covered then 1
    else d.waitCause c h (st.taken - st.given.length + r.held.length
      + d.actNeed c st (runTra r.op) (p + 1) 64 r.held.length r.covered - 1)

/-- The first cause that freezes the array in this cycle (R136, R137, R208, R209, R332); none: it does not freeze. -/
def State.freeze (s : State) (c : CoreId) (r : Run) (o : OutTile) : Option Nat :=
  let d := s.dev
  let nw := if runWsrc r.op then runTiles r.k (r.form.getD .single).positions - r.loaded else 0
  if !(d.epochReached c r.op.epoch) || !r.fixed && (s.runNewer c r o nw).isSome then some 6
  else if !r.fixed then some 5
  else if (d.tensor c).bankBusy o then some 4
  else if (List.range r.rowsInUse).any r.starved then some (d.feederCause c r)
  else none

/-- Why an operation at the head of a queue waits for an element of a stream it reads, or for room in one it writes; none: it does not
(R208, R332). -/
def Device.opWait (d : Device) (c : CoreId) (op : TOp) (reads writes : Option Nat) (epochs : Bool) : Option Nat :=
  let elem := fun (h : Nat) => match d.stream c h with
    | none => none
    | some st =>
      if st.drives.isSome ∨ sdDir st.desc.toNat ≠ 0 then none
      else match st.next (d.tensor c) with
        | some it => if epochs && (d.newerIn (cluOfCore c) op.epoch it.pkts).isSome then some 6 else none
        | none => if d.isOver c h st then none else some (d.waitCause c h st.taken)
  if epochs && !(d.epochReached c op.epoch) then some 6
  else if !((d.tensor c).turns op) then some 7
  else (reads.bind elem).or (writes.bind fun h => if d.dstReady c h then none else some 4)

/-- The next tile of a persistent stream lies beyond its last requested pass, and a re-arm may still begin another (R348). -/
def Device.pastPass (d : Device) (c : CoreId) (h : Nat) : Bool :=
  match d.stream c h with
  | none => false
  | some st => sdPersist st.desc.toNat && st.given.isEmpty && decide (st.limit (d.tensor c) ≤ st.taken) && !(d.isOver c h st)

/-- The operations of a core that wait in this cycle as R332 counts it, each with its place in issue order: the heads of the
conversion, vector and save queues, a drain, and a load or a run that has not started (R208, R344, R348). -/
def Device.waits (d : Device) (c : CoreId) : List (Nat × Nat) :=
  let t := d.tensor c
  let head := fun (q : List TOp) (f : TOp → Option Nat) => match q with
    | [] => []
    | op :: _ => match f op with
      | some k => [(op.seq, k)]
      | none => []
  let a := fun (op : TOp) => some op.ins.a.toNat
  let w := fun (op : TOp) => some op.ins.d.toNat
  head t.convQ (fun op => d.opWait c op (if op.opc = 0xCA then none else a op) (if op.opc = 0xC9 then none else w op) true)
    ++ head t.vectorQ (fun op => if op.opc = 0xA2 then d.opWait c op (a op) none false
        else if op.opc = 0xA3 then d.opWait c op none (a op) false else none)
    ++ head t.saveQ (fun op => d.opWait c op (a op) (w op) false)
    ++ head t.drainQ (fun op => if (t.outs.head?.map fun o => o.ended).getD false then d.opWait c op none (w op) true else none)
    ++ (if t.run.isSome then [] else head t.latticeQ fun op =>
        if op.opc = 0x91 then none
        else if !(d.epochReached c op.epoch) then some 6
        else if op.opc = 0x90 then
          (if !(t.turns op) || d.pastPass c op.ins.a.toNat then some 7 else none)
        else if !(d.runMayStart c op) || (runWsrc op && d.pastPass c op.ins.b.toNat) || (runSeed op && d.pastPass c op.ins.d.toNat) then some 7
        else some 5)

/-- The cause against which a cycle counts in which the array does not freeze: that of the earliest-issued operation that waits
(R332). -/
def Device.waiting (d : Device) (c : CoreId) : Option Nat :=
  ((d.waits c).foldl (fun (m : Option (Nat × Nat)) x => match m with
    | none => some x
    | some y => if x.1 < y.1 then some x else some y) none).map fun x => x.2

/-- The next wave after the current one. -/
def Run.nextWave (r : Run) (m : Nat) : Run :=
  if r.wave + 1 < m then { r with wave := r.wave + 1, high := false }
  else { r with tile := r.tile + 1, wave := 0, high := false }

/-- A stall cycle of a core is counted against its cause, for the core and its cluster (R332, R608). -/
def Device.stall (d : Device) (c : CoreId) (k : Nat) : Device :=
  (d.addRf (Reg.stallCnt c k) 47 0 1).addRf (Reg.cluCnt (cluOfCore c) (4 + k)) 47 0 1

/-- A whole wave skipped is counted (R148, R608). -/
def Device.countSkip (d : Device) (c : CoreId) : Device :=
  (d.addRf (Reg.latCntB c) 63 32 1).addRf (Reg.cluCnt (cluOfCore c) 2) 47 0 1

/-- A pass is counted, with its further group cycles and a high-nibble pass that was not needed (R148, R608). -/
def Device.countPass (d : Device) (c : CoreId) (groups : Nat) (short : Bool) : Device :=
  let cl := cluOfCore c
  let d1 := ((d.addRf (Reg.latCntA c) 47 0 1).addRf (Reg.latCntC c) 47 0 groups).addRf (Reg.latCntB c) 31 0 (ofBool short)
  ((d1.addRf (Reg.cluCnt cl 0) 47 0 1).addRf (Reg.cluCnt cl 3) 47 0 groups).addRf (Reg.cluCnt cl 1) 47 0 (ofBool short)

/-- Whole waves are skipped, at most n of them (R134, R135). -/
def Device.skipWaves : Nat → Device → CoreId → Run → OutTile → Device × Run
  | 0, d, _, r, _ => (d, r)
  | n + 1, d, c, r, o =>
    if decide (1 ≤ o.mode) && decide (o.mode ≤ 5) || r.high || r.allPassed || decide (r.swapped ≤ r.tile)
        || !(r.waveZero r.wave) then (d, r)
    else
      let wb := match (d.tensor c).front with
        | some w => r.badCols w o.n
        | none => []
      let d1 := d.countSkip c
      let d2 := if wb.isEmpty then d1
        else (d1.onOut c r.op.seq fun o => o.poisonCols r.wave wb).poisonConsumed c r.op o.fmt 0
      Device.skipWaves n d2 c (r.nextWave o.m) o

/-- Waves are skipped and a pass is broadcast, where the array has a tile in front for it (R122, R126, R132 to R135). -/
def Device.advance (d : Device) (c : CoreId) (r : Run) (o : OutTile) : Device :=
  if r.swapped ≤ r.tile then d
  else
    let sk := Device.skipWaves 4 d c r o
    let r1 := sk.2
    let d1 := sk.1.setRun c r1
    match (d1.tensor c).front with
    | none => d1
    | some w =>
      if r1.tile ≠ r.tile ∨ r1.allPassed = true ∨ ((decide (o.mode = 0) || decide (o.mode = 6)) && !r1.high
          && r1.waveZero r1.wave) = true then d1
      else
        let p := r1.pass w o r1.wave r1.high
        let two := decide (o.mode = 0) && r1.twoPasses r1.wave
        let short := two && !r1.high && r1.nibbleShort r1.wave
        let d2 := d1.countPass c (p.2 - 1) short
        let r2 := { r1 with flight := r1.flight ++ [p.1] }
        d2.setRun c (if two && !r1.high && !short then { r2 with high := true } else r2.nextWave o.m)

/-- One cycle of the array. In a run it freezes and the cycle is counted, or it goes on; a cycle in which it does not freeze is counted
against the earliest operation that waits (R122, R126, R132 to R137, R332). -/
def State.broadcast (s : State) (c : CoreId) : State :=
  let idle := fun (d : Device) => match d.waiting c with
    | some k => d.stall c k
    | none => d
  match (s.dev.tensor c).run with
  | none => s.onDev idle
  | some r =>
    match (s.dev.tensor c).outOf r.op.seq with
    | none => s.onDev idle
    | some o =>
      if r.allPassed then s.onDev idle
      else match s.freeze c r o with
        | some k => s.onDev fun d => d.stall c k
        | none => s.onDev fun d => (idle d).advance c r o

/-- One contribution is added to Q (R156). Answers Q, deep flushes and truncations. -/
def addContribution (q s e anchor : Int) : Int × Nat × Nat :=
  let l := anchor - 143
  if s = 0 then (q, 0, 0)
  else if l ≤ e then (q + s * (2 : Int) ^ (e - l).toNat, 0, 0)
  else if e ≤ l - 19 then (q, 1, 0)
  else
    let k := cutInt s (l - e).toNat
    (q + k.1, 0, ofBool k.2)

/-- A contribution enters a tally of an output tile (R151, R156, R164). -/
def Tally.enter (x : Tally) (mode : Nat) (anchor s e : Int) : Tally × Nat × Nat :=
  if mode = 0 then
    let r := addContribution x.q s e anchor
    ({ x with q := r.1, got := x.got || decide (s ≠ 0) }, r.2.1, r.2.2)
  else if (mode = 3 ∨ mode = 4) ∧ x.got = false then ({ x with q := s, got := true }, 0, 0)
  else ({ x with q := semCombine mode x.q s, got := true }, 0, 0)

/-- The contributions of the oldest pass in flight enter their tallies (R146, R156, R157). -/
def Device.tallyPass (d : Device) (c : CoreId) : Device :=
  let t := d.tensor c
  match t.run with
  | none => d
  | some r =>
    match r.flight, t.outOf r.op.seq with
    | p :: rest, some o =>
      let a := o.anchor.getD 0
      let res := p.adds.foldl (fun (acc : List (Nat × Tally) × TallyCnt) x =>
        let i := p.wave * o.n + x.1
        let e := (tget acc.1 Tally.empty i).enter o.mode a x.2.1 x.2.2.1
        (tput acc.1 i e.1, acc.2.plus e.2.1 e.2.2 x.2.2.2)) (o.tallies, ⟨0, 0, 0, 0⟩)
      let d1 := (d.setRun c { r with flight := rest }).onOut c r.op.seq fun o =>
        ({ o with tallies := res.1 } : OutTile).poisonCols p.wave p.bad
      let d2 := d1.countTally c r.op o.fmt res.2
      if p.bad.isEmpty then d2 else d2.poisonConsumed c r.op o.fmt p.who
    | _, _ => d

/-- The CFU forms the next outlier product of the run and enters it into its tally (R158, R159). Byte 2 of TALLY_NONFINITE holds the low
byte of the channel number (DESIGN CHOICE, log 219). -/
def State.outlierProduct (s : State) (c : CoreId) : State :=
  let t := s.dev.tensor c
  match t.run with
  | none => s
  | some r =>
    match t.outOf r.op.seq with
    | none => s
    | some o =>
      if !r.fixed then s
      else match s.outProds c r o (r.row0 []) with
        | none => s
        | some ps =>
          match ps[r.outliers]? with
          | none => s
          | some p =>
            s.onDev fun d =>
              let i := p.wave * o.n + p.col
              let x := tget o.tallies Tally.empty i
              let e := if o.dead || p.nonfin then (x, 0, 0) else x.enter 0 (o.anchor.getD 0) p.s p.e
              let x' := { e.1 with poison := e.1.poison || p.poison || p.nonfin, nonfin := e.1.nonfin || p.nonfin }
              let d1 := (d.setRun c { r with outliers := r.outliers + 1 }).onOut c r.op.seq fun o =>
                { o with tallies := tput o.tallies i x' }
              let d2 := (d1.countTally c r.op o.fmt (TallyCnt.plus ⟨0, 0, 0, 0⟩ e.2.1 e.2.2 p.poison)).addRf (Reg.cluCnt (cluOfCore c) 12) 47 0 1
              let d3 := if p.nonfin then
                  (d2.trecOnce c 0x11 0x3102 .deferred true r.op.tag 16 [(2, 1, p.chan)]).setRf (Reg.tallyStat c) 12 12 1
                else d2
              let d4 := match p.stale with
                | some h => d3.trecOnce c 0x11 0x4001 .deferred true r.op.tag 16
                  [(2, 2, h.toNat), (4, 2, r.op.epoch.toNat), (6, 2, (d.curEpoch (cluOfCore c)).toNat)]
                | none => d3
              if p.poison then d4.poisonConsumed c r.op o.fmt 2 else d4

/-! ## The end of a run (R162 to R165, R283) -/

/-- The exact value a tally drains, with its poison (R141, R145, R159, R162, R164). -/
def OutTile.value (o : OutTile) (i : Nat) : El :=
  let x := tget o.tallies Tally.empty i
  let tw := fp32Rat o.tw
  let ta := fp32Rat o.ta
  let q : Rat := (x.q : Rat)
  let v : Real :=
    if x.nonfin then .nan
    else if !x.got && decide (o.mode = 3) then .inf false
    else if !x.got && decide (o.mode = 4) then .inf true
    else match o.mode with
    | 0 => .fin (q * pow2 ((o.anchor.getD 143) - 143) * tw * ta)
    | 1 => .fin (q * pow2 o.off * tw)
    | 2 => .fin (q * pow2 (2 * o.off) * tw * tw)
    | 3 => .fin (q * pow2 o.off * tw)
    | 4 => .fin (q * pow2 o.off * tw)
    | _ => .fin q
  ⟨v, false, o.dead || x.poison || x.nonfin, x.nonfin⟩

/-- The record of a tally in tally form (R165). -/
def OutTile.record (o : OutTile) (i : Nat) : List Byte × Bool :=
  let x := tget o.tallies Tally.empty i
  let a := match o.anchor with
    | some a => wrapInt a 16
    | none => 0
  (leBytes 24 (wrapInt x.q 192) ++ leBytes 2 a ++ leBytes 5 (o.k + x.count)
    ++ leBytes 1 (ofBool (!x.got) + 2 * ofBool x.nonfin + 16 * o.mode), o.dead || x.poison || x.nonfin)

/-- The exact activation values of each wave of a run (R198). -/
def Run.values (r : Run) (m : Nat) : List (List Rat) :=
  (List.range m).map fun i => (List.range r.k).map fun p =>
    match r.act i p with
    | none => 0
    | some (b, j) => match (b.elems.getD j ⟨.fin 0, false, false, false⟩).v with
      | .fin x => x
      | _ => 0

/-- A run ends: its last contribution is in its tallies (R283). -/
def State.endRun (s : State) (c : CoreId) : State :=
  let t := s.dev.tensor c
  match t.run with
  | none => s
  | some r =>
    match t.outOf r.op.seq with
    | none => s
    | some o =>
      match s.outProds c r o (r.row0 []) with
      | none => s
      | some ps =>
        if !r.allPassed || !r.flight.isEmpty || decide (r.outliers < ps.length) || !r.fixed then s
        else
          (s.outlTake c r o).onDev fun d => (d.onTensor c fun t => { t with run := none }).onOut c r.op.seq fun o =>
            { o with ended := true, acts := r.values o.m }

/-! ## Agreement sampling (R169, R198, R199) -/

/-- The CFU reduction of exact products: each is rounded first (R169). -/
def cfuDot (ps : List El) : El := sum32 (ps.map f32)

/-- The tile error of a sample against the master weights given for its columns; none: a wide result is not finite (R199). Where a sum has
overflowed to an infinity R199 gives no quotient: 0 with V alone infinite, else 0xFFFF (DESIGN CHOICE, log 221). -/
def Sample.err (x : Sample) (weights : List (List W32)) : Option Nat :=
  let wide := (x.acts.map fun a => (List.range x.cols).map fun j =>
    cfuDot ((a.zip (weights.getD j [])).map fun p => elMul (elFin p.1) (elOf p.2.toNat false))).flatten
  let dv := ((x.narrow.map fun n => elOf n.toNat false).zip wide).foldl (fun (a : El × El) p =>
    (add32 a.1 (elAbs (elSub p.1 p.2)), add32 a.2 (elAbs p.2))) (elZero false, elZero false)
  if !(wide.all El.finite) then none
  else match dv.1.v, dv.2.v with
    | .fin d, .fin v => some (if d = 0 then 0 else if v = 0 then 0xFFFF else Nat.min 0xFFFF (65536 * d / v).floor.toNat)
    | .fin _, _ => some 0
    | _, _ => some 0xFFFF

/-- The CFU completes the oldest outstanding sample of a cluster; a non-finite tile sets POISONED (R199). -/
def Device.completeSample (d : Device) (cl : ClusterId) (weights : List (List W32)) : Device :=
  let u := d.unitsOf cl
  match u.samples with
  | [] => d
  | x :: rest =>
    let d1 := d.setUnits cl { u with samples := rest }
    match x.err weights with
    | none => d1.scPoison cl x.layer
    | some e => ((d1.scAdd cl x.layer 20 2 1).scMax cl x.layer 22 2 e).scAdd cl x.layer 24 4 e

/-- An output tile that is drained to tile td of the tensor whose descriptor is w is sampled, or not: the index is that of its first
element there. A poisoned or non-finite tile sets POISONED (R198, R199). -/
def State.sampleTile (s : State) (c : CoreId) (o : OutTile) (w : Nat) (td : TileAt) : State :=
  let cl := cluOfCore c
  let n := fmtLayer o.fmt
  let e := o.adopted.getD o.epoch
  let k := s.dev.layerF cl ((s.dev.genOf cl e).getD 0) n 36 32
  if 24 < k ∨ (o.backward && decide (fmtRole o.fmt < 2)) = true ∨ s.dev.sampled cl n k (sdIndex w td td.x1 0) = false then s
  else
    let vs := (List.range (o.m * o.n)).map o.value
    if vs.any fun e => e.poison || !e.finite then s.onDev fun d => d.scPoison cl n
    else s.onDev fun d =>
      let u := d.unitsOf cl
      d.setUnits cl { u with samples := u.samples ++ [{ layer := n, acts := o.acts, cols := o.n
                                                        narrow := vs.map fun e => BitVec.ofNat 32 (toFp32 .nearest false e.v).1 }] }

/-! ## The drain (R130, R162 to R165, R269, R284) -/

/-- The drain reads the oldest output tile and writes one item (R162 to R165, R284). It stops while the watermark output of the core's
output drain chute is asserted (R130, log 183). A tile whose run went over to a newer epoch converts at that epoch (R212). KSTREAM
names the key's stream also where it is not 0x00 (DESIGN CHOICE, log 173). An INT32 drain of a multiply-add run that did not start is outside
R115 too, and emits LATTICE_OPERAND (DESIGN CHOICE, log 220). -/
def State.drainTile (s : State) (c : CoreId) : State :=
  let t := s.dev.tensor c
  match t.drainQ, t.outs with
  | op0 :: rest, o :: outs =>
    let h := op0.ins.d.toNat
    let cl := cluOfCore c
    let op := match o.adopted with
      | some e => if epochClass e op0.epoch = .newer then { op0 with epoch := e } else op0
      | none => op0
    if !o.ended || !(t.turns op) || !(s.dev.dstReady c h) || !(s.dev.epochReached c op.epoch)
        || s.dev.holdOut ⟨.core c.die c.cluster c.core, 64⟩ then s
    else
      let g := tgtOf op op.x op.y
      let s1 := s.onDev fun d => d.onTensor c fun t => { t with drainQ := rest, outs := outs }
      let ok := s1.dev.useHandle c op h 1
      let s2 := s1.onDev fun _ => ok.1
      match s2.dev.stream c h with
      | none => s2
      | some st =>
        if !ok.2 then s2
        else
          let td := s2.dev.tileAt c st st.accepted
          let s3 := s2.sampleTile c o st.desc.toNat td
          if g.kind = 4 then
            let rs := (List.range (o.m * o.n)).map fun i => o.record i
            let hdr := coreHdr c 0x01 op.tag op.epoch
            s3.onDev fun d => d.acceptItem c h op.tag (markLast ((rowsOf 32 (rs.length + 1) rs).map fun q =>
              plainPacket hdr 0 0 (q.map fun x => x.1).flatten (q.any fun x => x.2)))
          else
            let intBad := decide (g.kind = 3) && decide (o.mode = 0) && !o.exact
            match s3.tgtFault cl ((s3.dev.genOf cl op.epoch).getD 0) g td.blocks with
            | some (code, det) => s3.onDev fun d => (d.tgtRecord c op.tag code det).sendPoison c h op
            | none =>
              let s4 := if intBad then s3.onDev fun d => d.latticeOperand c op.tag o.mode 0 else s3
              let els := (List.range o.m).map fun m => (List.range o.n).map fun j =>
                let e := o.value (m * o.n + j)
                { e with poison := e.poison || intBad }
              let q := s4.convRows c op g st.desc.toNat td els
              q.1.onDev fun d => d.acceptItem c h op.tag (outPackets c op g q.2)
  | _, _ => s

/-- CORE.LAT_STAT as read (R148). -/
def Device.latStat (d : Device) (c : CoreId) : Nat :=
  let t := d.tensor c
  let bad := fun (w : Option WTile) => match w with
    | none => false
    | some w => w.bad || (blocksOf w.rows).any fun b => b.poison || b.dead
  let loading := match t.run with
    | some r => runWsrc r.op && decide (r.loaded < runTiles r.k ((r.form.getD .single).positions)) && decide (r.loaded ≤ r.swapped)
    | none => false
  let waits := !((t.run.map fun r => runWsrc r.op).getD false) && match t.latticeQ with
    | [] => false
    | op :: _ => decide (op.opc = 0x90) && t.turns op && d.epochReached c op.epoch
  let held := t.back.or t.spare
  (if loading || waits then 1 else if t.back.isSome then 2 else 0) + ofBool t.front.isSome <<< 2
    + ((t.front.map fun w => w.form.code).getD 0) <<< 3 + ((held.map fun w => w.form.code).getD 0) <<< 6
    + ofBool (bad t.front) <<< 9 + ofBool (bad held) <<< 10 + ofBool t.run.isSome <<< 11
    + ofBool ((t.run.map fun r => r.crossed).getD false) <<< 12 + t.lastMode <<< 13

/-- A feeder is refilled with one wide word of the run's activation operand; a tile leaves its buffer with its last word (R323, R326,
R327). The words of a feeder hold its
row's elements for the waves of one weight tile each (DESIGN CHOICE, log 12); sixteen fit. -/
def Device.refill (d : Device) (c : CoreId) (f : Nat) : Device :=
  match (d.tensor c).run with
  | none => d
  | some r0 =>
    let p := (r0.form.getD .single).positions
    let n := r0.feeders.getD f 0
    if 64 ≤ f ∨ p ≤ f ∨ r0.tile + 16 ≤ n ∨ r0.k ≤ n * p + f then d
    else
      let go := if r0.covered ≤ n * p + f then d.takeAct c r0 else some (d, r0)
      match go with
      | none => d
      | some (d1, r1) =>
        if n * p + f < r1.covered then
          let q := Device.releaseActs (r1.held.length + 1) d1 c { r1 with feeders := r1.feeders.set f (n + 1) }
          q.1.setRun c q.2
        else d1.setRun c r1

end Sys2Proof.Machine
end

