-- ==== Sys2Proof/Machine/Save.lean ====
section
/-!
DEFINITION. The compressed save form and the save queue (R296 to R298, R390 to R393, R636).
-/
namespace Sys2Proof.Machine

/-! ## Encoding (R391, R392) -/

/-- The least p in 1 .. 8 with every code in the range of p-bit two's complement. -/
def planesOf (cs : List Int) : Nat :=
  ((List.range 7).find? fun i => cs.all fun c => decide (-(2 ^ i : Int) ≤ c) && decide (c < (2 ^ i : Int))).getD 7 + 1

/-- The bytes of one block that is not a zero block. -/
def saveBlock (e : Nat) (codes : List Nat) : List Byte :=
  let cs := if e = 0xFF then List.replicate 32 (0 : Int) else codes.map fun c => sext c 8
  let p := planesOf cs
  [BitVec.ofNat 8 e, BitVec.ofNat 8 (p - 1)] ++ ((List.range p).map fun k =>
    leBytes 4 (cs.zipIdx.foldl (fun a x => a + (wrapInt x.1 8 / 2 ^ k % 2) <<< x.2) 0)).flatten

/-- One group: its blocks with their poison, at most 8. -/
def saveGroup (bs : List (Blk × Bool)) : List Byte :=
  let at' := fun i => bs.getD i (.zero, false)
  let z := (List.range 8).foldl (fun a i => a + ofBool (decide ((at' i).1 = .zero)) <<< i) 0
  let p := (List.range 8).foldl (fun a i => a + ofBool (at' i).2 <<< i) 0
  [BitVec.ofNat 8 z, BitVec.ofNat 8 p] ++ (bs.map fun b => match b.1 with
    | .zero => []
    | .codes e cs => saveBlock e cs).flatten

/-- The groups of a list of blocks. -/
def saveGroups : Nat → List (Blk × Bool) → List Byte
  | 0, _ => []
  | n + 1, bs => if bs.isEmpty then [] else saveGroup (bs.take 8) ++ saveGroups n (bs.drop 8)

/-- The byte string of a compressed item. -/
def saveBytes (h : Header) (bs : List (Blk × Bool)) : List Byte :=
  leBytes 4 bs.length ++ [h.codebook, h.tscale] ++ leBytes 2 h.epoch.toNat ++ saveGroups bs.length bs

/-! ## Decoding (R393) -/

/-- A block decoded from bytes at an offset: the block and the offset after it, or the offset of the first byte that
does not decode. -/
def restBlock (bs : List Byte) (o : Nat) : Except Nat (Blk × Nat) :=
  if bs.length < o + 2 then .error bs.length
  else
    let e := leAt bs o 1
    let p := leAt bs (o + 1) 1
    if 8 ≤ p then .error (o + 1)
    else if bs.length < o + 2 + 4 * (p + 1) then .error bs.length
    else
      let plane := fun k => leAt bs (o + 2 + 4 * k) 4
      .ok (.codes e ((List.range 32).map fun j =>
        wrapInt (sext ((List.range (p + 1)).foldl (fun a k => a + ofBool (bitAt (plane k) j) <<< k) 0) (p + 1)) 8),
        o + 2 + 4 * (p + 1))

/-- The blocks of a group from place i on, with Z and P. -/
def restBlocks (bs : List Byte) (z p : Nat) : Nat → Nat → Nat → Except Nat (List (Blk × Bool) × Nat)
  | 0, _, o => .ok ([], o)
  | n + 1, i, o =>
    let one := if bitAt z i then .ok (Blk.zero, o) else restBlock bs o
    match one with
    | .error x => .error x
    | .ok (b, o') =>
      match restBlocks bs z p n (i + 1) o' with
      | .error x => .error x
      | .ok (r, o'') => .ok ((b, bitAt p i) :: r, o'')

/-- Groups until n blocks are decoded; the fuel bounds the number of groups by the length of the string. -/
def restGroups (bs : List Byte) : Nat → Nat → Nat → Except Nat (List (Blk × Bool) × Nat)
  | 0, n, o => if n = 0 then .ok ([], o) else .error bs.length
  | f + 1, n, o =>
    if n = 0 then .ok ([], o)
    else if bs.length < o + 2 then .error bs.length
    else
      let z := leAt bs o 1
      let p := leAt bs (o + 1) 1
      let k := Nat.min n 8
      if (List.range 8).any fun i => decide (k ≤ i) && !(bitAt z i) then .error o
      else match restBlocks bs z p k 0 (o + 2) with
        | .error x => .error x
        | .ok (r, o') =>
          match restGroups bs f (n - k) o' with
          | .error x => .error x
          | .ok (r', o'') => .ok (r ++ r', o'')

/-- A compressed item decoded: CODEBOOK, TSCALE, EPOCH and its blocks with their P bits, or the offset of the first
undecodable byte. -/
def restBytes (bs : List Byte) : Except Nat (Nat × Nat × Nat × List (Blk × Bool)) :=
  let n := leAt bs 0 4
  if bs.length < 8 then .error bs.length
  else if n = 0 then .error 0
  else match restGroups bs bs.length n 8 with
    | .error x => .error x
    | .ok (r, o) =>
      match ((bs.drop o).findIdx? fun b => decide (b ≠ 0)) with
      | some i => .error (o + i)
      | none => .ok (leAt bs 4 1, leAt bs 5 1, leAt bs 6 2, r)

/-! ## The save queue -/

/-- The operation at the head of the save queue leaves it. -/
def Device.popSaveQ (d : Device) (c : CoreId) : Device := d.onTensor c fun t => { t with saveQ := t.saveQ.drop 1 }

/-- A packet of the save form. -/
def savePacket (h : Header) (bytes : List Byte) (poison : Bool) : Packet :=
  ⟨{ h with width := 0, codebook := 0, blocks := 0, zmask := false, compressed := true, poison := poison
            len := .ofNat 11 bytes.length }, bytes⟩

/-- Packets of at most 1,024 bytes. -/
def cutBytes : Nat → List Byte → List (List Byte)
  | 0, _ => []
  | n + 1, bs => if bs.isEmpty then [] else bs.take 1024 :: cutBytes n (bs.drop 1024)

/-- What the source of a save or restore has: the next item, nothing yet, or no more, or an unusable handle. -/
inductive RawSrc where
  | wait
  | bad
  | ended
  | item (st : Stream) (ps : List Packet)

/-- The source of an operation that copies items whatever their epoch. -/
def Device.rawSrc (d : Device) (c : CoreId) (h : Nat) : RawSrc :=
  match d.stream c h with
  | none => .bad
  | some st =>
    if st.drives.isSome ∨ sdDir st.desc.toNat ≠ 0 then .bad
    else match st.next (d.tensor c) with
      | some it => .item st it.pkts
      | none => if d.isOver c h st then .ended else .wait

/-- BSAVE of one item (R298, R390 to R392). The stream unit, which copies it, has consumed the poison that the item carries (R36). -/
def Device.saveItem (d : Device) (c : CoreId) (op : TOp) (h : Nat) (ps : List Packet) : Device :=
  let p0 := (ps.headD ⟨coreHdr c 0x04 op.tag op.epoch, []⟩).hdr
  let hdr := { coreHdr c 0x04 op.tag p0.epoch with tscale := p0.tscale }
  let d1 := (d.badHeaders c true ps).consumed c 0x04 op.tag (ps.any fun p => pktBad p)
  match ps.find? fun p => decide (p.hdr.width.toNat ≠ 8) with
  | some p =>
    (d1.trecFault c 0x04 0x8010 true op.tag [(2, 1, p.hdr.width.toNat)]).acceptItem c h op.tag
      (markLast [savePacket hdr [] true])
  | none =>
    let bs := (itemBlocks ps).map fun b => (b.2.1, b.2.2)
    let bytes := saveBytes p0 bs
    d1.acceptItem c h op.tag (markLast ((cutBytes (bytes.length + 1) bytes).map fun b => savePacket hdr b false))

/-- BREST of one item (R297, R393, R636). -/
def Device.restoreItem (d : Device) (c : CoreId) (op : TOp) (h : Nat) (o : Stream) (ps : List Packet) : Device :=
  let p0 := (ps.headD ⟨coreHdr c 0x04 op.tag op.epoch, []⟩).hdr
  let bytes := (ps.map fun p => p.payload).flatten
  let dirty := ps.any fun p => p.hdr.poison
  let wide := ps.any fun p => decide (p.hdr.width.toNat ≠ 0)
  let d1 := (d.badHeaders c false ps).consumed c 0x04 op.tag dirty
  match (if wide then .error 0 else restBytes bytes) with
  | .ok (cb, ts, ep, bs) =>
    let t := d1.tileAt c o o.accepted
    let per := Nat.max 1 ((t.cols + 31) / 32)
    let outs := bs.zipIdx.map fun b => match b.1.1 with
      | .zero => (⟨b.2 / per, 8, cb, ts, true, 0, List.replicate 32 0, [], b.1.2 || dirty⟩ : OutBlk)
      | .codes e cs => ⟨b.2 / per, 8, cb, ts, false, e, cs, [], b.1.2 || dirty⟩
    d1.acceptItem c h op.tag (packOut (coreHdr c 0x04 op.tag (BitVec.ofNat 16 ep)) 8 outs)
  | .error off =>
    if dirty then
      let hdr := { coreHdr c 0x04 op.tag p0.epoch with tscale := p0.tscale, poison := true }
      d1.acceptItem c h op.tag (markLast [⟨hdr, []⟩])
    else (d1.trecFault c 0x04 0x8011 true op.tag [(4, 4, off)]).sendPoison c h op

/-- The save or restore at the head of the queue executes: SAVE_EXECUTE for BSAVE, RESTORE_EXECUTE for BREST. -/
def Device.saveHead (d : Device) (c : CoreId) (opc : Nat) : Device :=
  let t := d.tensor c
  match t.saveQ with
  | [] => d
  | op :: _ =>
    let a := op.ins.a.toNat
    let h := op.ins.d.toNat
    if op.opc ≠ opc ∨ !(t.turns op) then d
    else
      let room := match d.stream c h with
        | none => true
        | some st => decide (sdDir st.desc.toNat ≠ 1) || st.room
      if !room then d
      else match d.rawSrc c a with
      | .wait => d
      | src =>
        let d0 := ((d.popSaveQ c).useHandle c op a 0).1
        let ok := d0.useHandle c op h 1
        let d1 := ok.1
        match src with
        | .item st ps =>
          let d2 := d1.putStream c a st.pop
          (match d2.stream c h with
           | none => d2
           | some o => if !ok.2 then d2 else if opc = 0xD8 then d2.saveItem c op h ps else d2.restoreItem c op h o ps)
        | .ended => let d2 := d1.streamEnd c op.tag a; if ok.2 then d2.sendPoison c h op else d2
        | _ => if ok.2 then d1.sendPoison c h op else d1

end Sys2Proof.Machine
end

