-- ==== Sys2Proof/Machine/Update.lean ====
section
/-!
DEFINITION. The update unit (R299 to R305, R411) and the tee of its writes into a checkpoint (R520).
-/
namespace Sys2Proof.Machine

/-! ## The tee (R517, R520, R522) -/

/-- This module's seat and FEED straps. -/
def Device.seat (d : Device) : Nat := d.rf Reg.tableStat 3 0

/-- The work slot of a seat in the current roster; none where it is not working (R487). -/
def Device.slotOf (d : Device) (seat : Nat) : Option Nat :=
  if seat ≤ 8 ∧ d.rf (Reg.roster seat) 2 0 = 1 then some (d.rf (Reg.roster seat) 23 20) else none

/-- A checkpoint fails: CKPT_ABORT, and the previous generation stands (R522). -/
def Device.ckptAbort (d : Device) (cause : Nat) : Device :=
  match d.surv.ckpt with
  | none => d
  | some k =>
    { d with surv := { d.surv with ckpt := none, fresh := true } }.emit (srcHub 0x3F 0) 0xB002 .deferred false
      (detail [(0, 4, k.step), (4, 1, cause)])

/-- Size of a slot of one generation of the store, in bytes. -/
def Device.slotBytes (d : Device) : Nat := d.rf Reg.ckptSize 31 0 * 2 ^ 30

/-- Host address of offset x of generation g of slot n of the store (R517). -/
def Device.storeAddr (d : Device) (g n x : Nat) : Nat :=
  d.rf Reg.ckptStore 63 12 * 4096 + (8 * g + n) * d.slotBytes + x

/-- A write of an update unit at a device address is copied to the store where it falls in the state window during the
checkpoint step, with the poison that memory then holds, and the tensors it falls in are written (R521); a poisoned one makes the
checkpoint fail (R520). -/
def Device.tee (d : Device) (step a : Nat) (bs : List Byte) (p : Bool) : Device :=
  match d.surv.ckpt, d.slotOf d.seat with
  | some k, some n =>
    let b := d.rf Reg.stateBase 51 21 * 2 ^ 21
    if k.step ≠ step ∨ a < b ∨ b + d.slotBytes < a + bs.length ∨ !(d.rbit Reg.ckptStore 0) then d
    else
      let wrote := (d.surv.registry.filter fun e =>
        decide (e.slot = n) && decide (a < e.base + e.bytes) && decide (e.base < a + bs.length)).map fun e => e.tensor
      let d0 := { d with surv := { d.surv with ckpt := some { k with written := wrote.foldl sinsert k.written } } }
      let d1 := d0.send (.hostWrite 0 none (d.storeAddr k.gen n (65536 + (a - b))) bs p)
      if p then d1.ckptAbort 1 else d1
  | _, _ => d

/-! ## Arithmetic (R303) -/

/-- The square root rounded once. -/
def sqrt32 (a : El) : El := f32 (elSqrt a)

/-- sign(c). -/
def sign32 (c : El) : El :=
  match c.v with
  | .nan => elNan
  | _ => if c.isZero then elZero false else elFin (if c.sign then -1 else 1)

/-! ## The descriptor (R300) -/

/-- An update descriptor: its 128 bytes and the program. -/
structure UpdDesc where
  prog : Nat
  bytes : List Byte

/-- MASTER. -/
def UpdDesc.master (u : UpdDesc) : Nat := leAt u.bytes 0 8
/-- GRAD. -/
def UpdDesc.grad (u : UpdDesc) : Nat := leAt u.bytes 8 8
/-- MOM1. -/
def UpdDesc.mom1 (u : UpdDesc) : Nat := leAt u.bytes 16 8
/-- MOM2, the row factors of program 3. -/
def UpdDesc.mom2 (u : UpdDesc) : Nat := leAt u.bytes 24 8
/-- WORK. -/
def UpdDesc.work (u : UpdDesc) : Nat := leAt u.bytes 32 8
/-- COLF. -/
def UpdDesc.colf (u : UpdDesc) : Nat := leAt u.bytes 40 8
/-- COUNT. -/
def UpdDesc.count (u : UpdDesc) : Nat := leAt u.bytes 48 5
/-- TSC_ENTRY. -/
def UpdDesc.tscEntry (u : UpdDesc) : Nat := leAt u.bytes 53 1
/-- A bit of FLAGS: 0 DECOUPLED, 1 NESTEROV, 2 WORK_EN, 3 WORK_SR, 4 TSC_OUT, 5 M1_EN. -/
def UpdDesc.flag (u : UpdDesc) (i : Nat) : Bool := bitAt (leAt u.bytes 54 1) i
/-- INDEX_BASE. -/
def UpdDesc.indexBase (u : UpdDesc) : Nat := leAt u.bytes 56 5
/-- SEED. -/
def UpdDesc.seed (u : UpdDesc) : Nat := leAt u.bytes 64 8
/-- TENSOR. -/
def UpdDesc.tensor (u : UpdDesc) : Nat := leAt u.bytes 72 4
/-- ROWS. -/
def UpdDesc.rows (u : UpdDesc) : Nat := leAt u.bytes 76 4
/-- Format reference k: 0 FMT_GRAD, 1 FMT_MOM1, 2 FMT_MOM2, 3 FMT_WORK. -/
def UpdDesc.fmt (u : UpdDesc) (k : Nat) : Nat := leAt u.bytes (80 + 4 * k) 4
/-- FP32 constant k: LR, BETA1, BETA2, EPS, WD, C1, C2, GSCALE. -/
def UpdDesc.const (u : UpdDesc) (k : Nat) : El := elOf (leAt u.bytes (96 + 4 * k) 4) false
/-- WD is not +0. -/
def UpdDesc.decay (u : UpdDesc) : Bool := decide (leAt u.bytes 112 4 ≠ 0)
/-- The first moment is used. -/
def UpdDesc.useM1 (u : UpdDesc) : Bool := decide (u.prog ≠ 3) || u.flag 5
/-- The second moment is used. -/
def UpdDesc.useM2 (u : UpdDesc) : Bool := decide (u.prog = 0)
/-- Number of blocks. -/
def UpdDesc.blocks (u : UpdDesc) : Nat := (u.count + 31) / 32

/-- What is wrong with a descriptor that was read: the cause of UPDATE_DESC (R305, R306). -/
def UpdDesc.cause (u : UpdDesc) : Option Nat :=
  let used := [(0, 2, true), (1, 3, u.useM1), (2, 3, u.useM2), (3, 0, u.flag 2)]
  if leAt u.bytes 55 1 ≠ 0 ∨ leAt u.bytes 61 3 ≠ 0 ∨ u.flag 6 = true ∨ u.flag 7 = true
      ∨ used.any (fun x => x.2.2 && decide (bitsOf (u.fmt x.1) 15 13 ≠ 0)) = true then some 1
  else if u.count = 0 ∨ (u.flag 4 = true ∧ u.count ≠ 1) ∨ (u.prog = 3 ∧ (u.rows = 0 ∨ u.count % u.rows ≠ 0)) then some 2
  else if used.any fun x => x.2.2 && decide (fmtRole (u.fmt x.1) ≠ x.2.1) then some 3
  else none

/-- Programs 0 to 2 applied to one parameter: master weight, gradient and moments; answers the new master weight and
moments (R303). -/
def UpdDesc.param (u : UpdDesc) (w gc m v : El) : El × El × El :=
  let lr := u.const 0
  let b1 := u.const 1
  let b2 := u.const 2
  let wd := u.const 4
  let n1 := sub32 (elFin 1) b1
  let n2 := sub32 (elFin 1) b2
  let g0 := mul32 (u.const 7) gc
  match u.prog with
  | 0 =>
    let g := if !(u.flag 0) && u.decay then add32 g0 (mul32 wd w) else g0
    let m' := add32 (mul32 b1 m) (mul32 n1 g)
    let v' := add32 (mul32 b2 v) (mul32 n2 (mul32 g g))
    let x := div32 (mul32 m' (u.const 5)) (add32 (sqrt32 (mul32 v' (u.const 6))) (u.const 3))
    let x' := if u.flag 0 && u.decay then add32 x (mul32 wd w) else x
    (sub32 w (mul32 lr x'), m', v')
  | 1 =>
    let g := if u.decay then add32 g0 (mul32 wd w) else g0
    let m' := add32 (mul32 b1 m) g
    let x := if u.flag 1 then add32 g (mul32 b1 m') else m'
    (sub32 w (mul32 lr x), m', v)
  | _ =>
    let c := add32 (mul32 b1 m) (mul32 n1 g0)
    let w' := sub32 w (mul32 lr (add32 (sign32 c) (mul32 wd w)))
    (w', add32 (mul32 b2 m) (mul32 n2 g0), v)

/-! ## Memory and formats -/

/-- Every byte of a range of a function's space can be accessed. -/
def State.rangeOk (s : State) (f va n : Nat) (acc : Access) : Bool :=
  (pieces va n).all fun p => (s.translateMem f p.1 acc).isSome

/-- Addresses of the exponent byte and the codes of block b of a tensor with slots of w bits (R108). -/
def blkAddr (base w b : Nat) : Nat × Nat := let o := sdBlockOff w b; (base + o.1, base + o.2)

/-- A block of a tensor can be accessed. -/
def State.blkOk (s : State) (f base w b : Nat) (acc : Access) : Bool :=
  let a := blkAddr base w b
  s.rangeOk f a.1 1 acc && s.rangeOk f a.2 (4 * w) acc

/-- Bytes read from a function's space that can be accessed. -/
def State.getV (s : State) (f va n : Nat) : List Byte × Bool := (s.loadV f va n).getD (freeBytes s.dev.fresh n, true)

/-- n FP32 values. -/
def State.getF32 (s : State) (f va n : Nat) : List El × Bool :=
  let r := s.getV f va (4 * n)
  ((List.range n).map fun i => elOf (leAt r.1 (4 * i) 4) false, r.2)

/-- Bytes written by the update unit, copied by the tee (R520). -/
def State.putV (s : State) (f step va : Nat) (bs : List Byte) (p : Bool) : State :=
  (pieces va bs.length).foldl (fun s q =>
    match s.translateMem f q.1 ⟨false, true⟩ with
    | none => s
    | some a =>
      let cut := slice bs (q.1 - va) q.2
      let s1 := s.store a cut p
      s1.onDev fun d => d.tee step a cut (s1.poisoned a cut.length)) s

/-- FP32 values as bytes. -/
def f32Bytes (xs : List El) : List Byte := (xs.map fun e => leBytes 4 (toFp32 .nearest e.neg0 e.v).1).flatten

/-- The 32 exact values of an 8-bit input block of format reference fmt, with its poison: role gradient or moment, so
codebook and tensor-scale entry stand in the reference; the scale is read in the generation given (R97, R302), none:
no generation of the cluster has its epoch and the block is poisoned (R211). -/
def State.getBlock (s : State) (cl : ClusterId) (f : Nat) (gen : Option Nat) (fmt base b : Nat) : List El × Bool :=
  let a := blkAddr base 8 b
  let e := s.getV f a.1 1
  let cs := s.getV f a.2 32
  let zeros := List.replicate 32 (elZero false)
  let lost := gen.isNone && !(s.dev.pinned cl (fmtTs fmt))
  let ts := s.dev.tscale cl (if s.dev.pinned cl (fmtTs fmt) then 0 else gen.getD 0) (fmtTs fmt)
  match s.dev.codebook cl (fmtCb fmt) with
  | .found cb =>
    if lost || !(tsValid ts) then (zeros, true)
    else
      match blockFromMem cb (leNat e.1) ((unpackCodes 8 cs.1).map fun c => c % 2 ^ cb.width) with
      | .zero => (zeros, e.2 || cs.2)
      | .codes x codes =>
        if x = 0xFF then (zeros.map fun _ => elNan, true)
        else (codes.map fun c => elFin (cb.value c * pow2 ((x : Int) - 127) * fp32Rat (tsValue ts)), e.2 || cs.2)
  | _ => (zeros, true)

/-- The generation in which an UPD reads input k: 0 the gradient, in its own expected epoch; the moments, written by the
update pass of the step before, in the epoch before it while the width controller is in service (R210, R211, DEDUCED, log 16). -/
def Device.inputGen (d : Device) (cl : ClusterId) (op : TOp) (k : Nat) : Option Nat :=
  if d.rbit (Reg.wcCtl cl) 0 = false then some ((d.genOf cl op.epoch).getD 0)
  else d.genOf cl (if k = 0 then op.epoch else op.epoch - 1)

/-- A record of the update unit about an operation of a core. -/
def Device.urec (d : Device) (c : CoreId) (code : Nat) (cls : EvClass) (poison : Bool) (tag : W16)
    (det : List (Nat × Nat × Nat)) : Device :=
  d.emit (srcClu (cluOfCore c) 0x12) code cls poison (detail ((0, 2, tag.toNat) :: det)) (d.originOf c)

/-- A new update operation reports the slots and scale entries it finds invalid anew (R95, R103): what earlier ones of its tag reported of
theirs, k from 20 on, is forgotten. -/
def Device.updFresh (d : Device) (c : CoreId) (tag : W16) : Device :=
  let t := d.tensor c
  d.setTensor c { t with once := t.once.filter fun x => !(decide (x.2.1 = tag.toNat) && decide (20 ≤ x.2.2)) }

/-- A record of the update unit emitted once for each operation tag; `k` tells records of one code apart. -/
def Device.urecOnce (d : Device) (c : CoreId) (code : Nat) (tag : W16) (k : Nat) (det : List (Nat × Nat × Nat)) : Device :=
  let t := d.tensor c
  if t.once.contains (code, tag.toNat, k) then d
  else (d.setTensor c { t with once := (code, tag.toNat, k) :: t.once }).urec c code .deferred true tag det

/-- UPDATE_DESC with its cause and the first block not written (R305, R306). -/
def Device.updDesc (d : Device) (c : CoreId) (op : TOp) (cause b : Nat) : Device :=
  (d.urec c 0x8001 .deferred false op.tag [(2, 1, op.ins.imm.toNat), (3, 1, cause), (4, 5, b)]).tfault c 0x8001 op.tag

/-- A block is written to memory in its slots with its poison (R108, R314). -/
def State.putBlock (s : State) (f step base w b : Nat) (width : Nat) (x : Blk) (p : Bool) : State :=
  let a := blkAddr base w b
  let y := slotBytes w width x
  (s.putV f step a.1 [y.1] p).putV f step a.2 y.2 p

/-- The slot width of working codes: the width of the highest rung the layer can reach (R315, DEDUCED, log 15). -/
def Device.workSlot (d : Device) (cl : ClusterId) (gen n : Nat) : Nat :=
  match d.codebook cl (d.rungBook cl (d.topRung cl gen n)) with
  | .found cb => cb.width
  | _ => 8

/-- The reduction blocks that index the block width map for the WORK blocks of an update (R302). -/
def UpdDesc.mapIndices (u : UpdDesc) (mb : Nat) : List Nat := List.range (if mb = 0 then 1 else Nat.min mb u.blocks)

/-- The group that an output tensor of an update ends within is filled with zero blocks, before its first block is written (R108). -/
def State.fillOutput (s : State) (f step base slot blocks b : Nat) : State :=
  if b % 8 ≠ 0 ∨ b + 8 ≤ blocks then s
  else (List.range (b + 8 - blocks)).foldl (fun s i => s.putBlock f step base slot (blocks + i) 1 .zero false) s

/-- One output block of an update: k is 1 for MOM1, 2 for MOM2, 3 for WORK (R302, R305). A target whose codebook, entry,
layer or map area is invalid has its whole output written poisoned with no stated value (R188, R287). -/
def State.updBlock (s : State) (c : CoreId) (op : TOp) (u : UpdDesc) (k base b : Nat) (xs : List El) (bad : Bool) : State :=
  let cl := cluOfCore c
  let d := s.dev
  let f := op.fn
  let gen := (d.genOf cl op.epoch).getD 0
  let fmt := u.fmt k
  let n := fmtLayer fmt
  let key : Option DrawKey := if k < 3 ∨ u.flag 3 = true then some ⟨u.seed, 1, op.step, u.tensor + (k - 1)⟩ else none
  let g : Tgt := ⟨2, false, fmt, key⟩
  let slot := if k = 3 then d.workSlot cl gen n else 8
  let mb := d.mapBlocks cl gen n
  let book := if k = 3 then s.blockBook cl gen n 0 (if mb = 0 then 0 else b % mb) else some (fmtCb fmt)
  let lost := fun (s : State) =>
    let w := Nat.min 8 slot
    let x := Blk.codes (Config.poisonData s.dev.fresh 0).toNat
      ((List.range 32).map fun j => (Config.poisonData s.dev.fresh (j + 1)).toNat % 2 ^ w)
    (s.putBlock f op.step base slot b w x true).onDev fun d => (d.scPoison cl n).takeFresh
  let s := s.fillOutput f op.step base slot u.blocks b
  match s.tgtFault cl gen g (if k = 3 then u.mapIndices mb else []) with
  | some (code, det) =>
    if d.tensor c |>.once.contains (code, op.tag.toNat, 20 + k) then lost s
    else lost (s.onDev fun d => (d.urecOnce c code op.tag (20 + k) det).tfault c code op.tag)
  | none =>
    match book with
    | none => lost s
    | some id =>
      match d.codebook cl id with
      | .found cb =>
        let ts := d.tgtEntry cl gen g
        let tv := tsValue (d.tscale cl gen ts)
        let t := fp32Rat tv
        let vals := (xs.map fun e => e.v) ++ List.replicate (32 - xs.length) (.fin 0)
        let index := fun j => u.indexBase + 32 * b + j
        let r := convertBlock cb vals t false (fun j => roundingAt key (index j)) xs.length
        let p := bad || r.blk.dead
        let s1 := s.putBlock f op.step base slot b cb.width r.blk p
        s1.onDev fun d =>
          let d1 := d.countBlock cl gen n ts (index 0) t (xs.map fun e => { e with poison := bad }) r
          let d2 := if r.blk.dead then d1.urec c 0x2001 .deferred true op.tag [(2, 2, ts), (4, 5, index 0)] else d1
          if r.rangeSat && !((d2.unitsOf cl).ranged.contains ts) then
            let v := d2.unitsOf cl
            (d2.setUnits cl { v with ranged := sinsert v.ranged ts }).urec c 0x2002 .notice false op.tag
              [(2, 1, ts), (4, 4, tv)]
          else d2
      | _ => lost s

/-- TSC_OUT: the new master value goes to CLU.TSCALE_NEXT, or is refused; while CLU.WC_STAT.NEXT_READY = 0 the write waits (R304). -/
def Device.tscOut (d : Device) (c : CoreId) (op : TOp) (u : UpdDesc) (w : El) (bad : Bool) : Device :=
  let cl := cluOfCore c
  let v := (toFp32 .nearest w.neg0 w.v).1
  let e := bitsOf v 30 23
  if bad || bitAt v 31 || decide (e = 0) || decide (e = 255) then
    d.urec c 0x8003 .notice bad op.tag [(2, 1, u.tscEntry), (4, 4, v)]
  else if d.rbit (Reg.wcStat cl) 2 then d.setRf (Reg.tscaleNext cl u.tscEntry) 31 0 v
  else d.setUnits cl { d.unitsOf cl with tscHeld := some (u.tscEntry, BitVec.ofNat 32 v) }

/-- The outputs of one block: MASTER, moments, working codes, and TSC_OUT (R302, R304, R305). Blocks of no moment are
given as none. -/
def State.updOut (s : State) (c : CoreId) (op : TOp) (u : UpdDesc) (b : Nat) (ws : List El) (ms vs : Option (List El))
    (bad : Bool) : State :=
  let f := op.fn
  let s1 := s.putV f op.step (u.master + 128 * b) (f32Bytes ws) bad
  let s2 := match ms with
    | some xs => s1.updBlock c op u 1 u.mom1 b xs bad
    | none => s1
  let s3 := match vs with
    | some xs => s2.updBlock c op u 2 u.mom2 b xs bad
    | none => s2
  let s4 := if u.flag 2 then s3.updBlock c op u 3 u.work b ws bad else s3
  s4.onDev fun d =>
    let d1 := d.addRf (Reg.cluCnt (cluOfCore c) 13) 47 0 ws.length
    if u.flag 4 then d1.tscOut c op u (ws.headD elNan) bad else d1

/-- The progress of an update program: the state, the first poisoned block, and the block that stopped it. -/
structure UpdRun where
  s : State
  bad : Option Nat
  stop : Option Nat

/-- Every output a block writes and every input it reads can be accessed. -/
def State.updOk (s : State) (c : CoreId) (op : TOp) (u : UpdDesc) (b : Nat) : Bool :=
  let f := op.fn
  let n := Nat.min 32 (u.count - 32 * b)
  let cl := cluOfCore c
  let slot := s.dev.workSlot cl ((s.dev.genOf cl op.epoch).getD 0) (fmtLayer (u.fmt 3))
  s.rangeOk f (u.master + 128 * b) (4 * n) ⟨true, true⟩
    && (decide (u.prog = 3) || s.blkOk f u.grad 8 b ⟨true, false⟩)
    && (!u.useM1 || s.blkOk f u.mom1 8 b ⟨true, true⟩)
    && (!u.useM2 || s.blkOk f u.mom2 8 b ⟨true, true⟩)
    && (!(u.flag 2) || s.blkOk f u.work slot b ⟨false, true⟩)

/-- Programs 0 to 2 (R303, R305): block by block until an address fails. -/
def State.updBlocks (s : State) (c : CoreId) (op : TOp) (u : UpdDesc) : UpdRun :=
  let cl := cluOfCore c
  let gen := s.dev.inputGen cl op
  (List.range u.blocks).foldl (fun (a : UpdRun) b =>
    if a.stop.isSome then a
    else if !(a.s.updOk c op u b) then { a with stop := some b }
    else
      let n := Nat.min 32 (u.count - 32 * b)
      let w := a.s.getF32 op.fn (u.master + 128 * b) n
      let g := a.s.getBlock cl op.fn (gen 0) (u.fmt 0) u.grad b
      let m := a.s.getBlock cl op.fn (gen 1) (u.fmt 1) u.mom1 b
      let v := if u.useM2 then a.s.getBlock cl op.fn (gen 2) (u.fmt 2) u.mom2 b else (List.replicate 32 (elZero false), false)
      let rs := (List.range n).map fun i =>
        u.param (w.1.getD i elNan) (g.1.getD i elNan) (m.1.getD i elNan) (v.1.getD i elNan)
      let ws := rs.map fun r => r.1
      let ms := rs.map fun r => r.2.1
      let vs := rs.map fun r => r.2.2
      let bad := w.2 || g.2 || m.2 || v.2 || !((ws ++ ms).all El.finite) || (u.useM2 && !(vs.all El.finite))
      { s := a.s.updOut c op u b ws (some ms) (if u.useM2 then some vs else none) bad
        bad := a.bad.or (if bad then some b else none)
        stop := none }) ⟨s, none, none⟩

/-- Program 3 (R303, R305): the factors from every gradient, then the parameters; poison anywhere poisons every output.
-/
def State.updFactored (s : State) (c : CoreId) (op : TOp) (u : UpdDesc) : UpdRun :=
  let cl := cluOfCore c
  let f := op.fn
  let gen := s.dev.inputGen cl op
  let cols := u.count / u.rows
  let first := s.rangeOk f u.mom2 (4 * u.rows) ⟨true, true⟩ && s.rangeOk f u.colf (4 * cols) ⟨true, true⟩
    && (List.range u.blocks).all fun b => s.blkOk f u.grad 8 b ⟨true, false⟩
  if !first then ⟨s, none, some 0⟩
  else
    let gs := (List.range u.blocks).map fun b => s.getBlock cl f (gen 0) (u.fmt 0) u.grad b
    let g := ((gs.map fun x => x.1).flatten.take u.count).map fun x => mul32 (u.const 7) x
    let r0 := s.getF32 f u.mom2 u.rows
    let c0 := s.getF32 f u.colf cols
    let b2 := u.const 2
    let n2 := sub32 (elFin 1) b2
    let n1 := sub32 (elFin 1) (u.const 1)
    let q := g.map fun x => add32 (mul32 x x) (u.const 3)
    let at' := fun (l : List El) i => l.getD i elNan
    let r := (List.range u.rows).map fun i =>
      add32 (mul32 b2 (at' r0.1 i)) (mul32 n2 (div32 (sum32 ((q.drop (i * cols)).take cols)) (elFin (cols : Rat))))
    let k := (List.range cols).map fun j =>
      add32 (mul32 b2 (at' c0.1 j)) (mul32 n2 (div32 (sum32 ((List.range u.rows).map fun i => at' q (i * cols + j)))
        (elFin (u.rows : Rat))))
    let tot := sum32 r
    let stop := (List.range u.blocks).find? fun b => !(s.updOk c op u b)
    let done := stop.getD u.blocks
    let bad0 := (gs.any fun x => x.2) || r0.2 || c0.2 || !((tot :: (r ++ k)).all El.finite)
    let outs := (List.range done).map fun b =>
      let n := Nat.min 32 (u.count - 32 * b)
      let w := s.getF32 f (u.master + 128 * b) n
      let m := if u.flag 5 then s.getBlock cl f (gen 1) (u.fmt 1) u.mom1 b else (List.replicate 32 (elZero false), false)
      let rs := (List.range n).map fun i =>
        let j := 32 * b + i
        let x := div32 (at' g j) (sqrt32 (div32 (mul32 (at' r (j / cols)) (at' k (j % cols))) tot))
        let x' := if u.flag 5 then add32 (mul32 (u.const 1) (at' m.1 i)) (mul32 n1 x) else x
        let w0 := at' w.1 i
        (sub32 w0 (mul32 (u.const 0) (add32 x' (mul32 (u.const 4) w0))), x')
      (rs.map (fun x => x.1), rs.map (fun x => x.2), w.2 || m.2 || !(rs.all fun x => x.1.finite && x.2.finite))
    let bad := bad0 || outs.any fun x => x.2.2
    let s1 := (s.putV f op.step u.mom2 (f32Bytes r) bad).putV f op.step u.colf (f32Bytes k) bad
    let s2 := outs.zipIdx.foldl (fun s x => s.updOut c op u x.2 x.1.1 (if u.flag 5 then some x.1.2.1 else none) none bad) s1
    ⟨s2, if bad then some 0 else none, stop⟩

/-- Records about the formats and epochs of what a program reads (R95, R103, R211). -/
def Device.updInputs (d : Device) (c : CoreId) (op : TOp) (u : UpdDesc) : Device :=
  let cl := cluOfCore c
  let gen := fun k => (d.inputGen cl op k).getD 0
  [(0, true), (1, u.useM1), (2, u.useM2)].foldl (fun d x =>
    if !x.2 then d
    else
      let fmt := u.fmt x.1
      let d1 := match d.codebook cl (fmtCb fmt) with
        | .found _ => d
        | _ => d.urecOnce c 0x2003 op.tag (24 + x.1) [(2, 1, fmtCb fmt)]
      let d2 := if (d.inputGen cl op x.1).isNone && !(d.pinned cl (fmtTs fmt)) then
          d1.urecOnce c 0x4001 op.tag 16 [(2, 2, (if x.1 = 0 then op.epoch else op.epoch - 1).toNat), (4, 2, op.epoch.toNat),
            (6, 2, (d.curEpoch cl).toNat)]
        else d1
      if tsValid (d.tscale cl (if d.pinned cl (fmtTs fmt) then 0 else gen x.1) (fmtTs fmt)) then d2
      else d2.urecOnce c 0x2004 op.tag (24 + x.1) [(2, 1, fmtTs fmt)]) d

/-! ## The queue (R299, R409) -/

/-- A wire command waits for the update unit of a cluster, or is in it (R403, R409). -/
def Device.wireWaits (d : Device) (cl : ClusterId) : Bool :=
  d.rbit (Reg.wireRing cl) 0 && decide (d.rf (Reg.wireStat cl) 6 0 ≠ d.rf (Reg.wireTail cl) 6 0)

/-- The update operation at the head of the queue is one the update unit can take: its epoch is reached (R208). -/
def Device.updateReady (d : Device) (cl : ClusterId) : Bool :=
  match (d.unitsOf cl).updates with
  | [] => false
  | (ck, op) :: _ => d.epochReached (coreOf ck) op.epoch

/-- It is the turn of the wire command at the ring's head: no update operation that can be served reached the unit before it (R409). -/
def Device.wireTurn (d : Device) (cl : ClusterId) : Bool :=
  d.wireWaits cl && (decide ((d.unitsOf cl).wireAhead = 0) || !(d.updateReady cl))

/-- A wire command reaches the update unit, behind the update operations that wait there (R409). -/
def Device.wireArrives (d : Device) (cl : ClusterId) : Device :=
  let u := d.unitsOf cl
  d.setUnits cl { u with wireAhead := u.updates.length, wireAt := d.clock }

/-- An update operation reaches the update unit; one that does in the same reference cycle as the wire command that waits goes before
it (R409, DEDUCED, log 184). -/
def Device.updateArrives (d : Device) (c : CoreId) (op : TOp) : Device :=
  let cl := cluOfCore c
  let u := d.unitsOf cl
  let first := d.wireWaits cl && decide (u.wireAt = d.clock) && decide (u.wireAhead = u.updates.length)
  d.setUnits cl { u with updates := u.updates ++ [(coreKey c, op)], wireAhead := u.wireAhead + ofBool first }

/-- The update operation at the head of the queue is done. -/
def Device.updateDone (d : Device) (cl : ClusterId) : Device :=
  let u := d.unitsOf cl
  d.setUnits cl { u with updates := u.updates.drop 1, wireAhead := u.wireAhead - 1, tscHeld := none }

/-- An update program with a good descriptor runs: its inputs are read, its blocks computed and written, its records emitted (R303 to
R306). -/
def State.runUpdate (s : State) (c : CoreId) (op : TOp) (u : UpdDesc) : State :=
  let s2 := s.onDev fun d => (d.updFresh c op.tag).updInputs c op u
  let r := if u.prog = 3 then s2.updFactored c op u else s2.updBlocks c op u
  r.s.onDev fun d =>
    let d1 := match r.bad with
      | some b => d.urec c 0x8002 .deferred true op.tag [(2, 1, u.prog), (4, 5, u.indexBase + 32 * b)]
      | none => d
    match r.stop with
    | some b => d1.updDesc c op 4 b
    | none => d1

/-- The update unit of a cluster serves the operation at the head of its queue, unless a wire command reached the unit before it (R208,
R299 to R305, R409). One whose write of a tensor scale waits stays at the head until NEXT_READY (R304). -/
def State.updateHead (s : State) (cl : ClusterId) : State :=
  match (s.dev.unitsOf cl).updates with
  | [] => s
  | (ck, op) :: _ =>
    let c := coreOf ck
    if !(s.dev.epochReached c op.epoch) || s.dev.wireTurn cl then s
    else match (s.dev.unitsOf cl).tscHeld with
    | some (i, v) =>
      if s.dev.rbit (Reg.wcStat cl) 2 then
        s.onDev fun d => (d.setRf (Reg.tscaleNext cl i) 31 0 v.toNat).updateDone cl
      else s
    | none =>
      let refuse := fun (k : Nat) => s.onDev fun d => (d.updateDone cl).updDesc c op k 0
      match s.loadV op.fn op.x.toNat 128 with
      | none => refuse 0
      | some (bs, true) => let _ := bs; refuse 0
      | some (bs, false) =>
        let u : UpdDesc := ⟨op.ins.imm.toNat, bs⟩
        match u.cause with
        | some k => refuse k
        | none =>
          let s1 := s.runUpdate c op u
          if (s1.dev.unitsOf cl).tscHeld.isSome then s1 else s1.onDev fun d => d.updateDone cl

end Sys2Proof.Machine
end

