-- ==== Sys2Proof/Machine/Mirror.lean ====
section
/-!
DEFINITION. The register block of a compute core as read, and the counter mirror through which the core's own loads read it
(R148, R349, R606).
-/
namespace Sys2Proof.Machine

/-- CORE.STREAM_STAT as read (R349). -/
def Device.streamStatValue (d : Device) (c : CoreId) : Nat :=
  let t := d.tensor c
  let mark := fun (f : Stream → Bool) => t.streams.foldl (fun a p => if f p.2 then a ||| (1 <<< (p.1 % 16)) else a) 0
  mark (fun _ => true) + mark (fun st => st.rearm.isSome) <<< 16 + satBits 9 ((t.staging + 1023) / 1024) <<< 32

/-- A register of a compute core's block as read, but for its cycle counter (R148, R349). -/
def Device.coreView (d : Device) (c : CoreId) (off : Nat) : Nat :=
  if off = 0 then d.latStat c else if off = 0x38 then d.streamStatValue c else d.regN (Reg.core c off)

/-- The register of a core's own block that a load in its counter mirror reads; loads from elsewhere read zero (R606). -/
def mirrorOffset (c : CoreId) (a : Nat) : Option Nat :=
  match regionOf a with
  | (.clusterStore x k, o) =>
    if x = c.die ∧ k = c.cluster ∧ isCompute c = true ∧ 0x7F_2000 + 256 * c.core ≤ o ∧ o < 0x7F_2000 + 256 * c.core + 256
    then some (Reg.core c (o - (0x7F_2000 + 256 * c.core))) else none
  | _ => none

/-- The counter mirror of a core as its own 256-byte load reads it: a word that holds no register reads zero, and the cycle
counter is a free value (R24, R606). -/
def Device.mirrorBytes (d : Device) (c : CoreId) : List Byte :=
  (List.range 32).flatMap fun i =>
    let off := 8 * i
    if (fieldsAt (Reg.core c off)).isNone then List.replicate 8 (0 : Byte)
    else leBytes 8 (if off = 0xC0 then (Config.cycles d.fresh).toNat else d.coreView c off)

end Sys2Proof.Machine
end

