-- ==== Sys2Proof/Machine/Vector.lean ====
section
/-!
DEFINITION. The vector queue (R261, R264, R289 to R295): each operation takes effect in issue order as soon as its
registers, handles and, where it takes a stream's bytes, the item are there.
-/
namespace Sys2Proof.Machine

/-- The operation at the head of the vector queue leaves it. -/
def Device.popVectorQ (d : Device) (c : CoreId) : Device := d.onTensor c fun t => { t with vectorQ := t.vectorQ.drop 1 }

/-- CORE.VEC_CNT counts saturated and non-finite results; both stop at their largest value (R295). -/
def Device.countVec (d : Device) (c : CoreId) (sat nonfin : Nat) : Device :=
  (d.addRf (Reg.vecCnt c) 31 0 sat).addRf (Reg.vecCnt c) 63 32 nonfin

/-- Bytes of a lane by TY. -/
def laneSize (fp32 : Bool) : Nat := if fp32 then 4 else 2

/-- Number of lanes of n bytes. -/
def laneCount (n : Nat) : Nat := 256 / n

/-- An arithmetic instruction lane by lane (R290). -/
def Device.lanewise (d : Device) (c : CoreId) (vd n : Nat) (srcs : List VReg) (f : List El → El) : Device :=
  let rs := (List.range (laneCount n)).map fun j =>
    let ins := srcs.map fun v => laneEl n (v.lane n j)
    (laneOut n ins (f ins), ins.any fun e => e.poison)
  (d.writeV c vd (vregOf n (rs.map fun r => (r.1.1, r.2)))).countVec c ((rs.map fun r => r.1.2.1).sum)
    ((rs.map fun r => r.1.2.2).sum)

/-- The function of an arithmetic instruction (R291). -/
def laneFn (opc : Nat) (ins : List El) : El :=
  let a := ins.getD 0 elNan
  let b := ins.getD 1 elNan
  let c := ins.getD 2 elNan
  match opc with
  | 0xB0 => elAdd a b
  | 0xB1 => elSub a b
  | 0xB2 => elMul a b
  | 0xB3 => elFma a b c
  | 0xB4 => elMin a b
  | 0xB5 => elMax a b
  | 0xB6 => elAbs a
  | 0xB7 => elNeg a
  | 0xB8 => elDiv (elFin 1) a
  | 0xB9 => elRsqrt a
  | 0xBA => elExp2 roots a
  | 0xBB => elLog2 a
  | _ => elDiv a b

/-- A level of VRED's tree: neighbours added in FP32; answers the sums and what they add to SAT and NONFIN (R293). -/
def redLevel : List El → List El × Nat × Nat
  | a :: b :: r =>
    let o := laneOut 4 [a, b] (elAdd a b)
    let t := redLevel r
    (elOf o.1 false :: t.1, o.2.1 + t.2.1, o.2.2 + t.2.2)
  | l => (l, 0, 0)

/-- The sum that VRED returns, with its counts (R293); seven levels serve 128 lanes. -/
def redSum : Nat → List El → El × Nat × Nat
  | 0, l => (l.headD elNan, 0, 0)
  | n + 1, l =>
    if l.length ≤ 1 then (l.headD elNan, 0, 0)
    else
      let q := redLevel l
      let t := redSum n q.1
      (t.1, q.2.1 + t.2.1, q.2.2 + t.2.2)

/-- VRED (R291 to R293). -/
def Device.vred (d : Device) (c : CoreId) (op : TOp) : Device :=
  let n := laneSize (bitAt op.ins.imm.toNat 0)
  let v := (d.tensor c).vreg op.ins.a.toNat
  let xs := (List.range (laneCount n)).map fun j => laneEl n (v.lane n j)
  let p := xs.any fun e => e.poison
  if bitAt op.ins.imm.toNat 1 then
    let m := (xs.drop 1).foldl elMax (xs.headD elNan)
    d.writeS c op.ins.d.toNat ⟨BitVec.ofNat 64 (laneBits 4 (if m.v = .nan then elNan else m)).1, p⟩
  else
    let r := redSum 7 xs
    (d.writeS c op.ins.d.toNat ⟨BitVec.ofNat 64 (laneBits 4 r.1).1, p⟩).countVec c r.2.1 r.2.2

/-- VCVT (R290, R291). -/
def Device.vcvt (d : Device) (c : CoreId) (op : TOp) : Device :=
  let v := (d.tensor c).vreg op.ins.a.toNat
  if bitAt op.ins.imm.toNat 0 then
    let rs := (List.range 64).map fun j => let e := laneEl 4 (v.lane 4 j); (laneOut 2 [e] e, e.poison)
    (d.writeV c op.ins.d.toNat (vregOf 2 (rs.map fun r => (r.1.1, r.2)))).countVec c ((rs.map fun r => r.1.2.1).sum)
      ((rs.map fun r => r.1.2.2).sum)
  else
    d.writeV c op.ins.d.toNat (vregOf 4 ((List.range 64).map fun j => let x := v.lane 2 j; (x.1 * 65536, x.2)))

/-- VCMP (R291, R292). -/
def Device.vcmp (d : Device) (c : CoreId) (op : TOp) : Device :=
  let i := op.ins.imm.toNat
  let n := laneSize (bitAt i 0)
  let va := (d.tensor c).vreg op.ins.a.toNat
  let vb := (d.tensor c).vreg op.ins.b.toNat
  d.writeV c op.ins.d.toNat (vregOf n ((List.range (laneCount n)).map fun j =>
    let a := laneEl n (va.lane n j)
    let b := laneEl n (vb.lane n j)
    (if elCond (bitsOf i 2 1) a b then 2 ^ (8 * n) - 1 else 0, a.poison || b.poison)))

/-- VSEL works on 16-bit lanes, bitwise (R291, R292). -/
def Device.vsel (d : Device) (c : CoreId) (op : TOp) : Device :=
  let t := d.tensor c
  let va := t.vreg op.ins.a.toNat
  let vb := t.vreg op.ins.b.toNat
  let vc := t.vreg op.ins.c.toNat
  d.writeV c op.ins.d.toNat (vregOf 2 ((List.range 128).map fun j =>
    let a := va.lane 2 j
    let b := vb.lane 2 j
    let m := vc.lane 2 j
    (if m.1 ≠ 0 then a.1 else b.1, a.2 || b.2 || m.2)))

/-- VINS (R291). -/
def Device.vins (d : Device) (c : CoreId) (op : TOp) : Device :=
  let i := op.ins.imm.toNat
  let n := laneSize (bitAt i 0)
  let v := (d.tensor c).vreg op.ins.a.toNat
  let k := bitsOf i 7 1
  let val := setBits v.val.toNat (8 * n * k + 8 * n - 1) (8 * n * k) op.x.toNat
  let poi := setBits v.poison.toNat (n / 2 * k + n / 2 - 1) (n / 2 * k) 0
  d.writeV c op.ins.d.toNat ⟨BitVec.ofNat 2048 val, BitVec.ofNat 128 poi⟩

/-- VLD: memory retired since issue answers every lane poisoned (R294); the core's own counter mirror answers its registers
(R606). -/
def State.vld (s : State) (c : CoreId) (op : TOp) : State :=
  let a := op.x.toNat
  if (mirrorOffset c a).isSome then
    s.onDev fun d => (d.writeV c op.ins.d.toNat (vregOf 2 ((List.range 128).map fun j =>
      (leAt (d.mirrorBytes c) (2 * j) 2, false)))).takeFresh
  else if s.presentRange a 256 then
    let bs := (s.load a 256).1
    s.onDev fun d => (d.consumed c 0x02 op.tag (s.poisoned a 256)).writeV c op.ins.d.toNat (vregOf 2 ((List.range 128).map fun j =>
      (leAt bs (2 * j) 2, s.poisoned (a + 2 * j) 2)))
  else
    s.onDev fun d => (d.writeV c op.ins.d.toNat (vregOf 2 ((List.range 128).map fun j =>
      (leNat (freeBytes (d.fresh + j) 2), true)))).takeFresh

/-- VST: each unit of memory that a poisoned lane falls on is poisoned; memory retired since issue is not written (R35,
R294). -/
def State.vst (s : State) (c : CoreId) (op : TOp) : State :=
  let a := op.x.toNat
  let v := (s.dev.tensor c).vreg op.ins.b.toNat
  if s.presentRange a 256 then
    let bs := leBytes 256 v.val.toNat
    let u := poisonUnit a
    (List.range (256 / u)).foldl (fun s i =>
      s.store (a + u * i) (slice bs (u * i) u) (decide (bitsOf v.poison.toNat (u / 2 * i + u / 2 - 1) (u / 2 * i) ≠ 0))) s
  else s

/-- VGET: the next 256 bytes of the current item (R294); packets that break their headers give poison and their records (R57, R390).
The item keeps its buffer until its last byte is taken (R323). None: the item is not there yet. -/
def Device.vget (d : Device) (c : CoreId) (op : TOp) : Option Device :=
  let h := op.ins.a.toNat
  let vd := op.ins.d.toNat
  let ok := d.useHandle c op h 0
  match d.stream c h with
  | none => some ((ok.1.writeV c vd (vregOf 2 ((List.range 128).map fun j =>
      (leNat (freeBytes (d.fresh + j) 2), true)))).takeFresh)
  | some st =>
    if !ok.2 then some ((ok.1.writeV c vd (vregOf 2 ((List.range 128).map fun j =>
      (leNat (freeBytes (d.fresh + j) 2), true)))).takeFresh)
    else match st.next (d.tensor c) with
    | some it =>
      let bs := (it.pkts.map fun p => p.payload.map fun b => (b, pktBad p)).flatten
      let cut := (bs.drop st.used).take 256
      let v := vregOf 2 ((List.range 128).map fun j =>
        (leNat (((cut.drop (2 * j)).take 2).map fun b => b.1), ((cut.drop (2 * j)).take 2).any fun b => b.2))
      let d0 := if st.used = 0 then d.emitReads c 0x02 op.tag (headerRecs it.pkts) else d
      let d1 := (d0.consumed c 0x02 op.tag (cut.any fun b => b.2)).writeV c vd v
      if bs.length ≤ st.used + 256 then some (d1.putStream c h st.pop)
      else some (d1.putStream c h { st with used := st.used + 256 })
    | none =>
      if d.isOver c h st then some ((d.streamEnd c op.tag h).writeV c vd (vregOf 2 (List.replicate 128 (0, true))))
      else none

/-- VPUT: one packet is appended to the current item, with the operation's expected epoch (R294). None: there is no room for the item. -/
def Device.vput (d : Device) (c : CoreId) (op : TOp) : Option Device :=
  let h := op.ins.a.toNat
  let ok := d.useHandle c op h 1
  match d.stream c h with
  | none => some ok.1
  | some st =>
    if !ok.2 then some ok.1
    else if !st.room then none
    else
      let v := (d.tensor c).vreg op.ins.b.toNat
      let w := st.desc.toNat
      let t := d.tileAt c st st.accepted
      let p := plainPacket (coreHdr c 0x02 op.tag op.epoch) (if bitAt op.ins.imm.toNat 0 then 0xA else 0x9) 0
        (leBytes 256 v.val.toNat) (decide (v.poison ≠ 0))
      let ps := st.puts ++ [p]
      if t.rows * t.cols * sdElemBits w ≤ 8 * 256 * ps.length then
        some ((d.setStream c h { st with puts := [] }).acceptItem c h op.tag (markLast ps))
      else some (d.setStream c h { st with puts := ps })

/-- The operation at the head of the vector queue takes effect, where it can; none: it waits, or there is none. One that reads a
poisoned lane has consumed poison (R36). -/
def State.vectorHead (s : State) (c : CoreId) : Option State :=
  let t := s.dev.tensor c
  match t.vectorQ with
  | [] => none
  | op :: _ =>
    if !(t.vTurn op) || !(t.turns op) then none
    else
      let s1 := s.onDev fun d => (d.popVectorQ c).consumed c 0x02 op.tag
        ((vReads op.opc op.ins).any fun r => decide ((t.vreg r).poison ≠ 0))
      let d := s1.dev
      let vd := op.ins.d.toNat
      let i := op.ins.imm.toNat
      let va := t.vreg op.ins.a.toNat
      match op.opc with
      | 0xA0 => some (s1.vld c op)
      | 0xA1 => some (s1.vst c op)
      | 0xA2 => (d.vget c op).map fun d' => s1.onDev fun _ => d'
      | 0xA3 => (d.vput c op).map fun d' => s1.onDev fun _ => d'
      | 0xA4 =>
        let n := laneSize (bitAt i 0)
        some (s1.onDev fun d => d.writeV c vd (vregOf n (List.replicate (laneCount n) (op.x.toNat, false))))
      | 0xA5 =>
        let x := va.lane (laneSize (bitAt i 0)) (bitsOf i 7 1)
        some (s1.onDev fun d => d.writeS c vd ⟨BitVec.ofNat 64 x.1, x.2⟩)
      | 0xA6 => some (s1.onDev fun d => d.vins c op)
      | 0xA7 => some (s1.onDev fun d => d.writeV c vd va)
      | 0xA8 => some (s1.onDev fun d => d.vcvt c op)
      | 0xBC => some (s1.onDev fun d => d.vcmp c op)
      | 0xBD => some (s1.onDev fun d => d.vsel c op)
      | 0xBE => some (s1.onDev fun d => d.vred c op)
      | _ =>
        let srcs := (vReads op.opc op.ins).map t.vreg
        some (s1.onDev fun d => d.lanewise c vd (laneSize (bitAt i 0)) srcs (laneFn op.opc))

end Sys2Proof.Machine
end

