-- ==== Sys2Proof/Machine/Issue.lean ====
section
/-!
DEFINITION. The issue of tensor operations (R261 to R264, R270) and what the engines carry out at once.
-/
namespace Sys2Proof.Machine

/-- The vector operations and stream instructions of a core that can take effect now do so, in issue order (R264). SARM
waits for STREAM_ARMED. -/
def State.settle : Nat → State → CoreId → State
  | 0, s, _ => s
  | n + 1, s, c =>
    match s.vectorHead c with
    | some t => State.settle n t c
    | none =>
      match s.dev.streamHead c with
      | some d => State.settle n { s with dev := d } c
      | none => s

/-- A step of the engines of a compute core, with what it lets take effect. -/
def engine (s : State) (c : CoreId) (f : State → State) : Host.Outcome State Fault Refusal :=
  memNext s fun s => if corePresent c && isCompute c then State.settle 32 (f s) c else s

/-- The issue queue of an OPC is full (R261, R262). The run in the array keeps its place in the Lattice queue. -/
def Device.queueFull (d : Device) (c : CoreId) (opc : Nat) : Bool :=
  let t := d.tensor c
  if opc ≤ 0x84 then decide (8 ≤ t.streamQ.length)
  else if opc ≤ 0x92 then decide (8 ≤ t.latticeQ.length + t.run.toList.length)
  else if opc = 0x93 then decide (8 ≤ t.drainQ.length)
  else if opc ≤ 0xBF then decide (16 ≤ t.vectorQ.length)
  else if opc ≤ 0xCA then decide (8 ≤ t.convQ.length)
  else if opc = 0xD0 then decide (16 ≤ (d.unitsOf (cluOfCore c)).updates.length)
  else decide (4 ≤ t.saveQ.length)

/-- An operation enters its queue. -/
def Device.enqueue (d : Device) (c : CoreId) (op : TOp) : Device :=
  if op.opc = 0xD0 then d.updateArrives c op
  else d.onTensor c fun t =>
    if op.opc ≤ 0x84 then { t with streamQ := t.streamQ ++ [op] }
    else if op.opc ≤ 0x92 then { t with latticeQ := t.latticeQ ++ [op] }
    else if op.opc = 0x93 then { t with drainQ := t.drainQ ++ [op] }
    else if op.opc ≤ 0xBF then { t with vectorQ := t.vectorQ ++ [op] }
    else if op.opc ≤ 0xCA then { t with convQ := t.convQ ++ [op] }
    else { t with saveQ := t.saveQ ++ [op] }

/-- The s register that an operation writes when it takes effect (R264). -/
def lateS (opc : Nat) (w : Ins) : Option Nat :=
  if (opc = 0x84 ∨ opc = 0xA5 ∨ opc = 0xBE) ∧ w.d.toNat ≠ 0 then some w.d.toNat else none

/-- One operation is issued with csr.optag, csr.epoch, CLU.WC_STEP and its launch as they stand (R263, R274, R388). SREARM
does not wait for its turn at the handle (R346). -/
def Device.issueOp (d : Device) (c : CoreId) (opc : Nat) (w : Ins) (x y : W64) : Device :=
  let t := d.tensor c
  let k := d.core c
  let op : TOp :=
    { seq := t.issued, opc := opc, ins := w, tag := k.csr.optag, epoch := k.csr.epoch, x := x, y := y
      step := d.rf (Reg.wcStep (cluOfCore c)) 31 0, fn := d.coreFn c
      holds := if opc = 0x81 then [] else handlesOf opc w, backward := d.launchBackward c }
  let d1 := (d.setTensor c { t with issued := t.issued + 1 }).enqueue c op
  match lateS opc w with
  | some r => d1.onCore c fun k => { k with pendingS := sinsert k.pendingS r }
  | none => d1

/-- The body of a tensor instruction: poisoned registers raise POISON_USE (R270), a full queue holds the pipe (R262),
else the operation issues. -/
def State.issue (s : State) (c : CoreId) (opc : Nat) (w : Ins) (x y : W64) : Act :=
  needClean (s.dev.core c) (sReads opc w)
    (if s.dev.queueFull c opc then .hold
     else .done (State.settle 32 (s.onDev fun d => d.issueOp c opc w x y) c))

/-- A tensor instruction whose operation takes two registers' values. -/
def tensorIns (s : State) (c : CoreId) (opc : Nat) (w : Ins) (x y : Core → W64) : Host.Outcome State Fault Refusal :=
  memNext s fun s => s.runIns c opc w fun s => s.issue c opc w (x (s.dev.core c)) (y (s.dev.core c))

/-- The value of the s register that field A names. -/
def regA (w : Ins) (k : Core) : W64 := (k.getS w.a.toNat).val
/-- The value of the s register that field B names. -/
def regB (w : Ins) (k : Core) : W64 := (k.getS w.b.toNat).val
/-- The value of the s register that field C names. -/
def regC (w : Ins) (k : Core) : W64 := (k.getS w.c.toNat).val
/-- No register. -/
def regNone (_ : Core) : W64 := 0

/-- A tensor instruction whose address register must hold a multiple of n (R276, R299). -/
def alignedIns (s : State) (c : CoreId) (opc n : Nat) (w : Ins) : Host.Outcome State Fault Refusal :=
  memNext s fun s => s.runIns c opc w fun s =>
    let k := s.dev.core c
    needClean k (sReads opc w)
      (if (regA w k).toNat % n ≠ 0 then .raise (excMisaligned (regA w k).toNat)
       else s.issue c opc w (regA w k) 0)

/-- VLD and VST: the address is translated and checked at issue (R240, R294). -/
def vectorAccess (s : State) (c : CoreId) (opc : Nat) (w : Ins) (acc : Access) : Host.Outcome State Fault Refusal :=
  memNext s fun s => s.runIns c opc w fun s =>
    let k := s.dev.core c
    let ea := (regA w k + immVal w).toNat
    needClean k (sReads opc w)
      (if ea % 256 ≠ 0 then .raise (excMisaligned ea)
       else match s.coreAddr c ea 256 acc with
         | none => .raise (excAccess ea)
         | some a => s.issue c opc w (BitVec.ofNat 64 a) 0)

/-! ## Stream instructions (R275, R276, R310) -/

/-- SARM: issued once sa is a multiple of 64. -/
def execSarm (c : CoreId) (w : Ins) (s : State) : Host.Outcome State Fault Refusal := alignedIns s c 0x80 64 w

/-- The SARM at the head of the stream queue has its descriptor, in its turn at the handle, and is carried out. -/
def State.streamArmed (s : State) (c : CoreId) (h : Nat) : State :=
  match (s.dev.tensor c).streamQ with
  | [] => s
  | op :: _ =>
    if op.opc = 0x80 ∧ op.ins.d.toNat = h ∧ (s.dev.tensor c).turn op h = true then
      (s.onDev fun d => d.popStreamQ c).armStream c op h
    else s

/-- STREAM_ARMED. -/
def execStreamArmed (c : CoreId) (h : Nat) (s : State) : Host.Outcome State Fault Refusal :=
  engine s c fun s => s.streamArmed c h

/-- SREARM. -/
def execSrearm (c : CoreId) (w : Ins) (s : State) : Host.Outcome State Fault Refusal :=
  tensorIns s c 0x81 w (regA w) regNone

/-- A re-arm takes effect once the last tile of its pass has been requested (R346). -/
def execRearmTakeEffect (c : CoreId) (h : Nat) (s : State) : Host.Outcome State Fault Refusal :=
  engine s c fun s => s.onDev fun d =>
    match d.stream c h with
    | none => d
    | some st => if st.rearmDue (d.tensor c) then d.setStream c h st.rearmed else d

/-- SLINK. -/
def execSlink (c : CoreId) (w : Ins) (s : State) : Host.Outcome State Fault Refusal :=
  tensorIns s c 0x82 w regNone regNone
/-- SDRAIN. -/
def execSdrain (c : CoreId) (w : Ins) (s : State) : Host.Outcome State Fault Refusal :=
  tensorIns s c 0x83 w regNone regNone
/-- SPOS. -/
def execSpos (c : CoreId) (w : Ins) (s : State) : Host.Outcome State Fault Refusal :=
  tensorIns s c 0x84 w regNone regNone

/-! ## The Lattice (R278 to R284) -/

/-- LLOAD. -/
def execLload (c : CoreId) (w : Ins) (s : State) : Host.Outcome State Fault Refusal :=
  tensorIns s c 0x90 w regNone regNone
/-- A weight load completes (R127). -/
def execLoadDone (c : CoreId) (s : State) : Host.Outcome State Fault Refusal :=
  engine s c fun s => s.onDev fun d => d.loadDone c
/-- LSWAP. -/
def execLswap (c : CoreId) (w : Ins) (s : State) : Host.Outcome State Fault Refusal :=
  tensorIns s c 0x91 w regNone regNone
/-- A swap takes effect (R128). -/
def execSwapTakeEffect (c : CoreId) (s : State) : Host.Outcome State Fault Refusal :=
  engine s c fun s => s.onDev fun d => d.swapTiles c
/-- LRUN. -/
def execLrun (c : CoreId) (w : Ins) (s : State) : Host.Outcome State Fault Refusal :=
  tensorIns s c 0x92 w (regC w) regNone
/-- A run begins (R344). -/
def execRunStart (c : CoreId) (s : State) : Host.Outcome State Fault Refusal := engine s c fun s => s.startRun c
/-- The scale pre-pass ends and the anchor is fixed (R153, R154). -/
def execAnchorFixed (c : CoreId) (s : State) : Host.Outcome State Fault Refusal := engine s c fun s => s.fixAnchor c
/-- One cycle of the array (R132 to R136). -/
def execPassBroadcast (c : CoreId) (s : State) : Host.Outcome State Fault Refusal :=
  engine s c fun s => s.broadcast c
/-- The contributions of a pass enter the tallies (R156). -/
def execTallyUpdate (c : CoreId) (s : State) : Host.Outcome State Fault Refusal :=
  engine s c fun s => s.onDev fun d => d.tallyPass c
/-- The CFU enters one outlier product (R158). -/
def execOutlierProduct (c : CoreId) (s : State) : Host.Outcome State Fault Refusal := engine s c fun s => s.outlierProduct c
/-- A run ends (R283). -/
def execRunEnd (c : CoreId) (s : State) : Host.Outcome State Fault Refusal := engine s c fun s => s.endRun c
/-- LDRAIN. -/
def execLdrain (c : CoreId) (w : Ins) (s : State) : Host.Outcome State Fault Refusal :=
  tensorIns s c 0x93 w (regA w) (regB w)
/-- The drain writes one item (R284). -/
def execDrainTile (c : CoreId) (s : State) : Host.Outcome State Fault Refusal := engine s c fun s => s.drainTile c

/-! ## Conversions (R285 to R288) -/

/-- CVT. -/
def execCvt (c : CoreId) (w : Ins) (s : State) : Host.Outcome State Fault Refusal :=
  tensorIns s c 0xC8 w (regB w) (regC w)
/-- CVTIN. -/
def execCvtin (c : CoreId) (w : Ins) (s : State) : Host.Outcome State Fault Refusal :=
  tensorIns s c 0xC9 w (regB w) (regC w)
/-- CVTOUT. -/
def execCvtout (c : CoreId) (w : Ins) (s : State) : Host.Outcome State Fault Refusal :=
  tensorIns s c 0xCA w (regB w) (regC w)
/-- The conversion at the head of its queue is carried out (R286). -/
def execConversionExecute (c : CoreId) (s : State) : Host.Outcome State Fault Refusal := engine s c fun s => s.convHead c

/-! ## Vector instructions (R291 to R294) -/

/-- VLD. -/
def execVld (c : CoreId) (w : Ins) (s : State) : Host.Outcome State Fault Refusal := vectorAccess s c 0xA0 w ⟨true, false⟩
/-- VST. -/
def execVst (c : CoreId) (w : Ins) (s : State) : Host.Outcome State Fault Refusal := vectorAccess s c 0xA1 w ⟨false, true⟩
/-- VGET. -/
def execVget (c : CoreId) (w : Ins) (s : State) : Host.Outcome State Fault Refusal := tensorIns s c 0xA2 w regNone regNone
/-- VPUT. -/
def execVput (c : CoreId) (w : Ins) (s : State) : Host.Outcome State Fault Refusal := tensorIns s c 0xA3 w regNone regNone
/-- VBCAST. -/
def execVbcast (c : CoreId) (w : Ins) (s : State) : Host.Outcome State Fault Refusal := tensorIns s c 0xA4 w (regA w) regNone
/-- VEXT. -/
def execVext (c : CoreId) (w : Ins) (s : State) : Host.Outcome State Fault Refusal := tensorIns s c 0xA5 w regNone regNone
/-- VINS. -/
def execVins (c : CoreId) (w : Ins) (s : State) : Host.Outcome State Fault Refusal := tensorIns s c 0xA6 w (regB w) regNone
/-- VMOV. -/
def execVmov (c : CoreId) (w : Ins) (s : State) : Host.Outcome State Fault Refusal := tensorIns s c 0xA7 w regNone regNone
/-- VCVT. -/
def execVcvt (c : CoreId) (w : Ins) (s : State) : Host.Outcome State Fault Refusal := tensorIns s c 0xA8 w regNone regNone
/-- VADD. -/
def execVadd (c : CoreId) (w : Ins) (s : State) : Host.Outcome State Fault Refusal := tensorIns s c 0xB0 w regNone regNone
/-- VSUB. -/
def execVsub (c : CoreId) (w : Ins) (s : State) : Host.Outcome State Fault Refusal := tensorIns s c 0xB1 w regNone regNone
/-- VMUL. -/
def execVmul (c : CoreId) (w : Ins) (s : State) : Host.Outcome State Fault Refusal := tensorIns s c 0xB2 w regNone regNone
/-- VFMA. -/
def execVfma (c : CoreId) (w : Ins) (s : State) : Host.Outcome State Fault Refusal := tensorIns s c 0xB3 w regNone regNone
/-- VMIN. -/
def execVmin (c : CoreId) (w : Ins) (s : State) : Host.Outcome State Fault Refusal := tensorIns s c 0xB4 w regNone regNone
/-- VMAX. -/
def execVmax (c : CoreId) (w : Ins) (s : State) : Host.Outcome State Fault Refusal := tensorIns s c 0xB5 w regNone regNone
/-- VABS. -/
def execVabs (c : CoreId) (w : Ins) (s : State) : Host.Outcome State Fault Refusal := tensorIns s c 0xB6 w regNone regNone
/-- VNEG. -/
def execVneg (c : CoreId) (w : Ins) (s : State) : Host.Outcome State Fault Refusal := tensorIns s c 0xB7 w regNone regNone
/-- VRCP. -/
def execVrcp (c : CoreId) (w : Ins) (s : State) : Host.Outcome State Fault Refusal := tensorIns s c 0xB8 w regNone regNone
/-- VRSQRT. -/
def execVrsqrt (c : CoreId) (w : Ins) (s : State) : Host.Outcome State Fault Refusal := tensorIns s c 0xB9 w regNone regNone
/-- VEXP2. -/
def execVexp2 (c : CoreId) (w : Ins) (s : State) : Host.Outcome State Fault Refusal := tensorIns s c 0xBA w regNone regNone
/-- VLOG2. -/
def execVlog2 (c : CoreId) (w : Ins) (s : State) : Host.Outcome State Fault Refusal := tensorIns s c 0xBB w regNone regNone
/-- VCMP. -/
def execVcmp (c : CoreId) (w : Ins) (s : State) : Host.Outcome State Fault Refusal := tensorIns s c 0xBC w regNone regNone
/-- VSEL. -/
def execVsel (c : CoreId) (w : Ins) (s : State) : Host.Outcome State Fault Refusal := tensorIns s c 0xBD w regNone regNone
/-- VRED. -/
def execVred (c : CoreId) (w : Ins) (s : State) : Host.Outcome State Fault Refusal := tensorIns s c 0xBE w regNone regNone
/-- VDIV. -/
def execVdiv (c : CoreId) (w : Ins) (s : State) : Host.Outcome State Fault Refusal := tensorIns s c 0xBF w regNone regNone

/-! ## Save, restore and update (R296 to R299) -/

/-- BSAVE. -/
def execBsave (c : CoreId) (w : Ins) (s : State) : Host.Outcome State Fault Refusal := tensorIns s c 0xD8 w regNone regNone
/-- The BSAVE at the head of the save queue is carried out (R298, R390 to R392). -/
def execSaveExecute (c : CoreId) (s : State) : Host.Outcome State Fault Refusal :=
  engine s c fun s => s.onDev fun d => d.saveHead c 0xD8
/-- BREST. -/
def execBrest (c : CoreId) (w : Ins) (s : State) : Host.Outcome State Fault Refusal := tensorIns s c 0xD9 w regNone regNone
/-- The BREST at the head of the save queue is carried out (R297, R393). -/
def execRestoreExecute (c : CoreId) (s : State) : Host.Outcome State Fault Refusal :=
  engine s c fun s => s.onDev fun d => d.saveHead c 0xD9
/-- UPD: issued once sa is a multiple of 128. -/
def execUpd (c : CoreId) (w : Ins) (s : State) : Host.Outcome State Fault Refusal := alignedIns s c 0xD0 128 w
/-- The update unit of a cluster serves the operation at the head of its queue (R303). -/
def execUpdateProgram (cl : ClusterId) (s : State) : Host.Outcome State Fault Refusal :=
  memNext s fun s => if clusterPresent cl then s.updateHead cl else s

/-! ## Streams at work (R316 to R342) -/

/-- A read stream requests its next tile (R323). -/
def execTileRequest (c : CoreId) (h : Nat) (s : State) : Host.Outcome State Fault Refusal :=
  engine s c fun s => s.requestTile c h
/-- All bytes of a requested tile have arrived (R323). -/
def execTileStaged (c : CoreId) (h tile : Nat) (s : State) : Host.Outcome State Fault Refusal :=
  engine s c fun s => s.stageTile c h tile
/-- A row feeder is refilled (R326, R327). -/
def execFeederRefill (c : CoreId) (feeder : Nat) (s : State) : Host.Outcome State Fault Refusal :=
  engine s c fun s => s.onDev fun d => d.refill c feeder
/-- A consumer that holds the handle takes the last word of the tile whose turn it is, and the tile's buffer frees; past the last item of
the stream there is none to take (R319, R323). -/
def execTileTaken (c : CoreId) (h : Nat) (s : State) : Host.Outcome State Fault Refusal :=
  engine s c fun s => s.onDev fun d =>
    match d.stream c h with
    | none => d
    | some st =>
      if decide (st.taken < st.limit (d.tensor c)) && (st.drives.isSome || (d.tensor c).ops.any fun o => o.holds.contains h) then
        d.putStream c h st.takeStaged
      else d
/-- A write stream places an item and issues its writes (R318, R324). -/
def execStreamWriteTile (c : CoreId) (h : Nat) (s : State) : Host.Outcome State Fault Refusal :=
  engine s c fun s => s.writeTile c h
/-- The writes of a tile are performed and its buffer is free (R324). -/
def execWriteBufferFree (c : CoreId) (h : Nat) (s : State) : Host.Outcome State Fault Refusal :=
  engine s c fun s => s.onDev fun d =>
    match d.stream c h with
    | none => d
    | some st => d.setStream c h { st with writing := st.writing - 1 }
/-- A chain read stream sends one grant (R341). -/
def execChainGrant (c : CoreId) (h : Nat) (s : State) : Host.Outcome State Fault Refusal :=
  engine s c fun s => s.onDev fun d => d.chainGrant c h
/-- A chain writer sends a tile against a grant (R341). -/
def execChainTileSend (c : CoreId) (h : Nat) (s : State) : Host.Outcome State Fault Refusal :=
  engine s c fun s => s.onDev fun d => d.chainSend c h
/-- An item arrives at a chain read stream (R341). -/
def execChainItemReceive (c : CoreId) (h : Nat) (s : State) : Host.Outcome State Fault Refusal :=
  engine s c fun s => s.onDev fun d => d.chainReceive c h
/-- An orbit member copies its region to its successor (R336, R337). -/
def execOrbitCopy (c : CoreId) (h : Nat) (s : State) : Host.Outcome State Fault Refusal := engine s c fun s => s.orbitCopy c h
/-- An orbit member sends ready to its predecessor (R336). -/
def execOrbitReady (c : CoreId) (h : Nat) (s : State) : Host.Outcome State Fault Refusal :=
  engine s c fun s => s.onDev fun d => d.orbitReady c h

end Sys2Proof.Machine
end

