-- ==== Sys2Proof/Machine/Scalar.lean ====
section
/-!
DEFINITION. Scalar instructions but for loads, stores, WCOMMIT and CSWAP (R235 to R237, R242 to R250, R634), and how
programs end (R244, R255, R269).
-/
namespace Sys2Proof.Machine

/-! ## Integer and predicate instructions (R235 to R237) -/

/-- The state with an s register of a core written. -/
def State.putS (s : State) (c : CoreId) (r : Nat) (v : PVal) : State := s.onDev fun d => d.onCore c fun k => k.setS r v

/-- The state with a p register of a core written. -/
def State.putP (s : State) (c : CoreId) (r : Nat) (v : PBit) : State := s.onDev fun d => d.onCore c fun k => k.setP r v

/-- An instruction that writes sd from the core's state before it. -/
def intoS (s : State) (c : CoreId) (opc : Nat) (w : Ins) (f : Core → PVal) : Host.Outcome State Fault Refusal :=
  memNext s fun s => s.runIns c opc w fun s => .done (s.putS c w.d.toNat (f (s.dev.core c)))

/-- An instruction that writes pd from the core's state before it. -/
def intoP (s : State) (c : CoreId) (opc : Nat) (w : Ins) (f : Core → PBit) : Host.Outcome State Fault Refusal :=
  memNext s fun s => s.runIns c opc w fun s => .done (s.putP c w.d.toNat (f (s.dev.core c)))

/-- sd := f sa sb, poisoned where an operand is (R226). -/
def alu2 (s : State) (c : CoreId) (opc : Nat) (w : Ins) (f : W64 → W64 → W64) : Host.Outcome State Fault Refusal :=
  intoS s c opc w fun k =>
    pval (f (k.getS w.a.toNat).val (k.getS w.b.toNat).val) [k.getS w.a.toNat, k.getS w.b.toNat]

/-- sd := f sa, poisoned where sa is. -/
def alu1 (s : State) (c : CoreId) (opc : Nat) (w : Ins) (f : W64 → W64) : Host.Outcome State Fault Refusal :=
  intoS s c opc w fun k => pval (f (k.getS w.a.toNat).val) [k.getS w.a.toNat]

/-- ADD. -/
def execAdd (c : CoreId) (w : Ins) (s : State) : Host.Outcome State Fault Refusal :=
  alu2 s c 0x01 w fun a b => a + b
/-- SUB. -/
def execSub (c : CoreId) (w : Ins) (s : State) : Host.Outcome State Fault Refusal :=
  alu2 s c 0x02 w fun a b => a - b
/-- MUL. -/
def execMul (c : CoreId) (w : Ins) (s : State) : Host.Outcome State Fault Refusal :=
  alu2 s c 0x03 w fun a b => a * b
/-- MULH. -/
def execMulh (c : CoreId) (w : Ins) (s : State) : Host.Outcome State Fault Refusal :=
  alu2 s c 0x04 w fun a b => BitVec.ofInt 64 (a.toInt * b.toInt / 2 ^ 64)
/-- MULHU. -/
def execMulhu (c : CoreId) (w : Ins) (s : State) : Host.Outcome State Fault Refusal :=
  alu2 s c 0x05 w fun a b => BitVec.ofNat 64 (a.toNat * b.toNat / 2 ^ 64)
/-- DIV. -/
def execDiv (c : CoreId) (w : Ins) (s : State) : Host.Outcome State Fault Refusal :=
  alu2 s c 0x06 w fun a b => if b = 0 then BitVec.allOnes 64 else a.sdiv b
/-- DIVU. -/
def execDivu (c : CoreId) (w : Ins) (s : State) : Host.Outcome State Fault Refusal :=
  alu2 s c 0x07 w fun a b => if b = 0 then BitVec.allOnes 64 else a / b
/-- REM. -/
def execRem (c : CoreId) (w : Ins) (s : State) : Host.Outcome State Fault Refusal :=
  alu2 s c 0x08 w fun a b => if b = 0 then a else a.srem b
/-- REMU. -/
def execRemu (c : CoreId) (w : Ins) (s : State) : Host.Outcome State Fault Refusal :=
  alu2 s c 0x09 w fun a b => if b = 0 then a else a % b
/-- AND. -/
def execAnd (c : CoreId) (w : Ins) (s : State) : Host.Outcome State Fault Refusal :=
  alu2 s c 0x0A w fun a b => a &&& b
/-- OR. -/
def execOr (c : CoreId) (w : Ins) (s : State) : Host.Outcome State Fault Refusal :=
  alu2 s c 0x0B w fun a b => a ||| b
/-- XOR. -/
def execXor (c : CoreId) (w : Ins) (s : State) : Host.Outcome State Fault Refusal :=
  alu2 s c 0x0C w fun a b => a ^^^ b
/-- SHL. -/
def execShl (c : CoreId) (w : Ins) (s : State) : Host.Outcome State Fault Refusal :=
  alu2 s c 0x0D w fun a b => a <<< (b.toNat % 64)
/-- SHR. -/
def execShr (c : CoreId) (w : Ins) (s : State) : Host.Outcome State Fault Refusal :=
  alu2 s c 0x0E w fun a b => a >>> (b.toNat % 64)
/-- SRA. -/
def execSra (c : CoreId) (w : Ins) (s : State) : Host.Outcome State Fault Refusal :=
  alu2 s c 0x0F w fun a b => a.sshiftRight (b.toNat % 64)
/-- MIN. -/
def execMin (c : CoreId) (w : Ins) (s : State) : Host.Outcome State Fault Refusal :=
  alu2 s c 0x10 w fun a b => if a.slt b then a else b
/-- MAX. -/
def execMax (c : CoreId) (w : Ins) (s : State) : Host.Outcome State Fault Refusal :=
  alu2 s c 0x11 w fun a b => if a.slt b then b else a
/-- MINU. -/
def execMinu (c : CoreId) (w : Ins) (s : State) : Host.Outcome State Fault Refusal :=
  alu2 s c 0x12 w fun a b => if a.ult b then a else b
/-- MAXU. -/
def execMaxu (c : CoreId) (w : Ins) (s : State) : Host.Outcome State Fault Refusal :=
  alu2 s c 0x13 w fun a b => if a.ult b then b else a
/-- SEL: poisoned where the predicate or the selected source is. -/
def execSel (c : CoreId) (w : Ins) (s : State) : Host.Outcome State Fault Refusal :=
  intoS s c 0x14 w fun k =>
    let p := k.getP w.c.toNat
    let v := if p.val then k.getS w.a.toNat else k.getS w.b.toNat
    ⟨v.val, v.poison || p.poison⟩
/-- MADD. -/
def execMadd (c : CoreId) (w : Ins) (s : State) : Host.Outcome State Fault Refusal :=
  intoS s c 0x17 w fun k =>
    pval ((k.getS w.a.toNat).val * (k.getS w.b.toNat).val + (k.getS w.c.toNat).val)
      [k.getS w.a.toNat, k.getS w.b.toNat, k.getS w.c.toNat]
/-- ADDI. -/
def execAddi (c : CoreId) (w : Ins) (s : State) : Host.Outcome State Fault Refusal :=
  alu1 s c 0x21 w fun a => a + immVal w
/-- ANDI. -/
def execAndi (c : CoreId) (w : Ins) (s : State) : Host.Outcome State Fault Refusal :=
  alu1 s c 0x2A w fun a => a &&& immVal w
/-- ORI. -/
def execOri (c : CoreId) (w : Ins) (s : State) : Host.Outcome State Fault Refusal :=
  alu1 s c 0x2B w fun a => a ||| immVal w
/-- XORI. -/
def execXori (c : CoreId) (w : Ins) (s : State) : Host.Outcome State Fault Refusal :=
  alu1 s c 0x2C w fun a => a ^^^ immVal w
/-- SHLI. -/
def execShli (c : CoreId) (w : Ins) (s : State) : Host.Outcome State Fault Refusal :=
  alu1 s c 0x2D w fun a => a <<< w.imm.toNat
/-- SHRI. -/
def execShri (c : CoreId) (w : Ins) (s : State) : Host.Outcome State Fault Refusal :=
  alu1 s c 0x2E w fun a => a >>> w.imm.toNat
/-- SRAI. -/
def execSrai (c : CoreId) (w : Ins) (s : State) : Host.Outcome State Fault Refusal :=
  alu1 s c 0x2F w fun a => a.sshiftRight w.imm.toNat
/-- CLZ. -/
def execClz (c : CoreId) (w : Ins) (s : State) : Host.Outcome State Fault Refusal :=
  alu1 s c 0x15 w fun a => BitVec.ofNat 64 (64 - bitLen a.toNat)
/-- POPC. -/
def execPopc (c : CoreId) (w : Ins) (s : State) : Host.Outcome State Fault Refusal :=
  alu1 s c 0x16 w fun a => BitVec.ofNat 64 (popCount 64 a.toNat)
/-- LI. -/
def execLi (c : CoreId) (w : Ins) (s : State) : Host.Outcome State Fault Refusal := intoS s c 0x30 w fun _ => ⟨liVal w, false⟩
/-- LIH: bits [31:0] and the poison of sd are kept. -/
def execLih (c : CoreId) (w : Ins) (s : State) : Host.Outcome State Fault Refusal :=
  intoS s c 0x31 w fun k =>
    ⟨BitVec.ofNat 64 (setBits (k.getS w.d.toNat).val.toNat 63 32 w.imm.toNat), (k.getS w.d.toNat).poison⟩
/-- ADDPC. -/
def execAddpc (c : CoreId) (w : Ins) (s : State) : Host.Outcome State Fault Refusal :=
  intoS s c 0x32 w fun k => ⟨k.pc + immVal w * 8, false⟩
/-- CMP. -/
def execCmp (c : CoreId) (w : Ins) (s : State) : Host.Outcome State Fault Refusal :=
  intoP s c 0x38 w fun k =>
    ⟨condHolds w.c.toNat (k.getS w.a.toNat).val (k.getS w.b.toNat).val, (k.getS w.a.toNat).poison || (k.getS w.b.toNat).poison⟩
/-- CMPI. -/
def execCmpi (c : CoreId) (w : Ins) (s : State) : Host.Outcome State Fault Refusal :=
  intoP s c 0x39 w fun k => ⟨condHolds w.b.toNat (k.getS w.a.toNat).val (immVal w), (k.getS w.a.toNat).poison⟩
/-- PLOG. -/
def execPlog (c : CoreId) (w : Ins) (s : State) : Host.Outcome State Fault Refusal :=
  intoP s c 0x3A w fun k =>
    ⟨plogOp w.c.toNat (k.getP w.a.toNat).val (k.getP w.b.toNat).val, (k.getP w.a.toNat).poison || (k.getP w.b.toNat).poison⟩

/-! ## Branches and program control (R242, R243) -/

/-- The target of BRA and CALL. -/
def branchTarget (k : Core) (w : Ins) : W64 := k.pc + immVal w * 8

/-- BRA. -/
def execBra (c : CoreId) (w : Ins) (s : State) : Host.Outcome State Fault Refusal :=
  memNext s fun s => s.runIns c 0x50 w fun s => .jump s (branchTarget (s.dev.core c) w)
/-- CALL. -/
def execCall (c : CoreId) (w : Ins) (s : State) : Host.Outcome State Fault Refusal :=
  memNext s fun s => s.runIns c 0x51 w fun s =>
    let k := s.dev.core c
    .jump (s.putS c w.d.toNat ⟨k.pc + 8, false⟩) (branchTarget k w)

/-- A packet that a control core's trace port records (R616). -/
def Device.traceNote (d : Device) (c : CoreId) (bs : List Byte) : Device :=
  if isControl c then Device.traced (d.traceWrite (partOf c) bs) else d

/-- A jump to sa + imm: MISALIGNED at the jump where the target is no multiple of 8 (R243). -/
def State.jumpReg (s : State) (c : CoreId) (w : Ins) (link : Bool) : Act :=
  let k := s.dev.core c
  let t := (k.getS w.a.toNat).val + immVal w
  needClean k [w.a.toNat]
    (if t.toNat % 8 ≠ 0 then .raise (excMisaligned t.toNat)
     else
       let s1 := if link then s.putS c w.d.toNat ⟨k.pc + 8, false⟩ else s
       .jump (s1.onDev fun d => d.traceNote c (indPacket 0 t)) t)

/-- JMP. -/
def execJmp (c : CoreId) (w : Ins) (s : State) : Host.Outcome State Fault Refusal :=
  memNext s fun s => s.runIns c 0x52 w fun s => s.jumpReg c w false
/-- JAL. -/
def execJal (c : CoreId) (w : Ins) (s : State) : Host.Outcome State Fault Refusal :=
  memNext s fun s => s.runIns c 0x53 w fun s => s.jumpReg c w true
/-- TRAP. -/
def execTrap (c : CoreId) (w : Ins) (s : State) : Host.Outcome State Fault Refusal :=
  memNext s fun s => s.runIns c 0x59 w fun _ => .raise (excTrap w.imm.toNat)
/-- NOP. -/
def execNop (c : CoreId) (w : Ins) (s : State) : Host.Outcome State Fault Refusal :=
  memNext s fun s => s.runIns c 0x5A w fun s => .done s

/-! ## The end of a program (R244, R255, R258, R269) -/

/-- A core with its run state replaced. -/
def Device.setRunState (d : Device) (c : CoreId) (r : RunState) : Device := d.onCore c fun k => { k with run := r }

/-- Every tensor operation of a core that can complete has completed and its outputs are written (R266, R269). -/
def Device.tensorQuiet (d : Device) (c : CoreId) : Bool :=
  let t := d.tensor c
  t.streamQ.isEmpty && t.latticeQ.isEmpty && t.convQ.isEmpty && t.vectorQ.isEmpty && t.saveQ.isEmpty && t.run.isNone
    && (t.drainQ.isEmpty || t.outs.isEmpty)
    && t.streams.all (fun p => decide (sdDir p.2.desc.toNat = 0) || p.2.written)
    && !((d.unitsOf (cluOfCore c)).updates.any fun u => decide (u.1 = coreKey c))

/-- Every tensor operation of a core has completed and its outputs are written: what FENCE with T = 1 waits for (R249, R258, R266). -/
def Device.opsDone (d : Device) (c : CoreId) : Bool := d.tensorQuiet c && (d.tensor c).drainQ.isEmpty

/-- LDRAINs that wait with no run, and output tiles that no LDRAIN takes, are given up at END: each is a LATTICE_SEQUENCE
(R269). -/
def Device.endUndrained (d : Device) (c : CoreId) : Device :=
  let t := d.tensor c
  let tags := (t.drainQ.map fun o => o.tag) ++ ((t.outs.filter fun o => o.ended).map fun o => o.tag)
  tags.foldl (fun d g => d.latticeSequence c g) (d.setTensor c { t with drainQ := [], outs := t.outs.filter fun o => !o.ended })

/-- The LDRAIN at the head of its queue gets no output tile: no run is in the array, and none comes, or the next waits for this very LDRAIN
(R264, R269, R344). -/
def Tensor.drainStuck (t : Tensor) : Bool :=
  match t.drainQ with
  | [] => false
  | o :: _ => t.outs.isEmpty && t.run.isNone && !((t.latticeQ.find? fun p => decide (p.opc = 0x92)).any fun p =>
      !((t.blockedBy [o.seq]).contains p.seq))

/-- The run in the array waits for a tally set that no LDRAIN will empty (R130, R269). -/
def Tensor.runStuck (t : Tensor) : Option Nat :=
  match t.run with
  | none => none
  | some r => match t.outOf r.op.seq with
    | none => none
    | some o => if t.drainQ.isEmpty && t.bankBusy o then some r.op.seq else none

/-- Of a core's tensor operations only some that wait for an LDRAIN without a run, or for a tile that no LDRAIN takes, have not completed: the
point of R269 at which these are given up. -/
def Device.endStuck (d : Device) (c : CoreId) : Bool :=
  let t := d.tensor c
  let seed := (if t.drainStuck then (t.drainQ.head?.map fun o => o.seq).toList else []) ++ t.runStuck.toList
  !seed.isEmpty && t.ops.all (fun o => (t.blockedBy seed).contains o.seq)
    && !((d.unitsOf (cluOfCore c)).updates.any fun u => decide (u.1 = coreKey c))

/-! ## The end of a function-level reset (R453) -/

/-- The PCIe controller as a record's source. -/
def srcPcie : EvSrc := srcHub 0x30 0

/-- A record of the PCIe controller about a function, its number in byte 15 (R459). -/
def Device.pcieEmit (d : Device) (f code : Nat) (cls : EvClass) (poison : Bool) (det : List (Nat × Nat × Nat))
    (origin : Option (Nat × Nat) := none) : Device :=
  d.emit srcPcie code cls poison (detail (det ++ [(15, 1, f)])) origin

/-- A function-level reset of a function is in progress. -/
def Device.flrBusy (d : Device) (f : Nat) : Bool := d.rbit (Reg.fnStat f) 2

/-- A core has not ended its part of a launch of the function. -/
def Device.fnWorks (d : Device) (f : Nat) : Bool :=
  d.cores.any fun p => match p.2.launch with
    | some (g, _, _) => decide (g = f)
    | none => false

/-- The function page of a function takes its reset values, except DB_BAD and EVT_DROP; RECOVERY is hardware's (R453). -/
def Device.resetPage (d : Device) (f : Nat) : Device :=
  let o := Reg.fnStat f
  let kept := setBits (resetOf ((fieldsAt o).getD [])) 47 16 (d.rf o 47 16)
  let d1 := (([0x08, 0x10, 0x18, 0x20, 0x28, 0x30].map (Reg.fn f)).foldl (fun d r => d.resetReg r) d).setRegN o kept
  d1.setRf o 1 1 (d.rf o 1 1)

/-- Some function-level reset is in progress. -/
def Device.anyFlr (d : Device) : Bool := (List.range 64).any fun f => d.rbit (Reg.fnStat f) 2

/-- A function-level reset in progress goes on to its end once no core works for the function: translation is disabled, the contexts
are unloaded, the page takes its reset values, FLR_DONE is emitted and FLR_BUSY returns to 0 (R453). Firmware that runs serves the
function again from then on (log 207). A link reset is over with the last function (R552). -/
def Device.flrEnd (d : Device) (f : Nat) : Device :=
  if !(d.flrBusy f) || d.fnWorks f then d
  else
    let d1 := ((d.setRf (Reg.xlatRoot f) 0 0 0).setFn f Function.empty).resetPage f
    let d2 := (d1.setRf (Reg.fnStat f) 0 0 (ofBool d.host.ready)).pcieEmit f 0x9009 .notice false []
    if d2.anyFlr then d2 else { d2 with host := { d2.host with linkReset := false } }

/-- How a core's part of a launch ended: with an END status, or with the event code of an exception. -/
inductive CoreEnd where
  | status (n : Nat)
  | exception (code : Nat)
  | cut

/-- A core's part of its launch ends: its entry takes note, and the core is free for the next launch (R244, R255, R440,
R446). A function-level reset that waited for it goes on (R453). -/
def Device.endCore (d : Device) (c : CoreId) (how : CoreEnd) : Device :=
  let k := d.core c
  let note := fun (e : Entry) =>
    if k.launch = some (e.fn, e.queue, e.slot) then
      match how with
      | .status n => { e with statuses := e.statuses ++ [n] }
      | .exception x => { e with exceptions := e.exceptions ++ [(coreKey c, x)] }
      | .cut => e
    else e
  let d1 := { d with entries := d.entries.map note }.setCore c
    { k with run := .idle, launch := none, parked := false, pendingS := [] }
  match k.launch with
  | some (f, _, _) => d1.flrEnd f
  | none => d1

/-- END: the status is taken; the program ends with PROGRAM_END. A poisoned guard or status is reported there. -/
def execEndProgram (c : CoreId) (w : Ins) (s : State) : Host.Outcome State Fault Refusal :=
  memNext s fun s => s.runIns c 0x58 w fun s =>
    let k := s.dev.core c
    let v := k.getS w.a.toNat
    let bad := match guardPoison k w with
      | some p => some (p, 1)
      | none => if v.poison then some (w.a.toNat, 0) else none
    .busy (s.onDev fun d => d.setRunState c (.ending (v.val.toNat % 65536) bad))

/-- The record of an exception that ends a program on a compute core, and the core's end (R255, R260). -/
def Device.endByException (d : Device) (c : CoreId) (code : Nat) (cls : EvClass) (poison : Bool) (det : List Byte) : Device :=
  (d.emit (srcCore c 0x00) code cls poison det (d.originOf c)).endCore c (.exception code)

/-- The DETAIL of an exception of the instruction a core stands at (R260). -/
def excDetail (k : Core) (e : Exc) : List Byte := detail ([(0, 8, k.pc.toNat), (8, 2, k.csr.optag.toNat)] ++ e.det)

/-- END is reported once every tensor operation that can complete has, those that LDRAINs without a run held back among them: a pending fault
first, then a poisoned guard or status, else
the status (R244, R254, R258, R269). The END that ends a program retires. -/
def Device.programEnd (d : Device) (c : CoreId) : Device :=
  match (d.core c).run with
  | .ending n p =>
    if !(d.tensorQuiet c) then (if d.endStuck c then d.endUndrained c else d)
    else
      let d1 := d.endUndrained c
      let k := d1.core c
      if k.csr.fpend then
        let e := excTensor k
        d1.endByException c e.code e.cls e.poison (excDetail k e)
      else match p with
        | some r =>
          let e := excPoison r.1 r.2
          d1.endByException c e.code e.cls e.poison (excDetail k e)
        | none => (d1.retire c).endCore c (.status n)
  | _ => d

/-- PROGRAM_END. -/
def execProgramEnd (c : CoreId) (s : State) : Host.Outcome State Fault Refusal := devNext s fun d => d.programEnd c

/-- A compute core that raised an exception, or was ended from outside, ends its program once its tensor operations have
completed (R255, R440). -/
def Device.exceptionEnd (d : Device) (c : CoreId) : Device :=
  match (d.core c).run with
  | .raising code cls p det =>
    if !(d.tensorQuiet c) then (if d.endStuck c then d.endUndrained c else d)
    else (d.endUndrained c).endByException c code cls p det
  | .cutting =>
    if !(d.tensorQuiet c) then (if d.endStuck c then d.endUndrained c else d) else (d.endUndrained c).endCore c .cut
  | _ => d

/-- EXCEPTION_END. -/
def execExceptionEnd (c : CoreId) (s : State) : Host.Outcome State Fault Refusal := devNext s fun d => d.exceptionEnd c

/-! ## Control registers (R228, R229, R634) -/

/-- The value that a control register reads as (R228, R229). csr.cycle counts cycles that the model does not have: its
value is free (DESIGN CHOICE, log 2). -/
def Device.csrRead (d : Device) (c : CoreId) (n : Nat) : W64 :=
  let k := d.core c
  let r := k.csr
  match n with
  | 0x000 => BitVec.ofNat 64 (ofBool (isControl c) + 2 * ofBool r.exc + 4 * ofBool r.fpend)
  | 0x001 => r.cause
  | 0x002 => r.epc
  | 0x003 => r.evec
  | 0x004 => r.scratch
  | 0x008 => r.faultTag
  | 0x010 => r.optag.setWidth 64
  | 0x011 => r.epoch.setWidth 64
  | 0x020 => BitVec.ofNat 64 (csrCore c)
  | 0x021 => r.launch
  | 0x030 => Config.cycles d.fresh
  | 0x031 => BitVec.ofNat 64 d.ns
  | 0x032 => r.instret
  | 0x040 => r.wdog
  | 0x041 => BitVec.ofNat 64 (d.ipend c)
  | 0x042 => r.ienable
  | _ => r.timer

/-- The control registers after a CSRW (R228, R229). -/
def Csr.write (r : Csr) (n : Nat) (v : W64) : Csr :=
  match n with
  | 0x000 => { r with exc := bitAt v.toNat 1 }
  | 0x002 => { r with epc := v }
  | 0x003 => { r with evec := BitVec.ofNat 64 (v.toNat / 8 * 8) }
  | 0x004 => { r with scratch := v }
  | 0x010 => { r with optag := BitVec.ofNat 16 v.toNat }
  | 0x040 => if v.toNat % 2 ^ 32 = 0 then r else { r with wdog := BitVec.ofNat 64 (v.toNat % 2 ^ 32) }
  | 0x041 => { r with ipend := r.ipend &&& ~~~(v &&& 0x3E) }
  | 0x042 => { r with ienable := v &&& 0x3F }
  | 0x043 => { r with timer := v }
  | _ => r

/-- CSRR. -/
def execCsrr (c : CoreId) (w : Ins) (s : State) : Host.Outcome State Fault Refusal :=
  memNext s fun s => s.runIns c 0x70 w fun s =>
    let s1 := s.putS c w.d.toNat ⟨s.dev.csrRead c w.imm.toNat, false⟩
    .done (if w.imm.toNat = 0x030 then s1.onDev Device.takeFresh else s1)

/-- CSRW. -/
def execCsrw (c : CoreId) (w : Ins) (s : State) : Host.Outcome State Fault Refusal :=
  memNext s fun s => s.runIns c 0x71 w fun s =>
    needClean (s.dev.core c) [w.a.toNat]
      (.done (s.onDev fun d => d.onCore c fun k => { k with csr := k.csr.write w.imm.toNat (k.getS w.a.toNat).val }))

/-! ## Semaphores (R245 to R248) -/

/-- A device address falls in a cluster store. -/
def inClusterStore (a : Nat) : Bool :=
  match regionOf a with
  | (.clusterStore _ _, _) => true
  | _ => false

/-- The first poisoned delivery to a register under a value of csr.optag emits SCALAR_POISON (R227). -/
def Device.scalarPoison (d : Device) (c : CoreId) (ea : Nat) (poison : Bool) : Device :=
  let k := d.core c
  let tag := k.csr.optag.toNat
  if !poison || k.poisonTags.contains tag then d
  else (d.setCore c { k with poisonTags := sinsert k.poisonTags tag }).emit (srcCore c 0x00) 0x500A .deferred true
    (detail [(0, 8, k.pc.toNat), (8, 2, tag), (10, 6, ea)]) (d.originOf c)

/-- An access to the semaphore at sa: alignment, then the address, which must fall in a cluster store (R245, R254). -/
def State.semaphore (s : State) (c : CoreId) (w : Ins) (store : Bool) (clean : List Nat) (f : Nat → Nat → Act) : Act :=
  let k := s.dev.core c
  let ea := (k.getS w.a.toNat).val.toNat
  needClean k clean
    (if ea % 8 ≠ 0 then .raise (excMisaligned ea)
     else match s.semAddr c ea store with
       | none => .raise (excAccess ea)
       | some a => if inClusterStore a then f ea a else .raise (excAccess ea))

/-- The semaphore word at a device address, with its poison. -/
def State.semWord (s : State) (a : Nat) : PVal := ⟨BitVec.ofNat 64 (s.loadN a 8), s.poisoned a 8⟩

/-- A semaphore word written. -/
def State.semPut (s : State) (a : Nat) (v : W64) (p : Bool) : State := s.store a (leBytes 8 v.toNat) p

/-- The old value of a semaphore goes to sd. -/
def State.semOld (s : State) (c : CoreId) (w : Ins) (ea : Nat) (old : PVal) : State :=
  (s.onDev fun d => d.scalarPoison c ea (old.poison && decide (w.d ≠ 0))).putS c w.d.toNat old

/-- SEM.ADD. -/
def execSemAdd (c : CoreId) (w : Ins) (s : State) : Host.Outcome State Fault Refusal :=
  memNext s fun s => s.runIns c 0x60 w fun s => s.semaphore c w true [w.a.toNat] fun ea a =>
    let old := s.semWord a
    let b := (s.dev.core c).getS w.b.toNat
    .done ((s.semPut a (old.val + b.val) (old.poison || b.poison)).semOld c w ea old)

/-- SEM.CAS. -/
def execSemCas (c : CoreId) (w : Ins) (s : State) : Host.Outcome State Fault Refusal :=
  memNext s fun s => s.runIns c 0x61 w fun s => s.semaphore c w true [w.a.toNat] fun ea a =>
    let old := s.semWord a
    let b := (s.dev.core c).getS w.b.toNat
    let x := (s.dev.core c).getS w.c.toNat
    .done ((s.semPut a (if old.val = b.val then x.val else old.val) (old.poison || b.poison || x.poison)).semOld c w ea old)

/-- SEM.SET. -/
def execSemSet (c : CoreId) (w : Ins) (s : State) : Host.Outcome State Fault Refusal :=
  memNext s fun s => s.runIns c 0x62 w fun s => s.semaphore c w true [w.a.toNat] fun _ a =>
    let b := (s.dev.core c).getS w.b.toNat
    .done (s.semPut a b.val ((s.semWord a).poison || b.poison))

/-- When a timeout of n nanoseconds expires, in tenths of a nanosecond of the table clock; all ones: never (R247). -/
def Device.deadline (d : Device) (n : W64) : Option Nat :=
  if n = BitVec.allOnes 64 then none else some ((d.ns + n.toNat) * 10)

/-- A wait that ends: pd is written, the instruction retires and the core goes on. -/
def Device.waitDone (d : Device) (c : CoreId) (pd : Nat) (v : Bool) : Device :=
  (d.onCore c fun k => { (k.setP pd ⟨v, false⟩) with run := .running }).retire c

/-- WAIT's indivisible access where its condition holds: with DEC the compare value is subtracted. -/
def State.waitTake (s : State) (a : Nat) (dec : Bool) (cmp : W64) : State :=
  if dec then s.semPut a ((s.semWord a).val - cmp) false else s

/-- WAIT (R247): success at once, one test where the timeout is 0, else the core waits. Byte 10 of POISON_USE for a poisoned semaphore word is
0: no register is concerned (DESIGN CHOICE, log 222). -/
def execWait (c : CoreId) (w : Ins) (s : State) : Host.Outcome State Fault Refusal :=
  memNext s fun s => s.runIns c 0x63 w fun s => s.semaphore c w (bitAt w.imm.toNat 3)
    [w.a.toNat, w.b.toNat, w.c.toNat] fun _ a =>
    let i := w.imm.toNat
    let m := s.semWord a
    let b := ((s.dev.core c).getS w.b.toNat).val
    let t := ((s.dev.core c).getS w.c.toNat).val
    if m.poison then .raise (excPoison 0 2)
    else if waitHolds (i % 8) m.val b then .done ((s.waitTake a (bitAt i 3) b).putP c w.d.toNat ⟨true, false⟩)
    else if t = 0 then .done (s.putP c w.d.toNat ⟨false, false⟩)
    else .busy (s.onDev fun d => d.setRunState c (.waiting a (i % 8) (bitAt i 3) b w.d.toNat (d.deadline t)))

/-- A waiting core samples its semaphore: poison raises POISON_USE, the condition completes WAIT. Answers whether the wait
is over. -/
def State.waitSample (s : State) (c : CoreId) : State × Bool :=
  match (s.dev.core c).run with
  | .waiting a cond dec cmp pd _ =>
    let m := s.semWord a
    if m.poison then (s.onDev fun d => (d.setRunState c .running).raise c (excPoison 0 2), true)
    else if waitHolds cond m.val cmp then ((s.waitTake a dec cmp).onDev fun d => d.waitDone c pd true, true)
    else (s, false)
  | _ => (s, false)

/-- WAIT_SUCCESS. -/
def execWaitSuccess (c : CoreId) (s : State) : Host.Outcome State Fault Refusal := memNext s fun s => (s.waitSample c).1

/-- WAIT_TIMEOUT: where the condition holds in the same cycle the arrival wins (R40). -/
def execWaitTimeout (c : CoreId) (s : State) : Host.Outcome State Fault Refusal :=
  memNext s fun s =>
    match (s.dev.core c).run with
    | .waiting _ _ _ _ pd (some e) =>
      if s.dev.clock < e then s
      else
        let r := s.waitSample c
        if r.2 then r.1 else s.onDev fun d => d.waitDone c pd false
    | _ => s

/-! ## FENCE (R249, R258) -/

/-- FENCE: the core issues nothing more until FENCE_COMPLETE. -/
def execFence (c : CoreId) (w : Ins) (s : State) : Host.Outcome State Fault Refusal :=
  memNext s fun s => s.runIns c 0x64 w fun s => 
    .busy (s.onDev fun d => d.setRunState c (.fencing w.imm.toNat (guardPoison (s.dev.core c) w)))

/-- A FENCE completes. Scalar accesses and stores are performed as they execute in this model, so L, S and I hold; with
T = 1 every earlier tensor operation must have completed, and a pending fault, then a poisoned guard, is reported (R254, R258). -/
def Device.fenceComplete (d : Device) (c : CoreId) : Device :=
  match (d.core c).run with
  | .fencing i p =>
    if bitAt i 2 then
      if !(d.opsDone c) then d
      else
        let d1 := d.setRunState c .running
        if (d1.core c).csr.fpend then d1.raise c (excTensor (d1.core c))
        else match p with
          | some r => d1.raise c (excPoison r 1)
          | none => d1.retire c
    else (d.setRunState c .running).retire c
  | _ => d

/-- FENCE_COMPLETE. -/
def execFenceComplete (c : CoreId) (s : State) : Host.Outcome State Fault Refusal := devNext s fun d => d.fenceComplete c

/-! ## Control-core instructions (R250) -/

/-- ERET. -/
def execEret (c : CoreId) (w : Ins) (s : State) : Host.Outcome State Fault Refusal :=
  memNext s fun s => s.runIns c 0xE0 w fun s =>
    let t := (s.dev.core c).csr.epc
    .jump (s.onDev fun d => (d.onCore c Core.returnException).traceNote c (indPacket 1 t)) t

/-- TRACE: start, stop, mark or trigger of the core's own trace port (R250, R615, R619, R623). -/
def execTrace (c : CoreId) (w : Ins) (s : State) : Host.Outcome State Fault Refusal :=
  memNext s fun s => s.runIns c 0xE2 w fun s =>
    let p := partOf c
    .done (s.onDev fun d =>
      match w.imm.toNat with
      | 0 => Device.traced (d.traceStart p)
      | 1 => Device.traced (d.traceStop p)
      | 2 => d.traceNote c ((0x05 : Byte) :: (leBytes 4 ((d.core c).getS w.a.toNat).val.toNat ++ leBytes 8 d.ns))
      | _ => Device.traced (d.traceTrigger p 0))

/-- A core's watchdog starts its period again (R250). -/
def Device.wdogRestart (d : Device) (c : CoreId) : Device :=
  d.onCore c fun k => { k with wdogAt := some (d.clock + (k.csr.wdog.toNat % 2 ^ 32) * 10000) }

/-- WDOG. -/
def execWdog (c : CoreId) (w : Ins) (s : State) : Host.Outcome State Fault Refusal :=
  memNext s fun s => s.runIns c 0xE4 w fun s => .done (s.onDev fun d => d.wdogRestart c)

/-- An enabled notification is pending. -/
def Device.notified (d : Device) (c : CoreId) : Bool := decide (d.ipend c &&& (d.core c).csr.ienable.toNat ≠ 0)

/-- IDLE. -/
def execIdle (c : CoreId) (w : Ins) (s : State) : Host.Outcome State Fault Refusal :=
  memNext s fun s => s.runIns c 0xE5 w fun s =>
    let k := s.dev.core c
    let t := (k.getS w.a.toNat).val
    needClean k [w.a.toNat]
      (if s.dev.notified c then .done (s.putP c w.d.toNat ⟨true, false⟩)
       else if t = 0 then .done (s.putP c w.d.toNat ⟨false, false⟩)
       else .busy (s.onDev fun d => d.setRunState c (.idling w.d.toNat (d.deadline t))))

/-- An idling core with an enabled notification pending goes on. -/
def Device.idleWake (d : Device) (c : CoreId) : Device :=
  match (d.core c).run with
  | .idling pd _ => if d.notified c then d.waitDone c pd true else d
  | _ => d

/-- IDLE_WAKE. -/
def execIdleWake (c : CoreId) (s : State) : Host.Outcome State Fault Refusal := devNext s fun d => d.idleWake c

/-- IDLE_TIMEOUT: a notification in the same cycle wins (R40). -/
def execIdleTimeout (c : CoreId) (s : State) : Host.Outcome State Fault Refusal :=
  devNext s fun d =>
    match (d.core c).run with
    | .idling pd (some e) => if d.clock < e then d else if d.notified c then d.waitDone c pd true else d.waitDone c pd false
    | _ => d

/-- TIMER_EXPIRY: csr.ipend.TIMER is a view of the table clock (R229); where csr.time has reached csr.timer, an idling core
that enables it goes on. -/
def execTimerExpiry (c : CoreId) (s : State) : Host.Outcome State Fault Refusal :=
  devNext s fun d => if (d.core c).csr.timer.toNat ≤ d.ns then d.idleWake c else d

end Sys2Proof.Machine
end

