-- ==== Sys2Proof/Machine/WidthCtl.lean ====
section
/-!
DEFINITION. The width controller of a cluster: its register writes (R93, R183, R185, R186, R200, R214 to R216), the
close of a step with the rules and proposals (R200 to R205, R218), the commit (R102, R213, R219), and the merge
(R220, R221).
-/
namespace Sys2Proof.Machine

/-! ## Registers -/

/-- CLU.WC_CTL.ENABLE (R216). -/
def Device.wcOn (d : Device) (cl : ClusterId) : Bool := d.rbit (Reg.wcCtl cl) 0

/-- CLU.WC_STAT.STATE: 0 open, 1 closing, 2 proposed, 3 committing (R216). -/
def Device.wcState (d : Device) (cl : ClusterId) : Nat := d.rf (Reg.wcStat cl) 1 0

/-- CLU.WC_STAT.NEXT_READY (R216). -/
def Device.nextReady (d : Device) (cl : ClusterId) : Bool := d.rbit (Reg.wcStat cl) 2

/-- STATE changes, and the control core is notified (R229). -/
def Device.setWcState (d : Device) (cl : ClusterId) (x : Nat) : Device :=
  (d.setRf (Reg.wcStat cl) 1 0 x).onCore (ctrlOf cl) fun k => k.notify 3

/-- A record of the width controller (R222). -/
def Device.wcEmit (d : Device) (cl : ClusterId) (code : Nat) (cls : EvClass) (det : List (Nat × Nat × Nat)) : Device :=
  d.emit (srcClu cl 0x14) code cls false (detail det)

/-- A command of a cluster of the module: others reach nothing (R357). -/
def onCluster (s : State) (cl : ClusterId) (f : Device → Device) : Host.Outcome State Fault Refusal :=
  devNext s fun d => if clusterPresent cl then f d else d

/-- A write of CLU.CB_DESC: a WIDTH that leaves 0 is checked against the entries (R93). -/
def Device.writeCbDesc (d : Device) (cl : ClusterId) (n : Nat) (v : W64) : Device :=
  let o := Reg.cbDesc cl n
  let d1 := d.writeFields o v
  if d.rf o 3 0 = 0 ∧ d1.rf o 3 0 ≠ 0 then
    if d1.cbCheck cl n (d1.rf o 3 0) then d1.setRf o 16 16 0 else (d1.setRf o 3 0 0).setRf o 16 16 1
  else d1

/-- A write of CLU.CB_ENTRY: ignored while the slot is valid (R93). -/
def Device.writeCbEntry (d : Device) (cl : ClusterId) (n k : Nat) (v : W16) : Device :=
  let o := Reg.cbEntry cl n k
  let j := 16 * (k % 4)
  if d.rf (Reg.cbDesc cl n) 3 0 ≠ 0 then d
  else (d.setRf o (j + 6) j (bitsOf v.toNat 6 0)).setRf o (j + 14) (j + 8) (bitsOf v.toNat 14 8)

/-- The SCALE_RANGE record of an entry is armed again (R100). -/
def Device.rearmRange (d : Device) (cl : ClusterId) (i : Nat) : Device :=
  let u := d.unitsOf cl
  d.setUnits cl { u with ranged := sremove u.ranged i }

/-- The maxima of an entry are forgotten: its VALID became 1 (R102). -/
def Device.forgetMax (d : Device) (cl : ClusterId) (i : Nat) : Device :=
  let u := d.unitsOf cl
  d.setUnits cl { u with history := tdel u.history i }

/-- The current entry i becomes the word w (R100, R102). -/
def Device.installTscale (d : Device) (cl : ClusterId) (i : Nat) (w : W64) : Device :=
  let old := d.regN (Reg.tscaleEnt cl i)
  let d1 := d.setReg (Reg.tscaleEnt cl i) w
  let d2 := if tsValue old ≠ tsValue w.toNat then d1.rearmRange cl i else d1
  if !(tsValid old) && tsValid w.toNat then d2.forgetMax cl i else d2

/-- A write of CLU.TSCALE_ENT: ignored while ENABLE = 1, else made to the next generation too (R214). -/
def Device.writeTscaleEnt (d : Device) (cl : ClusterId) (i : Nat) (v : W64) : Device :=
  if d.wcOn cl then d
  else
    let w := (d.writeFields (Reg.tscaleEnt cl i) v).reg (Reg.tscaleEnt cl i)
    (d.installTscale cl i w).writeFields (Reg.tscaleNext cl i) v

/-- A write of CLU.TSCALE_NEXT: ignored while NEXT_READY = 0 (R219). -/
def Device.writeTscaleNext (d : Device) (cl : ClusterId) (i : Nat) (v : W64) : Device :=
  if d.nextReady cl then d.writeFields (Reg.tscaleNext cl i) v else d

/-- A write of one word of CLU.LAYER_DESC: ignored while ENABLE = 1, else made to the next generation too (R185, R214), as it stands there,
though a rung that R186 reserves in LAYER_NEXT be among it (DESIGN CHOICE, log 216). -/
def Device.writeLayerDesc (d : Device) (cl : ClusterId) (n word : Nat) (v : W64) : Device :=
  if d.wcOn cl then d
  else (d.writeFields (Reg.layerDesc cl n word) v).writeFields (Reg.layerNext cl n word) v

/-- A rung of a next descriptor that is legal: in the ladder and between RUNG_MIN and RUNG_MAX of word w (R186). -/
def rungLegal (ladder w r : Nat) : Bool :=
  decide (bitsOf w 10 8 ≤ r) && decide (r ≤ bitsOf w 14 12) && decide (r < ladderLen ladder)

/-- The rung nearest to r between RUNG_MIN and the highest valid rung at or below RUNG_MAX (R220). -/
def clampRung (ladder w : Nat) (r : Int) : Nat :=
  let t := Nat.min (ladderLen ladder - 1) (bitsOf w 14 12)
  (min (max r (bitsOf w 10 8 : Nat)) (t : Nat)).toNat

/-- A write of one word of CLU.LAYER_NEXT: ignored while NEXT_READY = 0 (R219); a reserved rung leaves its field as it was
(R12, R186) and emits WIDTH_CLAMP (R220). -/
def Device.writeLayerNext (d : Device) (cl : ClusterId) (n word : Nat) (v : W64) : Device :=
  if !(d.nextReady cl) then d
  else if word % 2 = 1 then d.writeFields (Reg.layerNext cl n 1) v
  else
    let o := Reg.layerNext cl n 0
    let ladder := d.regN (Reg.wcLadder cl)
    let d1 := d.writeFields o v
    let w := d1.regN o
    [(0, 0), (1, 4)].foldl (fun d2 p =>
      let r := bitsOf v.toNat (p.2 + 2) p.2
      if rungLegal ladder w r then d2
      else
        let kept := d.rf o (p.2 + 2) p.2
        (d2.setRf o (p.2 + 2) p.2 kept).wcEmit cl 0x4002 .notice [(0, 1, n), (1, 1, p.1), (2, 1, r), (3, 1, kept)]) d1

/-- The code width of a codebook of a ladder; none where the ladder may not name it (R183). -/
def Device.rungWidth (d : Device) (cl : ClusterId) (id : Nat) : Option Nat :=
  match d.codebook cl id with
  | .found cb => some cb.width
  | _ => none

/-- A ladder that CLU.WC_LADDER may hold: every valid rung names a codebook and widths do not decrease (R182, R183). -/
def Device.ladderOk (d : Device) (cl : ClusterId) (v : Nat) : Bool :=
  let ws := (List.range (ladderLen v)).map fun k => d.rungWidth cl (bitsOf v (8 * k + 7) (8 * k))
  ws.all Option.isSome && (List.range (ws.length - 1)).all fun k =>
    decide ((ws.getD k none).getD 0 ≤ (ws.getD (k + 1) none).getD 0)

/-- A write of CLU.WC_LADDER (R183). -/
def Device.writeWcLadder (d : Device) (cl : ClusterId) (v : W64) : Device :=
  if d.wcOn cl || !(d.ladderOk cl v.toNat) then d else d.writeFields (Reg.wcLadder cl) v

/-- A cluster with words lo to hi − 1 of the width-controller region cleared. -/
def Cluster.wcClear (x : Cluster) (lo hi : Nat) : Cluster :=
  { x with wc := x.wc.filter fun p => decide (p.1 < lo) || decide (hi ≤ p.1) }

/-- A cluster with one word of the width-controller region set. -/
def Cluster.wcPut (x : Cluster) (i v : Nat) : Cluster :=
  { x with wc := if v = 0 then tdel x.wc i else tput x.wc i (BitVec.ofNat 64 v) }

/-- A write of CLU.WC_RULE or CLU.WC_RULE_TH resets the rule's streak counts (R200). -/
def Device.writeWcRule (d : Device) (cl : ClusterId) (k : Nat) (threshold : Bool) (v : W64) : Device :=
  let d1 := d.writeFields (if threshold then Reg.wcRuleTh cl k else Reg.wcRule cl k) v
  d1.setCluster cl ((d1.cluster cl).wcClear (0x100 + 16 * k) (0x100 + 16 * k + 16))

/-- A write of CLU.WC_STEP or CLU.WC_SEED: ignored while ENABLE = 1 (R216). -/
def Device.writeWcStep (d : Device) (cl : ClusterId) (seed : Bool) (v : W64) : Device :=
  if d.wcOn cl then d else d.writeFields (if seed then Reg.wcSeed cl else Reg.wcStep cl) v

/-- WC_CTL.ENABLE is written: streak counts clear when it goes from 0 to 1 (R203). -/
def Device.writeWcEnable (d : Device) (cl : ClusterId) (on : Bool) : Device :=
  let d1 := d.setRf (Reg.wcCtl cl) 0 0 (ofBool on)
  if on && !(d.wcOn cl) then d1.setCluster cl ((d1.cluster cl).wcClear 0x100 0x300) else d1

/-! ## CLOSE and COMMIT (R218, R219) -/

/-- A CLOSE or COMMIT is ignored with WC_SEQUENCE (R218, R222). -/
def Device.wcSequence (d : Device) (cl : ClusterId) (cause : Nat) : Device :=
  d.wcEmit cl 0x4007 .deferred [(0, 1, cause), (1, 1, d.wcState cl)]

/-- CLOSE is written while ENABLE was `on`; answers whether the cluster accepts it (R218). -/
def Device.wcClose (d : Device) (cl : ClusterId) (on : Bool) : Device × Bool :=
  if !on then (d.wcSequence cl 3, false)
  else if d.wcState cl ≠ 0 then (d.wcSequence cl 0, false)
  else (d.setWcState cl 1, true)

/-- COMMIT is written while ENABLE was `on`; answers whether the cluster accepts it (R219). -/
def Device.wcCommit (d : Device) (cl : ClusterId) (on : Bool) : Device × Bool :=
  if !on then (d.wcSequence cl 3, false)
  else if d.wcState cl ≠ 2 then (d.wcSequence cl 1, false)
  else if d.rf (Reg.wcEpoch cl) 47 32 ≠ (d.curEpoch cl + 1).toNat then (d.wcSequence cl 2, false)
  else (d.setWcState cl 3, true)

/-- A write of CLU.WC_CTL: CLOSE and COMMIT are judged by the ENABLE held before it (R218). -/
def Device.writeWcCtl (d : Device) (cl : ClusterId) (v : W64) : Device :=
  let on := d.wcOn cl
  let d1 := d.writeWcEnable cl (bitAt v.toNat 0)
  let d2 := if bitAt v.toNat 1 then (d1.wcClose cl on).1 else d1
  if bitAt v.toNat 2 then (d2.wcCommit cl on).1 else d2

/-! ## Rules and proposals (R200 to R205) -/

/-- The histogram bins from lo to hi − 1 of a scorecard, added. -/
def Cluster.bins (x : Cluster) (bank n lo hi : Nat) : Nat :=
  ((List.range 16).filter fun b => decide (lo ≤ b) && decide (b < hi)).foldl
    (fun a b => a + x.scGet bank n (32 + 2 * b) 2) 0

/-- The value V that FIELD selects (R201). -/
def Cluster.ruleValue (x : Cluster) (bank n field bin : Nat) : Nat :=
  let h := x.bins bank n 0 16
  match field with
  | 0x00 => x.scGet bank n 0 4
  | 0x01 => x.scGet bank n 4 2
  | 0x02 => x.scGet bank n 6 1
  | 0x03 => x.scGet bank n 7 1
  | 0x04 => x.scGet bank n 8 4
  | 0x05 => x.scGet bank n 12 2
  | 0x06 => x.scGet bank n 14 2
  | 0x07 => x.scGet bank n 17 1
  | 0x08 => x.scGet bank n 16 1 % 128
  | 0x09 => x.scGet bank n 18 2
  | 0x0A => x.scGet bank n 20 2
  | 0x0B => x.scGet bank n 22 2
  | 0x0C => x.scGet bank n 24 4 / x.scGet bank n 20 2
  | 0x0D => x.scGet bank n 28 4
  | 0x0E => 65536 * x.bins bank n bin 16 / Nat.max 1 h
  | 0x0F => 65536 * x.bins bank n 0 bin / Nat.max 1 h
  | 0x10 => h
  | _ => 1

/-- What a rule that fired proposes: its number, action, scope and argument (R202). -/
structure Fired where
  rule : Nat
  action : Nat
  block : Bool
  arg : Nat
  value : Nat
  deriving DecidableEq, Repr

/-- The streak count of a rule for a layer (R203). -/
def Cluster.streak (x : Cluster) (k n : Nat) : Nat :=
  let o := 0x800 + 128 * k + n / 2
  let i := 8 * (o % 8) + 4 * (n % 2)
  bitsOf (tget x.wc (0 : W64) (o / 8)).toNat (i + 3) i

/-- A cluster with the streak count of a rule for a layer set. -/
def Cluster.setStreak (x : Cluster) (k n c : Nat) : Cluster :=
  let o := 0x800 + 128 * k + n / 2
  let i := 8 * (o % 8) + 4 * (n % 2)
  x.wcPut (o / 8) (setBits (tget x.wc (0 : W64) (o / 8)).toNat (i + 3) i c)

/-- Rule k with words r and th is evaluated for a layer; answers the new streak and whether it fires (R203). -/
def Cluster.evalRule (x : Cluster) (bank n k r th : Nat) : Cluster × Option Fired :=
  let v := x.ruleValue bank n (bitsOf r 8 4) (bitsOf r 12 9)
  let holds := if bitAt r 1 then decide (v < th) else decide (th ≤ v)
  let c := if holds then Nat.min 15 (x.streak k n + 1) else 0
  if holds && decide (bitsOf r 19 16 ≤ c) then
    (x.setStreak k n 0, some ⟨k, bitsOf r 23 20, bitAt r 2, bitsOf r 26 24, v⟩)
  else (x.setStreak k n c, none)

/-- The signed maximum of the values proposed, in w bits; neutral where none is (R205). -/
def maxDelta (w : Nat) (l : List Int) : Nat :=
  match l with
  | [] => 0
  | a :: r => wrapInt (r.foldl max a) w

/-- SCALE or OBS combined: 1 where any is 1, else 2 where there are some and all are 2 (R205). -/
def mergeChoice (l : List Nat) : Nat :=
  if l.contains 1 then 1 else if !l.isEmpty && l.all (fun x => x == 2) then 2 else 0

/-- The proposal word of the rules that fired for a layer (R204, R205). -/
def proposalWord (fs : List Fired) : Nat :=
  let deltas := fun (up down scale : Nat) => fs.filterMap fun f =>
    if f.block && decide (f.action ≤ 4) then none
    else if f.action = up then some ((scale * f.arg : Nat) : Int)
    else if f.action = down then some (-((scale * f.arg : Nat) : Int))
    else none
  let blocks := fun (a b : Nat) => fs.filterMap fun f =>
    if f.block && (decide (f.action = a) || decide (f.action = b)) then some (Nat.min 3 f.arg) else none
  let picks := fun (a b : Nat) => fs.filterMap fun f =>
    if f.action = a then some 1 else if f.action = b then some 2 else none
  let cold := blocks 2 4
  if fs.isEmpty then 0
  else maxDelta 4 (deltas 1 2 1) + maxDelta 4 (deltas 3 4 1) <<< 4 + (blocks 1 3).foldl Nat.max 0 <<< 8
    + cold.foldl Nat.min (cold.headD 0) <<< 10 + mergeChoice (picks 5 6) <<< 12 + mergeChoice (picks 9 10) <<< 14
    + maxDelta 8 (deltas 7 8 8) <<< 16 + 1 <<< 28 + (fs.foldl (fun a f => a ||| 1 <<< f.rule) 0) <<< 32

/-- Two proposal words combined, neutral values included (R205). -/
def combineWords (a b : Nat) : Nat :=
  let sMax := fun hi lo =>
    wrapInt (max (sext (bitsOf a hi lo) (hi + 1 - lo)) (sext (bitsOf b hi lo) (hi + 1 - lo))) (hi + 1 - lo)
  let pick := fun hi lo => mergeChoice [bitsOf a hi lo, bitsOf b hi lo]
  sMax 3 0 + sMax 7 4 <<< 4 + Nat.max (bitsOf a 9 8) (bitsOf b 9 8) <<< 8
    + Nat.min (bitsOf a 11 10) (bitsOf b 11 10) <<< 10 + pick 13 12 <<< 12 + pick 15 14 <<< 14 + sMax 23 16 <<< 16
    + (bitsOf a 28 28 ||| bitsOf b 28 28) <<< 28 + (bitsOf a 63 32 ||| bitsOf b 63 32) <<< 32

/-- Every enabled rule is evaluated for one layer, its word is written, and notices are emitted (R202, R203). -/
def Device.evalLayer (d : Device) (cl : ClusterId) (bank n : Nat) (rules : List (Nat × Nat × Nat)) : Device :=
  let w := d.regN (Reg.layerDesc cl n 0)
  if !(bitAt w 37) || bitAt w 30 || bitAt w 31 then d.setCluster cl ((d.cluster cl).wcPut n 0)
  else
    let r := rules.foldl (fun (a : Cluster × List Fired) k =>
      if bitsOf k.2.1 39 32 ≤ n ∧ n ≤ bitsOf k.2.1 47 40 then
        let e := a.1.evalRule bank n k.1 k.2.1 k.2.2
        (e.1, a.2 ++ e.2.toList)
      else a) (d.cluster cl, [])
    let d1 := d.setCluster cl (r.1.wcPut n (proposalWord r.2))
    (r.2.filter fun f => f.action == 11).foldl
      (fun d f => d.wcEmit cl 0x4003 .notice [(0, 1, n), (1, 1, f.rule), (4, 4, f.value)]) d1

/-- The enabled rules of a cluster with their words (R200). -/
def Device.enabledRules (d : Device) (cl : ClusterId) : List (Nat × Nat × Nat) :=
  (List.range 32).filterMap fun k =>
    if d.rbit (Reg.wcRule cl k) 0 then some (k, d.regN (Reg.wcRule cl k), d.regN (Reg.wcRuleTh cl k)) else none

/-- The maxima of the step close, and each valid entry's history takes its own (R102, R218). -/
def Device.closeMaxima (d : Device) (cl : ClusterId) : Device :=
  (List.range 256).foldl (fun d i =>
    let w := d.regN (Reg.tscaleMax cl i)
    let d1 := if w = 0 then d else d.setRegN (Reg.tscaleMax cl i) (w / 2 ^ 32)
    if tsValid (d.regN (Reg.tscaleEnt cl i)) then
      let u := d1.unitsOf cl
      d1.setUnits cl
        { u with history := tput u.history i ((BitVec.ofNat 32 (w / 2 ^ 32) :: tget u.history [] i).take 32) }
    else d1) d

/-- The merges that wait, oldest last: those that a cluster of the seat has still to commit (R221). -/
def Device.mergesLive (d : Device) : List (Nat × Nat) :=
  d.peer.merges.filter fun m => allClusters.any fun c => decide (2 ≤ d.wcState c) && decide ((d.curEpoch c + 1).toNat = m.1)

/-- The close in a cluster whose samples are in: banks swap, maxima close, STEP goes up, the new open bank clears, the rules
are evaluated and the words written, and STATE is proposed (R218). R221 does not say when the
merge's wait starts: here with the first cluster of the seat that proposes for the epoch (DESIGN CHOICE, log 214). -/
def Device.closeSwap (d : Device) (cl : ClusterId) : Device :=
  if d.wcState cl ≠ 1 ∨ (d.unitsOf cl).samples.isEmpty = false then d
  else
    let closed := d.openBank cl
    let d1 := d.closeMaxima cl
    let d2 := d1.setRf (Reg.wcStep cl) 31 0 (d1.rf (Reg.wcStep cl) 31 0 + 1)
    let lo := (0x8000 + 0x4000 * (1 - closed)) / 8
    let d3 := d2.setCluster cl ((d2.cluster cl).wcClear lo (lo + 0x800))
    let u := d3.unitsOf cl
    let d4 := d3.setUnits cl { u with seen := [], overflow := [] }
    let rules := d4.enabledRules cl
    let d5 := (List.range 256).foldl (fun d n => d.evalLayer cl closed n rules) d4
    let e := (d.curEpoch cl + 1).toNat
    let live := d5.mergesLive
    (d5.setWcState cl 2).onPeer fun x => { x with merges := if live.any (fun m => decide (m.1 = e)) then live else (e, d.clock) :: live }

/-! ## The commit (R102, R213, R219) -/

/-- An expected epoch is at or before CURRENT, so its operation holds the commit (R219). -/
def Device.epochHolds (d : Device) (cl : ClusterId) (e : W16) : Bool :=
  decide (epochClass e (d.curEpoch cl) ≠ .newer)

/-- The run of a core waits for an epoch that its cluster has not committed: frozen with cause width-epoch drain (R137,
R212). -/
def State.runFrozen (s : State) (c : CoreId) (r : Run) : Bool :=
  let nw := if runWsrc r.op then runTiles r.k ((r.form.getD .single).positions) - r.loaded else 0
  !(s.dev.epochReached c r.op.epoch) ||
    match s.runNewer c r (((s.dev.tensor c).outOf r.op.seq).getD (outTile r.op 0 0 0 true true)) nw with
    | some e => !(s.dev.epochReached c e)
    | none => false

/-- The conversion at the head of a core's queue waits for an epoch not committed. -/
def State.convFrozen (s : State) (c : CoreId) (op : TOp) : Bool :=
  match s.dev.stream c op.ins.a.toNat with
  | none => false
  | some st => match st.next (s.dev.tensor c) with
    | none => false
    | some it => match s.dev.newerIn (cluOfCore c) op.epoch it.pkts with
      | some e => !(s.dev.epochReached c e)
      | none => false

/-- A drain of a core holds the commit (R219, R284). One that waits for the tile of a frozen run is frozen with it, since R212 has it
convert at the new epoch (DEDUCED, log 58). -/
def State.drainHolds (s : State) (cl : ClusterId) (c : CoreId) : Bool :=
  let t := s.dev.tensor c
  let frozen := match t.run with
    | none => none
    | some r => if s.runFrozen c r then some r.op.seq else none
  (t.drainQ.zipIdx).any fun p => s.dev.epochHolds cl p.1.epoch &&
    !(frozen.isSome && decide (((t.outs[p.2]?).map fun o => o.seq) = frozen))

/-- An operation of a core holds the commit: a run, a conversion, a drain (R208, R219). -/
def State.coreHolds (s : State) (cl : ClusterId) (k : Nat) : Bool :=
  let c := coreIn cl k
  let t := s.dev.tensor c
  let runs := match t.run with
    | none => false
    | some r => s.dev.epochHolds cl r.op.epoch && !(s.runFrozen c r)
  let convs := match t.convQ with
    | [] => false
    | o :: rest => (s.dev.epochHolds cl o.epoch && !(s.convFrozen c o)) || rest.any fun o => s.dev.epochHolds cl o.epoch
  runs || convs || (t.latticeQ.any fun o => decide (o.opc = 0x92) && s.dev.epochHolds cl o.epoch) || s.drainHolds cl c

/-- Something holds the commit of a cluster: an operation of one of its cores, an update program (R208, R219), or a roster that has not
settled after a missing merge (R221). -/
def State.commitHeld (s : State) (cl : ClusterId) : Bool :=
  s.dev.peer.mergeHeld || (List.range 0x22).any (s.coreHolds cl) ||
    (s.dev.unitsOf cl).updates.any fun p => s.dev.epochHolds cl p.2.epoch

/-- The merged maximum M of an entry over its last n closed steps in every cluster in service (R102, DEDUCED, log 17). -/
def Device.mergedMax (d : Device) (i n : Nat) : Nat :=
  d.units.foldl (fun a p =>
    if d.wcOn (clusterOf p.1) then ((tget p.2.history [] i).take n).foldl (fun a x => Nat.max a x.toNat) a else a) 0

/-- The running-maximum VALUE that a commit gives an entry whose next word is w (R102). -/
def Device.runningMax (d : Device) (cl : ClusterId) (i w : Nat) : Nat :=
  let fresh := !(tsValid (d.regN (Reg.tscaleEnt cl i)))
  if bitAt w 37 || !(tsValid w) || fresh then w
  else
    let m := d.mergedMax i (bitsOf w 36 32 + 1)
    if m = 0 then w else setBits w 31 0 (Nat.max m 0x0080_0000)

/-- The generations of the tensor scales rotate but for pinned entries (R213, R219). -/
def Device.rotateScales (d : Device) (cl : ClusterId) : Device :=
  (List.range 256).foldl (fun d i =>
    if d.pinned cl i then d
    else
      let cur := d.reg (Reg.tscaleEnt cl i)
      let nxt := BitVec.ofNat 64 (d.runningMax cl i (d.regN (Reg.tscaleNext cl i)))
      (d.setReg (Reg.tscalePrior cl i) cur).installTscale cl i nxt) d

/-- The generations of the layer descriptors rotate but for pinned layers (R213, R219). -/
def Device.rotateLayers (d : Device) (cl : ClusterId) : Device :=
  (List.range 256).foldl (fun d n =>
    if d.rbit (Reg.layerDesc cl n 0) 31 then d
    else (List.range 2).foldl (fun d k =>
      (d.setReg (Reg.layerPrior cl n k) (d.reg (Reg.layerDesc cl n k))).setReg (Reg.layerDesc cl n k)
        (d.reg (Reg.layerNext cl n k))) d) d

/-! ## The merge (R205, R220, R221) -/

/-- The next descriptor of a layer under a merged word: rungs with their clamp records, OUTL_ALLOW and OBSERVED (R220). -/
def Device.applyWord (d : Device) (cl : ClusterId) (n w : Nat) : Device :=
  let ladder := d.regN (Reg.wcLadder cl)
  let cur := d.regN (Reg.layerDesc cl n 0)
  let o := Reg.layerNext cl n 0
  let lim := d.regN o
  let d1 := [(0, 0), (1, 4)].foldl (fun d p =>
    let r : Int := (bitsOf cur (p.2 + 2) p.2 : Nat) + sext (bitsOf w (p.2 + 3) p.2) 4
    let x := clampRung ladder lim r
    let d1 := d.setRf o (p.2 + 2) p.2 x
    if (x : Int) = r then d1
    else d1.wcEmit cl 0x4002 .notice [(0, 1, n), (1, 1, p.1), (2, 1, wrapInt r 8), (3, 1, x)]) d
  let allow := (min (max ((bitsOf cur 22 16 : Nat) + sext (bitsOf w 23 16) 8) 0) 64).toNat
  let d2 := d1.setRf o 22 16 allow
  let d3 := match bitsOf w 15 14 with
    | 1 => d2.setRf o 29 29 1
    | 2 => d2.setRf o 29 29 0
    | _ => d2
  match bitsOf w 13 12 with
  | 0 => d3
  | m => (d3.setRf (Reg.tscaleNext cl (bitsOf lim 55 48)) 37 37 (2 - m)).setRf (Reg.tscaleNext cl (bitsOf lim 63 56)) 37 37
      (2 - m)

/-- The channels of a new outlier table of at most n channels: those of the current table still marked, then others marked,
each lowest index first, in ascending order (R220). -/
def newTable (n : Nat) (old marked : List Nat) : List Nat :=
  let first := marked.filter fun c => old.contains c
  let rest := marked.filter fun c => !(old.contains c)
  ((first ++ rest).take n).foldl sinsert []

/-- The clusters of the module that share a layer: their width controllers are in service and their current descriptor of it is valid
(R220). -/
def Device.sharing (d : Device) (n : Nat) : List ClusterId := allClusters.filter fun cl => d.wcOn cl && d.layerValid cl 0 n

/-- The other seats whose MERGE has reached a cluster in the merge that waits. -/
def Device.otherSeats (d : Device) (cl : ClusterId) : List Nat :=
  (List.range 9).filter fun t => decide (t ≠ d.seat) && d.peer.mergedFrom.contains (256 * t + clusterKey cl)

/-- A bit of the hot maps (`hot`) or the candidate maps of a layer, merged over the clusters that share it, those of other seats too: what
their maps hold is free, since a MERGE does not carry them (R220, log 185). -/
def State.mergedBit (s : State) (target : ClusterId) (n : Nat) (hot : Bool) (i : Nat) : Bool :=
  ((s.dev.sharing n).any fun cl =>
    let b := s.dev.mapBlocks cl 0 n
    let a := s.dev.mapBase cl 0 n + (if hot then hotOff b else candOff b) + i / 8
    decide (i < (if hot then b else 32 * b)) && s.present a && bitAt (s.byte a).toNat (i % 8))
  || (s.dev.otherSeats target).any fun t => Config.farMap t (s.dev.rf (Reg.wcStep target) 31 0) n hot i

/-- The next map area of a layer is built from the current one: its outlier table and block offsets from the merged maps, its own hot
and candidate maps clear (R187, R188, R220). An area of no blocks has its table built where the layer uses one (OUTL_EN). -/
def State.buildMaps (s : State) (cl : ClusterId) (n w : Nat) : State :=
  let o := Reg.layerNext cl n 1
  let base := 256 * s.dev.rf o 43 0
  let b0 := s.dev.mapBlocks cl 0 n
  let b := s.dev.rf o 63 44
  if (b = 0 ∧ s.dev.rf (Reg.layerNext cl n 0) 23 23 = 0) ∨ !(s.presentRange base (Nat.max 256 (candOff b + 4 * b))) then s
  else
    let wide := (s.dev.sharing n).foldl (fun m c => Nat.max m (s.dev.mapBlocks c 0 n)) b
    let marked := (List.range (32 * wide)).filter (s.mergedBit cl n false)
    let table := newTable (s.dev.rf (Reg.layerNext cl n 0) 22 16) ((s.outlierTable cl 0 n).getD []) marked
    let off := fun j =>
      let x := if j < b0 then (s.mapOffset cl 0 n j).getD 0 else 0
      if s.mergedBit cl n true j then Nat.min 3 (x + bitsOf w 9 8) else x - bitsOf w 11 10
    let offs := (List.range ((b + 3) / 4)).map fun q =>
      BitVec.ofNat 8 ((List.range 4).foldl (fun a i => a + (if 4 * q + i < b then off (4 * q + i) else 0) <<< (2 * i)) 0)
    let s1 := s.store base (((table.map fun c => leBytes 4 c) ++ List.replicate (64 - table.length)
      (leBytes 4 0xFFFF_FFFF)).flatten) false
    (s1.store (base + 256) offs false).store (base + hotOff b) (List.replicate (candOff b - hotOff b + 4 * b) 0) false

/-- The merged word of a layer in a cluster as far as it is known: its own, those of the clusters of this seat that share it and have
closed, and those of other seats that were combined into it (R205, R220). -/
def Device.mergedWord (d : Device) (cl : ClusterId) (n w : Nat) : Nat :=
  let own := (tget (d.cluster cl).wc (0 : W64) n).toNat
  (d.sharing n).foldl (fun a c =>
    if d.wcState c = 2 then combineWords a (tget (d.cluster c).wc (0 : W64) n).toNat else a) (combineWords own w)

/-- A MERGE of a seat reaches a cluster that shares the layers: words combine with those of this seat, maxima join the closed
step's, and the next generation is built from the merged words while it accepts writes (R205, R220). A layer whose next map area is
its current one has it built at the commit (log 185). -/
def State.mergeWords (s : State) (cl : ClusterId) (seat : Nat) (words : List (Nat × W64)) (maxima : List (Nat × W32)) : State :=
  if !(clusterPresent cl) || decide (s.dev.wcState cl ≠ 2) || !(s.dev.nextReady cl) then s
  else
    let s1 := s.onDev fun d => (maxima.foldl (fun d m =>
      let u := d.unitsOf cl
      match tget u.history [] m.1 with
      | [] => d
      | x :: r => d.setUnits cl { u with history := tput u.history m.1 ((if x.toNat < m.2.toNat then m.2 else x) :: r) }) d).onPeer
        fun x => { x with mergedFrom := sinsert x.mergedFrom (256 * seat + clusterKey cl) }
    words.foldl (fun s p =>
      let n := p.1 % 256
      let w := s.dev.mergedWord cl n p.2.toNat
      let s2 := s.onDev fun d =>
        let d1 := (d.setCluster cl ((d.cluster cl).wcPut n w)).applyWord cl n w
        let u := d1.unitsOf cl
        d1.setUnits cl { u with mergedLayers := sinsert u.mergedLayers n }
      if s2.dev.rf (Reg.layerNext cl n 1) 43 0 = s2.dev.layerF cl 0 n 107 64 then s2 else s2.buildMaps cl n w) s1

/-! ## The swap (R219) -/

/-- The map areas that merged layers keep are built anew in their places, once no operation of the cluster reads them (R220). -/
def State.buildInPlace (s : State) (cl : ClusterId) : State :=
  (s.dev.unitsOf cl).mergedLayers.foldl (fun s n =>
    if s.dev.rf (Reg.layerNext cl n 1) 43 0 = s.dev.layerF cl 0 n 107 64 then
      s.buildMaps cl n (tget (s.dev.cluster cl).wc (0 : W64) n).toNat
    else s) s

/-- A cluster has committed: the merge of its epoch is over once no cluster of the seat has still to commit it (R221). -/
def Device.mergeRound (d : Device) (cl : ClusterId) : Device :=
  let d1 := d.setUnits cl { d.unitsOf cl with mergedLayers := [] }
  d1.onPeer fun x => { x with merges := d1.mergesLive, mergedFrom := x.mergedFrom.filter fun k => decide (k % 256 ≠ clusterKey cl) }

/-- The generation swap of a committing cluster that nothing holds (R219). -/
def State.generationSwap (s : State) (cl : ClusterId) : State :=
  if s.dev.wcState cl ≠ 3 ∨ s.commitHeld cl = true then s
  else (s.buildInPlace cl).onDev fun d =>
    let o := Reg.wcEpoch cl
    let d1 := (d.rotateScales cl).rotateLayers cl
    let d2 := ((d1.setRf o 31 16 (d.rf o 15 0)).setRf o 15 0 (d.rf o 47 32)).setRf o 47 32 (d.rf o 47 32 + 1)
    let d3 := (d2.setRf (Reg.wcStat cl) 2 2 0).setWcState cl 0
    (d3.mergeRound cl).wcEmit cl 0x4005 .notice [(0, 2, d3.rf o 15 0), (4, 4, d3.rf (Reg.wcStep cl) 31 0)]

/-- The next generation holds a copy of the current one and accepts writes again (R219). -/
def Device.nextCopied (d : Device) (cl : ClusterId) : Device :=
  if d.nextReady cl then d
  else
    let d1 := (List.range 256).foldl (fun d i =>
      (List.range 2).foldl (fun d k => d.setReg (Reg.layerNext cl i k) (d.reg (Reg.layerDesc cl i k)))
        (d.setReg (Reg.tscaleNext cl i) (d.reg (Reg.tscaleEnt cl i)))) d
    d1.setRf (Reg.wcStat cl) 2 2 1

/-- WC_ABANDON in state open: the open bank and the open maxima are cleared (R543). -/
def Device.writeWcAbandon (d : Device) (cl : ClusterId) (v : W64) : Device :=
  if !(bitAt v.toNat 0) || decide (d.wcState cl ≠ 0) then d
  else
    let lo := (0x8000 + 0x4000 * d.openBank cl) / 8
    let d1 := d.setCluster cl ((d.cluster cl).wcClear lo (lo + 0x800))
    (List.range 256).foldl (fun d i =>
      if d.rf (Reg.tscaleMax cl i) 63 32 = 0 then d else d.setRf (Reg.tscaleMax cl i) 63 32 0) d1

/-! ## Commands -/

/-- CB_DESC_WRITE. -/
def execCbDescWrite (cl : ClusterId) (n : Nat) (v : W64) (s : State) : Host.Outcome State Fault Refusal :=
  onCluster s cl fun d => if n < 64 then d.writeCbDesc cl n v else d

/-- CB_ENTRY_WRITE. -/
def execCbEntryWrite (cl : ClusterId) (n k : Nat) (v : W16) (s : State) : Host.Outcome State Fault Refusal :=
  onCluster s cl fun d => if n < 64 ∧ k < 256 then d.writeCbEntry cl n k v else d

/-- TSCALE_ENT_WRITE. -/
def execTscaleEntWrite (cl : ClusterId) (i : Nat) (v : W64) (s : State) : Host.Outcome State Fault Refusal :=
  onCluster s cl fun d => if i < 256 then d.writeTscaleEnt cl i v else d

/-- TSCALE_NEXT_WRITE. -/
def execTscaleNextWrite (cl : ClusterId) (i : Nat) (v : W64) (s : State) : Host.Outcome State Fault Refusal :=
  onCluster s cl fun d => if i < 256 then d.writeTscaleNext cl i v else d

/-- LAYER_DESC_WRITE. -/
def execLayerDescWrite (cl : ClusterId) (n word : Nat) (v : W64) (s : State) : Host.Outcome State Fault Refusal :=
  onCluster s cl fun d => if n < 256 ∧ word < 2 then d.writeLayerDesc cl n word v else d

/-- LAYER_NEXT_WRITE. -/
def execLayerNextWrite (cl : ClusterId) (n word : Nat) (v : W64) (s : State) : Host.Outcome State Fault Refusal :=
  onCluster s cl fun d => if n < 256 ∧ word < 2 then d.writeLayerNext cl n word v else d

/-- WC_LADDER_WRITE. -/
def execWcLadderWrite (cl : ClusterId) (v : W64) (s : State) : Host.Outcome State Fault Refusal :=
  onCluster s cl fun d => d.writeWcLadder cl v

/-- WC_RULE_WRITE. -/
def execWcRuleWrite (cl : ClusterId) (k : Nat) (threshold : Bool) (v : W64) (s : State) :
    Host.Outcome State Fault Refusal :=
  onCluster s cl fun d => if k < 32 then d.writeWcRule cl k threshold v else d

/-- WC_STEP_WRITE. -/
def execWcStepWrite (cl : ClusterId) (seed : Bool) (v : W64) (s : State) : Host.Outcome State Fault Refusal :=
  onCluster s cl fun d => d.writeWcStep cl seed v

/-- WC_ENABLE. -/
def execWcEnable (cl : ClusterId) (enable : Bool) (s : State) : Host.Outcome State Fault Refusal :=
  onCluster s cl fun d => d.writeWcEnable cl enable

/-- CLOSE. -/
def execClose (cl : ClusterId) (s : State) : Host.Outcome State Fault Refusal :=
  onCluster s cl fun d => (d.wcClose cl (d.wcOn cl)).1

/-- CLOSE_BANK_SWAP. -/
def execCloseBankSwap (cl : ClusterId) (s : State) : Host.Outcome State Fault Refusal :=
  onCluster s cl fun d => d.closeSwap cl

/-- COMMIT. -/
def execCommit (cl : ClusterId) (s : State) : Host.Outcome State Fault Refusal :=
  onCluster s cl fun d => (d.wcCommit cl (d.wcOn cl)).1

/-- GENERATION_SWAP. -/
def execGenerationSwap (cl : ClusterId) (s : State) : Host.Outcome State Fault Refusal :=
  memNext s fun s => if clusterPresent cl then s.generationSwap cl else s

/-- NEXT_COPY_DONE. -/
def execNextCopyDone (cl : ClusterId) (s : State) : Host.Outcome State Fault Refusal :=
  onCluster s cl fun d => d.nextCopied cl

/-- WC_ABANDON. -/
def execWcAbandon (cl : ClusterId) (s : State) : Host.Outcome State Fault Refusal :=
  onCluster s cl fun d => d.writeWcAbandon cl 1

/-- AGREEMENT_SAMPLE: the CFU completes the oldest outstanding sample with the master weights given (R199). -/
def execAgreementSample (cl : ClusterId) (weights : List (List W32)) (s : State) : Host.Outcome State Fault Refusal :=
  onCluster s cl fun d => d.completeSample cl weights

/-- WCOMMIT (R252). -/
def execWcommit (c : CoreId) (w : Ins) (s : State) : Host.Outcome State Fault Refusal :=
  memNext s fun s => s.runIns c 0xE3 w fun s =>
    let k := s.dev.core c
    let v := (k.getS w.a.toNat).val.toNat
    let own := decide (v % 256 = 0xFF)
    needClean k [w.a.toNat]
      (if v / 256 ≠ 0 ∨ (own = true ∧ isSteward c = true) ∨ (own = false ∧ 8 ≤ bitsOf v 7 4) then
        .done (s.putP c w.d.toNat ⟨false, false⟩)
      else
        let cl : ClusterId := if own then cluOfCore c else ⟨bitsOf v 7 4, bitsOf v 3 0⟩
        let r := if w.imm.toNat = 1 then s.dev.wcClose cl (s.dev.wcOn cl) else s.dev.wcCommit cl (s.dev.wcOn cl)
        .done ((s.onDev fun _ => r.1).putP c w.d.toNat ⟨r.2, false⟩))

end Sys2Proof.Machine
end

