-- ==== Sys2Proof/Machine/Wire.lean ====
section
/-!
DEFINITION. The wire engine of a cluster (R174 to R178, R403 to R409) and the training masks (R400).
-/
namespace Sys2Proof.Machine

/-! ## The ring and its commands (R403, R404) -/

/-- Number of entries of a cluster's wire ring. -/
def Device.wireDepth (d : Device) (cl : ClusterId) : Nat := 4 * 2 ^ d.rf (Reg.wireRing cl) 3 1

/-- CLU.WIRE_STAT.HEAD. -/
def Device.wireHeadAt (d : Device) (cl : ClusterId) : Nat := d.rf (Reg.wireStat cl) 6 0

/-- Device address of ring entry i of a cluster. -/
def Device.wireEntry (d : Device) (cl : ClusterId) (i : Nat) : Nat :=
  clusterStoreAddr cl.die cl.cluster (256 * d.rf (Reg.wireRing cl) 22 8 + 64 * i)

/-- A wire command: its 64 bytes. -/
structure WireCmd where
  bytes : List Byte

/-- OP. -/
def WireCmd.op (w : WireCmd) : Nat := leAt w.bytes 0 1
/-- FLAGS bit i. -/
def WireCmd.flag (w : WireCmd) (i : Nat) : Bool := bitAt (leAt w.bytes 1 1) i
/-- OP_TAG. -/
def WireCmd.tag (w : WireCmd) : Nat := leAt w.bytes 2 2
/-- K. -/
def WireCmd.k (w : WireCmd) : Nat := leAt w.bytes 4 1
/-- TSC_WIRE. -/
def WireCmd.tscWire (w : WireCmd) : Nat := leAt w.bytes 5 1
/-- TSC_W. -/
def WireCmd.tscW (w : WireCmd) : Nat := leAt w.bytes 6 1
/-- TSC_A. -/
def WireCmd.tscA (w : WireCmd) : Nat := leAt w.bytes 7 1
/-- SRC. -/
def WireCmd.src (w : WireCmd) : Nat := leAt w.bytes 8 8
/-- DST. -/
def WireCmd.dst (w : WireCmd) : Nat := leAt w.bytes 16 8
/-- COUNT. -/
def WireCmd.count (w : WireCmd) : Nat := leAt w.bytes 24 5
/-- INDEX_BASE. -/
def WireCmd.index (w : WireCmd) : Nat := leAt w.bytes 32 5
/-- TENSOR. -/
def WireCmd.tensor (w : WireCmd) : Nat := leAt w.bytes 48 4
/-- FMT. -/
def WireCmd.fmt (w : WireCmd) : Nat := leAt w.bytes 52 4
/-- STRIDE. -/
def WireCmd.stride (w : WireCmd) : Nat := leAt w.bytes 56 4
/-- SEM. -/
def WireCmd.sem (w : WireCmd) : Nat := leAt w.bytes 60 4
/-- The key of a command that starts in a step. -/
def WireCmd.key (w : WireCmd) (step : Nat) : DrawKey := ⟨leAt w.bytes 40 8, 0, step, leAt w.bytes 48 4⟩

/-- The tensor-scale entries a command names (R404, R408). -/
def WireCmd.entries (w : WireCmd) : List Nat :=
  match w.op with
  | 0 => w.tscWire :: (if w.flag 0 then [] else [w.tscW, w.tscA])
  | 2 => [fmtTs w.fmt]
  | _ => []

/-- Why a command is refused: the cause of WIRE_CMD (R408). -/
def Device.wireCause (d : Device) (cl : ClusterId) (w : WireCmd) : Option Nat :=
  let kOk := if w.op = 1 then decide (2 ≤ w.k) && decide (w.k ≤ 16) else decide (w.k = 0)
  if 2 < w.op ∨ 4 ≤ leAt w.bytes 1 1 ∨ leAt w.bytes 29 3 ≠ 0 ∨ leAt w.bytes 37 3 ≠ 0 then some 0
  else if w.count = 0 ∨ w.count % 32 ≠ 0 ∨ kOk = false then some 1
  else if w.src % 256 ≠ 0 ∨ w.dst % 256 ≠ 0 ∨ (w.op = 1 ∧ (w.stride = 0 ∨ w.stride % 256 ≠ 0))
      ∨ (w.flag 1 = true ∧ (w.sem % 8 ≠ 0 ∨ 0x7F_0000 ≤ w.sem)) then some 2
  else if w.entries.any fun i => !(tsValid (d.tscale cl 0 i)) then some 3
  else if w.op = 2 ∧ (fmtRole w.fmt ≠ 2 ∨ (fmtKind w.fmt ≠ 0 ∧ fmtKind w.fmt ≠ 2)) then some 4
  else if w.op = 2 ∧ fmtKind w.fmt = 0 ∧ (d.rungWidth cl (fmtCb w.fmt)).isNone then some 5
  else none

/-- A record of the wire engine: its OP_TAG, where it has one, leads it to its ring (R449). -/
def Device.wireEmit (d : Device) (cl : ClusterId) (code : Nat) (cls : EvClass) (poison : Bool)
    (det : List (Nat × Nat × Nat)) : Device :=
  d.emit (srcClu cl 0x12) code cls poison (detail det) (match det with
    | (0, 2, t) :: _ => d.tagOrigin t
    | _ => none)

/-! ## Wire tallies (R174 to R178) -/

/-- The anchor byte of a block by its tensor-scale entry's VALUE (R175). -/
def anchorByte (value : Nat) : Nat := Nat.min (bitsOf value 30 23 + 1) 254

/-- A wire tally as its 64 bits. -/
def wireWord (a : Nat) (i : Int) : Nat := wrapInt i 56 + a <<< 56

/-- The poisoned wire tally. -/
def wireBad : Nat := 0xFF <<< 56

/-- Anchor byte of a wire tally; 0x00 reads as 0xFF (R174). -/
def wireAnchor (w : Nat) : Nat := if bitsOf w 63 56 = 0 then 0xFF else bitsOf w 63 56

/-- I of a wire tally. -/
def wireInt (w : Nat) : Int := sext (bitsOf w 55 0) 56

/-- to_wire: the tally of a value and whether it saturated (R176). -/
def toWire (v : Real) (a : Nat) (key : DrawKey) (index : Nat) : Nat × Bool :=
  match v with
  | .fin r =>
    let y := r * pow2 (174 - (a : Int))
    let lo := y.floor
    let f := ((y - (lo : Rat)) * 2 ^ 24).floor.toNat
    let i := if keyedDraw key index < f then lo + 1 else lo
    if 2 ^ 51 - 1 < i.natAbs then (wireWord a (if i < 0 then -(2 ^ 51 - 1) else 2 ^ 51 - 1), true) else (wireWord a i, false)
  | _ => (wireBad, false)

/-- The sum of wire tallies (R177). -/
def wireSum (ws : List Nat) : Nat :=
  let as' := ws.map wireAnchor
  let a := as'.headD 0xFF
  if as'.contains 0xFF || as'.any (fun x => x != a) || decide (16 < ws.length) then wireBad
  else wireWord a ((ws.map wireInt).foldl (· + ·) 0)

/-- The exact value of a wire tally that is not poisoned (R174). -/
def wireValue (w : Nat) : Rat := (wireInt w : Rat) * pow2 ((wireAnchor w : Int) - 174)

/-! ## Execution (R405 to R409) -/

/-- The progress of a command: the state, the index of the first poisoned value, whether memory was missing, and the first
saturated index. -/
structure WireRun where
  s : State
  bad : Option Nat
  missing : Bool
  sat : Option Nat

/-- Bytes a command reads; none: they fall on no memory or on retired memory. -/
def State.wireRead (s : State) (a n : Nat) : Option (List Byte × Bool) :=
  if s.presentRange a n then some (s.load a n) else none

/-- Bytes a command writes. -/
def WireRun.write (r : WireRun) (a : Nat) (bs : List Byte) (p : Bool) : WireRun := { r with s := r.s.store a bs p }

/-- Values of size n written from an address on; those given as none are not written (R408). -/
def WireRun.writeVals (r : WireRun) (a n : Nat) (vs : List (Option (List Byte))) : WireRun :=
  if vs.all Option.isSome then r.write a (vs.map fun v => v.getD []).flatten false
  else vs.zipIdx.foldl (fun r v => match v.1 with
    | some bs => r.write (a + n * v.2) bs false
    | none => r) r

/-- The value of a tally record as PACK reads it; none: it counts as poisoned (R405). -/
def recordValue (bs : List Byte) (tw ta : Rat) : Option Real :=
  let flags := leAt bs 31 1
  let anchor := sext (leAt bs 24 2) 16
  if bitsOf flags 7 4 ≠ 0 ∨ bitsOf flags 3 2 ≠ 0 ∨ anchor < -286 ∨ 292 < anchor then none
  else if bitAt flags 1 then some .nan
  else if bitAt flags 0 then some (.fin 0)
  else some (.fin ((sext (leAt bs 0 24) 192 : Rat) * pow2 (anchor - 143) * tw * ta))

/-- One block of 32 values of PACK (R405). A value whose source or destination is on no memory counts as poisoned and is not written
(R408). -/
def WireRun.packBlock (r : WireRun) (cl : ClusterId) (w : WireCmd) (step b : Nat) : WireRun :=
  let d := r.s.dev
  let value := fun i => fp32Rat (tsValue (d.tscale cl 0 i))
  let a := anchorByte (tsValue (d.tscale cl 0 w.tscWire))
  let size := if w.flag 0 then 4 else 32
  let got := (List.range 32).map fun j => r.s.wireRead (w.src + size * (32 * b + j)) size
  let dst := r.s.presentRange (w.dst + 256 * b) 256
  let vals := got.map fun g => if !dst then none else match g with
    | some (bs, false) => if w.flag 0 then some (fp32Val (leNat bs)) else recordValue bs (value w.tscW) (value w.tscA)
    | _ => none
  let outs := vals.mapIdx fun j v => match v with
    | none => (wireBad, false)
    | some v => toWire v a (w.key step) (w.index + 32 * b + j)
  let n := fmtLayer w.fmt
  let mags := vals.map fun v => match v with
    | some (.fin x) => (⟨.fin x, false, false, false⟩ : El)
    | _ => ⟨.nan, false, true, false⟩
  let d1 := (d.tsMax cl w.tscWire (fp32Up (maxMag mags))).scAdd cl n 17 1 (outs.filter fun o => o.2).length
  let d2 := if vals.any Option.isNone then d1.scPoison cl n else d1
  let firstBad := (outs.findIdx? fun o => o.1 == wireBad).map fun j => w.index + 32 * b + j
  let firstSat := (outs.findIdx? fun o => o.2).map fun j => w.index + 32 * b + j
  let r1 := { r with s := { r.s with dev := d2 }, bad := r.bad.or firstBad, sat := r.sat.or firstSat
                     missing := r.missing || got.any Option.isNone || !dst }
  if dst then r1.writeVals (w.dst + 256 * b) 8 ((outs.zip got).map fun o => o.2.map fun _ => leBytes 8 o.1.1) else r1

/-- One block of 32 values of ADD (R406, R177). -/
def WireRun.addBlock (r : WireRun) (cl : ClusterId) (w : WireCmd) (b : Nat) : WireRun :=
  let ins := (List.range w.k).map fun k => r.s.wireRead (w.src + k * w.stride + 256 * b) 256
  let here := r.s.presentRange (w.dst + 256 * b) 256 && ins.all Option.isSome
  let cols := (List.range 32).map fun j => ins.map fun g => if !here then wireBad else match g with
    | some (bs, false) => leAt bs (8 * j) 8
    | _ => wireBad
  let outs := cols.map wireSum
  let mixed := cols.filterMap fun ws =>
    let as' := (ws.map wireAnchor).filter fun x => x != 0xFF
    let lo := as'.foldl Nat.min (as'.headD 0)
    let hi := as'.foldl Nat.max 0
    if lo = hi then none else some (lo, hi)
  let d := mixed.foldl (fun d p => d.wireEmit cl 0x3104 .deferred true [(0, 2, w.tag), (2, 1, p.1), (3, 1, p.2)]) r.s.dev
  let firstBad := (outs.findIdx? fun o => o == wireBad).map fun j => w.index + 32 * b + j
  let r1 := { r with s := { r.s with dev := d }, bad := r.bad.or firstBad
                     missing := r.missing || !here }
  if here then r1.write (w.dst + 256 * b) ((outs.map fun o => leBytes 8 o).flatten) false else r1

/-- A block of an UNPACK that is written dead, or as quiet NaNs (R407). -/
def deadOut (fp32 : Bool) : Blk × List Byte × Bool :=
  (.codes 0xFF (List.replicate 32 0), if fp32 then (List.replicate 32 (leBytes 4 qNan)).flatten else [], fp32)

/-- One block of 32 values of UNPACK: the block or the FP32 bytes, with the poison of the latter (R407, R178). `dst`: its destination is
on memory (R408). -/
def WireRun.unpackBlock (r : WireRun) (cl : ClusterId) (w : WireCmd) (step b : Nat) (dst : Bool) :
    WireRun × (Blk × List Byte × Bool) :=
  let d := r.s.dev
  let n := fmtLayer w.fmt
  let ts := fmtTs w.fmt
  let fp32 := decide (fmtKind w.fmt = 2)
  let got := r.s.wireRead (w.src + 256 * b) 256
  let words := (List.range 32).map fun j => if !dst then wireBad else match got with
    | some (bs, false) => leAt bs (8 * j) 8
    | _ => wireBad
  let index := fun j => w.index + 32 * b + j
  let bad := words.findIdx? fun x => wireAnchor x == 0xFF
  let invalid := !(d.layerValid cl 0 n)
  let r0 := { r with missing := r.missing || got.isNone || !dst, bad := r.bad.or (bad.map index) }
  if bad.isSome || invalid then
    let d1 := if bad.isSome && !invalid then d.scPoison cl n else d
    let d2 := if fp32 then d1 else d1.wireEmit cl 0x2001 .deferred true [(0, 2, w.tag), (2, 2, ts), (4, 5, index 0)]
    ({ r0 with s := { r.s with dev := d2 } }, deadOut fp32)
  else
    let els := words.map fun x => elFin (wireValue x)
    let rnd := roundingAt (some (w.key step))
    if fp32 then
      let rs := els.mapIdx fun j e => toFp32 (rnd (index j)) false e.v
      let d1 := (d.countElems cl n els (rs.filter fun x => x.2).length).tsMax cl ts (fp32Up (maxMag els))
      ({ r0 with s := { r.s with dev := d1 } }, (.zero, (rs.map fun x => leBytes 4 x.1).flatten, false))
    else match d.codebook cl (fmtCb w.fmt) with
      | .found cb =>
        let t := fp32Rat (tsValue (d.tscale cl 0 ts))
        let x := convertBlock cb (els.map fun e => e.v) t false (fun j => rnd (index j)) 32
        let d1 := d.countBlock cl 0 n ts (index 0) t els x
        let d2 := if x.rangeSat && !((d1.unitsOf cl).ranged.contains ts) then
            let u := d1.unitsOf cl
            (d1.setUnits cl { u with ranged := sinsert u.ranged ts }).wireEmit cl 0x2002 .notice false
              [(0, 2, w.tag), (2, 1, ts), (4, 4, tsValue (d.tscale cl 0 ts))]
          else d1
        ({ r0 with s := { r.s with dev := d2 } }, (x.blk, [], false))
      | _ => (r0, deadOut false)

/-- FP32 values of two blocks in one memory block of 256 bytes: each with its own poison, written together where both are clean
(R35, R407). -/
def WireRun.writePair (r : WireRun) (a : Nat) (x y : Option (List Byte × Bool)) : WireRun :=
  match x, y with
  | some (bx, false), some (by', false) => r.write a (bx ++ by') false
  | _, _ =>
    let one := fun (r : WireRun) (a : Nat) (v : Option (List Byte × Bool)) => match v with
      | some (bs, p) => r.write a bs p
      | none => r
    one (one r a x) (a + 128) y

/-- UNPACK writes its blocks as block groups, the last completed with zero blocks, or its FP32 values; a block whose source or
destination is on no memory is not written (R407, R408, R108). -/
def WireRun.unpack (r : WireRun) (cl : ClusterId) (w : WireCmd) (step : Nat) : WireRun :=
  let width := match r.s.dev.codebook cl (fmtCb w.fmt) with
    | .found cb => cb.width
    | _ => 8
  let n := w.count / 32
  let fp32 := decide (fmtKind w.fmt = 2)
  let place := fun b => let o := sdBlockOff width b; (w.dst + o.1, w.dst + o.2)
  let here := fun b => if fp32 then r.s.presentRange (w.dst + 128 * b) 128
    else r.s.presentRange (place b).1 1 && r.s.presentRange (place b).2 (4 * width)
  let goes := fun b => here b && (r.s.wireRead (w.src + 256 * b) 256).isSome
  let a := (List.range n).foldl (fun (a : WireRun × List (Blk × List Byte × Bool)) b =>
    let x := a.1.unpackBlock cl w step b (here b)
    (x.1, a.2 ++ [x.2])) (r, [])
  let at' := fun i => a.2.getD i (.zero, [], false)
  if fp32 then
    let val := fun i => if i < n && goes i then some (at' i).2 else none
    (List.range ((n + 1) / 2)).foldl (fun (r : WireRun) g => r.writePair (w.dst + 256 * g) (val (2 * g)) (val (2 * g + 1))) a.1
  else if (List.range n).all goes then
    let bytes := (List.range ((n + 7) / 8)).flatMap fun g => packGroup width ((List.range 8).map fun i => (at' (8 * g + i)).1)
    (List.range ((bytes.length + 255) / 256)).foldl (fun (r : WireRun) k =>
      r.write (w.dst + 256 * k) ((bytes.drop (256 * k)).take 256) false) a.1
  else
    (List.range ((n + 7) / 8 * 8)).foldl (fun (r : WireRun) b =>
      let y := slotBytes width width (at' b).1
      if (if b < n then goes b else here b) then ((r.write (place b).1 [y.1] false).write (place b).2 y.2 false) else r) a.1

/-- The ring head moves to the next command, which reaches the update unit (R409). -/
def Device.wireAdvance (d : Device) (cl : ClusterId) : Device :=
  (d.setRf (Reg.wireStat cl) 6 0 ((d.wireHeadAt cl + 1) % d.wireDepth cl)).wireArrives cl

/-- One more command refused or completed with poisoned values (R408). -/
def Device.wireError (d : Device) (cl : ClusterId) : Device := d.addRf (Reg.wireStat cl) 31 16 1

/-- What completes a command: its records, its semaphore and the head (R408, R409). -/
def WireRun.finish (r : WireRun) (cl : ClusterId) (w : WireCmd) (a : Nat) : State :=
  let i := r.s.dev.wireHeadAt cl
  let s1 := r.s.onDev fun d =>
    let d1 := match r.sat with
      | some x => d.wireEmit cl 0x3106 .notice false [(0, 2, w.tag), (2, 1, a), (4, 5, x)]
      | none => d
    let d2 := if r.missing then d1.wireEmit cl 0x8021 .deferred false [(0, 2, w.tag), (2, 1, w.op), (3, 1, i), (4, 1, 6)]
      else d1
    match r.bad with
    | some x => (d2.wireEmit cl 0x8022 .deferred true [(0, 2, w.tag), (2, 1, w.op), (4, 5, x)]).wireError cl
    | none => d2
  let at' := clusterStoreAddr cl.die cl.cluster w.sem
  let s2 := if w.flag 1 then s1.semPut at' ((s1.semWord at').val + 1) (s1.semWord at').poison else s1
  s2.onDev fun d => d.wireAdvance cl

/-! ## Training masks (R400) -/

/-- A layer's mask pointer is not zero and its mask breaks the layout: firmware treats it as zero. Answers the mask address
of an invalid one. -/
def State.maskInvalid (s : State) (layer : Nat) : Option Nat :=
  if !(s.dev.rbit Reg.trainMask 0) then none
  else
    let p := s.loadN (s.dev.rf Reg.trainMask 51 11 * 2048 + 8 * layer) 8
    if p = 0 then none
    else
      let rows := s.loadN p 4
      let gran := s.loadN (p + 4) 1
      let n := if gran = 1 then (rows + 31) / 32 else rows
      let set := (List.range n).foldl (fun a i => a + ofBool (bitAt (s.byte (p + 16 + i / 8)).toNat (i % 8))) 0
      if p % 64 ≠ 0 ∨ !(s.presentRange p (16 + (n + 7) / 8)) ∨ s.poisoned p (16 + (n + 7) / 8) = true ∨ 1 < gran
          ∨ s.loadN (p + 5) 1 ≠ layer ∨ s.loadN (p + 6) 2 ≠ 0 ∨ s.loadN (p + 8) 8 ≠ set then some p
      else none

/-- Firmware emits MASK_INVALID for a layer whose mask breaks the layout, once per step (R400). -/
def State.reportMask (s : State) (step n : Nat) : State :=
  match s.maskInvalid n with
  | none => s
  | some p =>
    if s.dev.host.masks.contains (n, step) then s
    else s.onDev fun d =>
      ({ d with host := { d.host with masks := d.host.masks ++ [(n, step)] } } : Device).emit
        (srcCore (steward 0) 0x00) 0x8023 .notice false (detail [(0, 1, n), (8, 8, p)])

/-- Firmware reads the mask table for a step: at its first launch, which R401 has the table precede, and when its register is written
(R400, DEDUCED, log 186). -/
def State.checkMasks (s : State) (step : Nat) : State :=
  if s.dev.rbit Reg.trainMask 0 then (List.range 256).foldl (fun s n => s.reportMask step n) s else s

/-- The engine serves the command at the ring head where its OP is `op`; PACK's row serves reserved OPs too, which are
refused. A poisoned entry is refused (DESIGN CHOICE, log 18). It waits for update operations that reached the unit before it (R409). -/
def State.wireServe (s : State) (cl : ClusterId) (op : Nat) : State :=
  let d := s.dev
  let i := d.wireHeadAt cl
  if !(clusterPresent cl) || !(d.wireTurn cl) then s
  else
    let e := s.load (d.wireEntry cl i) 64
    let w : WireCmd := ⟨e.1⟩
    if (if w.op ≤ 2 then w.op else 0) ≠ op then s
    else
      match (if e.2 then some 0 else d.wireCause cl w) with
      | some c => s.onDev fun d =>
        ((d.wireEmit cl 0x8021 .deferred false [(0, 2, w.tag), (2, 1, w.op), (3, 1, i), (4, 1, c)]).wireError cl).wireAdvance cl
      | none =>
        let step := d.rf (Reg.wcStep cl) 31 0
        let r0 : WireRun := ⟨s, none, false, none⟩
        let n := w.count / 32
        let r := match w.op with
          | 0 => (List.range n).foldl (fun (r : WireRun) b => r.packBlock cl w step b) ⟨s.reportMask step (fmtLayer w.fmt), none, false, none⟩
          | 1 => (List.range n).foldl (fun (r : WireRun) b => r.addBlock cl w b) r0
          | _ =>
            let r1 := r0.unpack cl w step
            if d.layerValid cl 0 (fmtLayer w.fmt) then r1
            else
              let s2 := r1.s.onDev fun d => d.wireEmit cl 0x4008 .deferred true [(0, 2, w.tag), (2, 1, fmtLayer w.fmt)]
              { r1 with s := s2 }
        r.finish cl w (anchorByte (tsValue (d.tscale cl 0 w.tscWire)))

/-- A write of CLU.WIRE_RING: ignored while HEAD ≠ TAIL (R403). -/
def Device.writeWireRing (d : Device) (cl : ClusterId) (v : W64) : Device :=
  if d.wireHeadAt cl ≠ d.rf (Reg.wireTail cl) 6 0 then d else d.writeFields (Reg.wireRing cl) v

/-- PACK. -/
def execPack (cl : ClusterId) (s : State) : Host.Outcome State Fault Refusal := memNext s fun s => s.wireServe cl 0

/-- UNPACK. -/
def execUnpack (cl : ClusterId) (s : State) : Host.Outcome State Fault Refusal := memNext s fun s => s.wireServe cl 2

/-- WIRE_RING_WRITE. -/
def execWireRingWrite (cl : ClusterId) (v : W64) (s : State) : Host.Outcome State Fault Refusal :=
  onCluster s cl fun d => d.writeWireRing cl v

/-- CLU.WIRE_STAT as read: BUSY from when the command at the ring's head has the update unit until it completes (R403, DEDUCED, log
184). -/
def Device.wireStatValue (d : Device) (cl : ClusterId) : Nat :=
  setBits (d.regN (Reg.wireStat cl)) 7 7 (ofBool (d.wireTurn cl))

/-- WIRE_STAT_READ: the value is answered and ERRORS cleared. -/
def execWireStatRead (cl : ClusterId) (s : State) : Host.Outcome State Fault Refusal :=
  onCluster s cl fun d => (d.send (.reg (Reg.wireStat cl) (BitVec.ofNat 64 (d.wireStatValue cl)))).clearRc (Reg.wireStat cl)

/-- A write of CLU.WIRE_TAIL: the first command of an empty ring reaches the update unit (R409). -/
def Device.writeWireTail (d : Device) (cl : ClusterId) (v : W64) : Device :=
  let d1 := d.writeFields (Reg.wireTail cl) v
  if d.wireHeadAt cl = d.rf (Reg.wireTail cl) 6 0 then d1.wireArrives cl else d1

end Sys2Proof.Machine
end

