-- ==== Sys2Proof/Machine/Host.lean ====
section
/-!
DEFINITION. The host link: contexts and their commands (R430 to R434), doorbells (R441, R442), submission entries
(R435 to R440), completions (R444 to R448), the aperture (R428), interrupts (R451), poison at the link (R452), function
resets (R453, R454), configuration space (R421 to R424) and SPDM (R418, R419).
-/
namespace Sys2Proof.Machine

/-- Recovery mode (R424). -/
def Device.recovery (d : Device) : Bool := d.rbit (Reg.fnStat 0) 1

/-- SR-IOV control of the PF: VF Enable, and the number of VFs (R418, R422). -/
def Device.vfEnable (d : Device) : Bool := bitAt (tget (d.fn 0).config 0 0x168).toNat 0

/-- NumVFs of the PF. -/
def Device.numVfs (d : Device) : Nat := (tget (d.fn 0).config 0 0x170).toNat % 65536

/-- A function exists: the PF, and the VFs that software has enabled (R418, R424). -/
def Device.fnExists (d : Device) (f : Nat) : Bool :=
  decide (f = 0) || (!d.recovery && d.vfEnable && decide (1 ≤ f) && decide (f < 64) && decide (f ≤ d.numVfs))

/-- The power state of a function as software last wrote it: 0 is D0, 3 is D3hot (R416, R422; the register's place PRESUMED,
log 20). -/
def Device.powerState (d : Device) (f : Nat) : Nat := (tget (d.fn f).config 0 0x44).toNat % 4

/-- A function answers through its BARs (R424); in D3hot it does not (R416, PRESUMED, log 20). -/
def Device.barOpen (d : Device) (f : Nat) : Bool := d.host.ready && d.fnExists f && decide (d.powerState f = 0)

/-- The PCIe link is up: no reset that takes it down is held (R551, R555). -/
def Device.linkUp (d : Device) : Bool := !d.rst.held || !(d.rst.cold || d.rst.perst || d.rst.byPerst)

/-- A memory read that no function answers is completed with Unsupported Request status: before readiness (R551), and at a function that is
not there or in D3hot (PRESUMED, log 20). -/
def Device.turnAway (d : Device) (f : Nat) : Device := if d.linkUp then d.send (.unsupported f) else d

/-! ## Poison at the link (R452) -/

/-- AER logs Poisoned TLP Received as an advisory non-fatal error: bit 12 of Uncorrectable Error Status and bit 13 of Correctable Error
Status (R452; their places PRESUMED, log 20). -/
def Device.logPoisoned (d : Device) (f : Nat) : Device :=
  let x := d.fn f
  let c1 := tput x.config 0x104 (tget x.config 0 0x104 ||| 0x1000)
  (d.setFn f { x with config := tput c1 0x110 (tget c1 0 0x110 ||| 0x2000) }).send (.aer f true)

/-- A poisoned TLP was received for a device address; 0 where none is concerned (DESIGN CHOICE, log 23). -/
def Device.poisonFromHost (d : Device) (f tag addr : Nat) (origin : Option (Nat × Nat) := none) : Device :=
  (d.pcieEmit f 0x9006 .deferred true [(0, 2, tag), (4, 8, addr)] origin).logPoisoned f

/-- Poisoned data was sent to a host address, reported once for an operation tag. -/
def Device.poisonToHost (d : Device) (f tag addr : Nat) (origin : Option (Nat × Nat)) : Device :=
  if d.host.toHost.contains tag then d
  else ({ d with host := { d.host with toHost := sinsert d.host.toHost tag } } : Device).pcieEmit f 0x9005 .deferred true
    [(0, 2, tag), (4, 8, addr)] origin

/-! ## Contexts (R432 to R434) -/

/-- A queue context is read from its 32 bytes. -/
def queueCtx (bs : List Byte) : QueueState :=
  { base := leAt bs 0 8, logDepth := leAt bs 8 1, cring := leAt bs 9 1, ering := leAt bs 10 1
    pasid := if bitAt (leAt bs 11 1) 0 then some (leAt bs 12 3 % 2 ^ 20) else none
    die := leAt bs 16 1, cluster := leAt bs 17 1, head := 0, avail := 0, stopping := false, bells := [], doorbell := 0 }

/-- A ring context is read from its 32 bytes. -/
def ringCtx (bs : List Byte) : RingState :=
  { base := leAt bs 0 8, logDepth := leAt bs 8 1
    pasid := if bitAt (leAt bs 9 1) 0 then some (leAt bs 12 3 % 2 ^ 20) else none
    irq := bitAt (leAt bs 9 1) 1, vector := leAt bs 10 2, modCount := leAt bs 16 2, modTime := leAt bs 18 2
    head := 0, tail := 0, used := 0, reserved := 0, phase := true, unsig := 0, unsigSince := 0, lost := false
    fullSince := none, stalled := false, doorbell := 0 }

/-- A cluster is in service: some compute core of it is (R434). -/
def Device.clusterServes (d : Device) (cl : ClusterId) : Bool := clusterPresent cl && !((d.cluster cl).positions.isEmpty)

/-- PCI.FN_CLMASK lets a function bind a cluster (R431). -/
def Device.clusterAllowed (d : Device) (f n : Nat) : Bool := d.rbit (Reg.fnClmask f (n / 64)) (n % 64)

/-- Why a queue context is refused (R434, R459). -/
def Device.queueCause (d : Device) (f : Nat) (bs : List Byte) : Option Nat :=
  let c := queueCtx bs
  if c.logDepth < 4 ∨ 16 < c.logDepth ∨ 128 ≤ c.cring ∨ 4 ≤ c.ering ∨ 2 ≤ leAt bs 11 1 ∨ 2 ^ 20 ≤ leAt bs 12 4
      ∨ 8 ≤ c.die ∨ 16 ≤ c.cluster ∨ leAt bs 18 14 ≠ 0 then some 0
  else if c.base % 4096 ≠ 0 then some 1
  else if (d.ring f false c.cring).isNone ∨ (d.ring f true c.ering).isNone then some 4
  else if d.clusterAllowed f (16 * c.die + c.cluster) = false ∨ d.clusterServes ⟨c.die, c.cluster⟩ = false then some 5
  else none

/-- Why a ring context is refused. -/
def ringCause (bs : List Byte) : Option Nat :=
  let c := ringCtx bs
  if c.logDepth < 4 ∨ 16 < c.logDepth ∨ 4 ≤ leAt bs 9 1 ∨ 2048 ≤ c.vector ∨ 2 ^ 20 ≤ leAt bs 12 4 ∨ leAt bs 20 12 ≠ 0 then some 0
  else if c.base % 4096 ≠ 0 then some 1
  else none

/-- A context command of a function ends; a cause refuses it with FAIL and QUEUE_CONTEXT (R430, R434). -/
def Device.cmdEnd (d : Device) (f op idx : Nat) (cause : Option Nat) : Device :=
  let x := d.fn f
  let d1 := (d.setFn f { x with command := none }).setRf (Reg.fnCmd f) 63 62 (if cause.isSome then 1 else 0)
  match cause with
  | none => d1
  | some c => d1.pcieEmit f 0x9001 .deferred false [(0, 1, op), (2, 2, idx), (4, 1, c)]

/-- A context command may begin, or is the one in progress (R430). -/
def Device.cmdOpen (d : Device) (f op idx : Nat) : Bool :=
  decide (f < 64) && !(d.flrBusy f) && (!(d.rbit (Reg.fnCmd f) 63) || decide ((d.fn f).command = some (op, idx)))

/-- Payload bytes of a completion. -/
def hostLength (h : HostRead) : Nat :=
  match h with
  | .data bs _ => bs.length
  | _ => 0

/-- The bytes of a context as read, or cause 3; a poisoned completion cannot be used (R434, R452). -/
def hostBytes (h : HostRead) : Option (List Byte) :=
  match h with
  | .data bs [] => some (slice bs 0 32)
  | _ => none

/-- A completion for a module read was marked poisoned (R452). -/
def hostPoisoned (h : HostRead) : Bool :=
  match h with
  | .data _ q => !q.isEmpty
  | _ => false

/-- Bytes of a completion for a module read lie in a part marked poisoned. -/
def poisonedPart (q : List (Nat × Nat)) (o n : Nat) : Bool := q.any fun p => decide (p.1 < o + n) && decide (o < p.1 + p.2)

/-- The host address of a context in its function's table (R430). -/
def Device.contextAddr (d : Device) (f op idx : Nat) : Nat :=
  4096 * d.rf (if op = 1 then Reg.qtab f else if op = 3 then Reg.crtab f else Reg.ertab f) 63 12 + 32 * idx

/-- LOAD of a context, read from its table: op 1 queue, 3 completion ring, 5 event ring. The first of these causes refuses it: an
index beyond the table, already loaded, table unreadable, then those of the context (DESIGN CHOICE, log 193). The slots of an event ring
hold zero until a record is written (R450; log 194). -/
def Device.loadContext (d : Device) (f op idx : Nat) (ctx : HostRead) : Device :=
  if !(d.cmdOpen f op idx) then d
  else
    let x := d.fn f
    let limit := if op = 1 then 4096 else if op = 3 then 128 else 4
    let loaded := if op = 1 then (tfind x.queues idx).isSome else (d.ring f (decide (op = 5)) idx).isSome
    let d1 := d.send (.hostRead f none (d.contextAddr f op idx) 32)
    let d0 := if hostPoisoned ctx then d1.poisonFromHost f 0 0 else d1
    if limit ≤ idx then d.cmdEnd f op idx (some 0)
    else if loaded then d.cmdEnd f op idx (some 2)
    else match hostBytes ctx with
    | none => d0.cmdEnd f op idx (some 3)
    | some bs =>
      match (if op = 1 then d0.queueCause f bs else ringCause bs) with
      | some c => d0.cmdEnd f op idx (some c)
      | none =>
        let d1 :=
          if op = 1 then d0.setFn f { x with queues := tput x.queues idx (queueCtx bs) }
          else
            let r := ringCtx bs
            let d1 := d0.setRing f (decide (op = 5)) idx r
            if op = 5 then d1.send (.hostWrite f (d1.carried r.pasid) r.base (List.replicate (32 * r.depth) 0) false) else d1
        d1.cmdEnd f op idx none

/-- Entries of a queue are in flight. -/
def Device.inFlight (d : Device) (f q : Nat) : Bool := d.entries.any fun e => decide (e.fn = f) && decide (e.queue = q)

/-- A stop command on a queue ends its fetching; BUSY stays until its entries have completed (R434). -/
def Device.stopQueue (d : Device) (f idx : Nat) : Device :=
  if !(d.cmdOpen f 2 idx) then d
  else
    let x := d.fn f
    match tfind x.queues idx with
    | none => d.cmdEnd f 2 idx none
    | some q => (d.setFn f { x with queues := tput x.queues idx { q with stopping := true }, command := some (2, idx) }).setRf
        (Reg.fnCmd f) 63 62 2

/-- The stopping queues of a function whose entries have completed are unloaded, and the command's BUSY clears (R434). -/
def Device.stopDone (d : Device) (f : Nat) : Device :=
  let x := d.fn f
  let gone := x.queues.filter fun p => p.2.stopping && !(d.inFlight f p.1)
  let d1 := d.setFn f { x with queues := x.queues.filter fun p => !(gone.any fun g => decide (g.1 = p.1)) }
  match x.command with
  | some (2, idx) => if gone.any fun g => decide (g.1 = idx) then d1.cmdEnd f 2 idx none else d1
  | _ => d1

/-- A stop command on a ring: refused while a loaded queue names it (R434). -/
def Device.stopRing (d : Device) (f idx : Nat) (event : Bool) : Device :=
  let op := if event then 6 else 4
  if !(d.cmdOpen f op idx) then d
  else
    let x := d.fn f
    if x.queues.any fun p => decide ((if event then p.2.ering else p.2.cring) = idx) then d.cmdEnd f op idx (some 6)
    else
      let d1 := d.setFn f (if event then { x with erings := tdel x.erings idx } else { x with crings := tdel x.crings idx })
      d1.cmdEnd f op idx none

/-! ## Doorbells (R441, R442) -/

/-- A bad doorbell write is reported; one that is discarded is counted too (R442). -/
def Device.doorbellBad (d : Device) (f off idx cause : Nat) (origin : Option (Nat × Nat)) : Device :=
  (if cause = 3 then d else d.addRf (Reg.fnStat f) 31 16 1).pcieEmit f 0x9002 .deferred false
    [(0, 4, off), (4, 2, idx), (6, 1, cause)] origin

/-- A ring head moves to an index: the slots before it are free. -/
def RingState.freeTo (r : RingState) (idx : Nat) : RingState :=
  let used' := (r.tail + r.depth - idx) % r.depth
  let used := if used' = 0 ∧ r.used = r.depth ∧ idx = r.head then r.depth else used'
  { r with head := idx, used := used, doorbell := idx, fullSince := if used = r.depth then r.fullSince else none
           stalled := r.stalled && decide (used = r.depth) }

/-- The value of a doorbell as read: the one last written, or zero (R441). -/
def Device.doorbellValue (d : Device) (kind f i : Nat) : Nat :=
  if kind = 0 then ((tfind (d.fn f).queues i).map fun q => q.doorbell).getD 0
  else ((d.ring f (decide (kind = 2)) i).map fun r => r.doorbell).getD 0

/-- Entries that a doorbell makes available make it pending. -/
def QueueState.ring (q : QueueState) (order more : Nat) : List (Nat × Nat) := if more = 0 then q.bells else q.bells ++ [(order, more)]

/-- A doorbell access: kind 0 submission queue, 1 completion ring, 2 event ring. Size 0 is a read of the doorbell (R441); a write of n
bytes that starts k bytes above the doorbell has size n + 16 × k (log 208). -/
def Device.doorbell (d : Device) (kind f i size : Nat) (v : W64) (poison : Bool) : Device :=
  let limit := if kind = 0 then 4096 else if kind = 1 then 128 else 4
  let off := (if kind = 0 then 0 else if kind = 1 then 0x1_0000 else 0x1_1000) + 8 * i + size / 16
  let idx := v.toNat % 65536
  if !(d.barOpen f) then (if size = 0 then d.turnAway f else d)
  else if size = 0 then d.send (.read f (leBytes 8 (if i < limit then d.doorbellValue kind f i else 0)) false)
  else if d.flrBusy f || d.recovery || decide (limit ≤ i) then d
  else if poison then d.poisonFromHost f 0 0
  else
    let x := d.fn f
    let bad := fun c o => d.doorbellBad f off idx c o
    if size ≠ 8 then bad 0 none
    else if v.toNat / 65536 ≠ 0 then bad 1 none
    else if kind = 0 then
      match tfind x.queues i with
      | none => bad 2 none
      | some q =>
        if 2 ^ q.logDepth ≤ idx then
          let d1 := bad 3 (some (f, i))
          d1.setFn f { d1.fn f with queues := tput (d1.fn f).queues i { q with stopping := true } }
        else
          let more := (idx + 2 ^ q.logDepth - (q.head + q.avail) % 2 ^ q.logDepth) % 2 ^ q.logDepth
          let q' := { q with avail := q.avail + more, doorbell := idx, bells := q.ring d.host.rings more }
          let d1 := d.setFn f { x with queues := tput x.queues i q' }
          ({ d1 with host := { d1.host with rings := d1.host.rings + 1 } } : Device).onCore (ctrlOf ⟨q.die, q.cluster⟩)
            fun k => k.notify 1
    else
      match d.ring f (decide (kind = 2)) i with
      | none => bad 2 none
      | some r => if r.depth ≤ idx then bad 3 none else d.setRing f (decide (kind = 2)) i (r.freeTo idx)

/-! ## Entries (R435 to R440, R444 to R446) -/

/-- The submission entry of a function, queue and slot. -/
def Device.entry (d : Device) (f q slot : Nat) : Option Entry :=
  d.entries.find? fun e => decide (e.fn = f) && decide (e.queue = q) && decide (e.slot = slot)

/-- The module with an entry changed. -/
def Device.setEntry (d : Device) (e : Entry) : Device :=
  { d with entries := d.entries.map fun x => if x.fn = e.fn ∧ x.queue = e.queue ∧ x.slot = e.slot then e else x }

/-- OPCODE. -/
def Entry.op (e : Entry) : Nat := leAt e.bytes 0 1
/-- PRIO. -/
def Entry.prio (e : Entry) : Nat := leAt e.bytes 1 1 % 4
/-- PASS. -/
def Entry.pass (e : Entry) : Nat := bitsOf (leAt e.bytes 1 1) 3 2
/-- TAG. -/
def Entry.tag (e : Entry) : Nat := leAt e.bytes 2 2
/-- MB. -/
def Entry.mb (e : Entry) : Nat := leAt e.bytes 4 2 % 1024
/-- Operand A. -/
def Entry.a (e : Entry) : Nat := leAt e.bytes 8 8
/-- Operand B. -/
def Entry.b (e : Entry) : Nat := leAt e.bytes 16 8
/-- Operand C. -/
def Entry.c (e : Entry) : Nat := leAt e.bytes 24 8
/-- Operand D. -/
def Entry.d (e : Entry) : Nat := leAt e.bytes 32 8
/-- The queue whose event ring receives an entry's records (R449). -/
def Entry.origin (e : Entry) : Option (Nat × Nat) := some (e.fn, e.queue)

/-- An entry has a reserved opcode or a field that must be zero (R435, R436, R383). -/
def entryBad (bs : List Byte) : Bool :=
  let op := leAt bs 0 1
  let flags := leAt bs 1 1
  let mb := leAt bs 4 2
  let a := leAt bs 8 8
  let b := leAt bs 16 8
  let c := leAt bs 24 8
  let e := leAt bs 32 8
  let common := decide (16 ≤ flags) || decide (leAt bs 6 2 ≠ 0) || decide (leAt bs 40 24 ≠ 0)
    || (decide (op ≠ 1) && (decide (4 ≤ flags) || decide (mb ≠ 0)))
  common || match op with
    | 1 => decide (1024 ≤ mb) || (decide (bitsOf flags 3 2 = 0) && decide (mb ≠ 0)) || decide (bitsOf c 7 5 ≠ 0)
        || decide (c / 2 ^ 14 ≠ 0)
    | 2 => decide (2 ^ 40 ≤ c) || decide (c = 0) || decide (4 ≤ e)
    | 3 => decide (a ≠ 0) || decide (b ≠ 0) || decide (c ≠ 0) || decide (e ≠ 0)
    | 4 => decide (2 ≤ c) || decide (e ≠ 0)
    | 5 => !(immWait e)
    | 6 => decide (a ≠ 0) || decide (b ≠ 0) || decide (2 ^ 32 ≤ c) || decide (e ≠ 0)
    | 7 => decide (e ≠ 0)
    | _ => true

/-- A completion entry's 16 bytes (R445). -/
def completionBytes (q slot tag status result code head : Nat) (phase : Bool) : List Byte :=
  leBytes 16 (q + ofBool phase <<< 15 + slot <<< 16 + tag <<< 32 + status <<< 48 + (result % 65536) <<< 64
    + (code % 65536) <<< 80 + (head % 65536) <<< 96)

/-- An entry completes: its completion entry goes into the slot reserved for it (R444 to R447). -/
def Device.complete (d : Device) (e : Entry) (status result code : Nat) : Device :=
  let d0 := { d with entries := d.entries.filter fun x =>
    !(decide (x.fn = e.fn) && decide (x.queue = e.queue) && decide (x.slot = e.slot)) }
  let d1 := if e.op = 1 then d0.addRf (Reg.dbgCnt 7) 47 0 1 else d0
  match tfind (d.fn e.fn).queues e.queue with
  | none => d1
  | some q =>
    match d1.ring e.fn false q.cring with
    | none => d1
    | some r => d1.ringPut e.fn false q.cring 16
        (completionBytes e.queue e.slot e.tag status result code q.head r.phase) { r with reserved := r.reserved - 1 }

/-- An entry completes with INVALID (R446). -/
def Device.completeInvalid (d : Device) (e : Entry) (cl : ClusterId) : Device :=
  (d.emit (srcCore (ctrlOf cl) 0x00) 0x9003 .deferred false
    (detail [(0, 2, e.tag), (2, 2, e.queue), (4, 2, e.slot), (6, 1, e.op), (15, 1, e.fn)]) e.origin).complete e 5 0 0x9003

/-- The cause byte of HOST_DMA_ERROR for a read that ended in an error. -/
def hostError (h : HostRead) : Option Nat :=
  match h with
  | .data _ _ => none
  | .unsupported => some 0
  | .abort => some 1
  | .timeout => some 2

/-- An entry ends with HOST_ERROR (R446). CODE carries the event code of its record (R37; log 174). -/
def Device.completeHostError (d : Device) (e : Entry) (cause addr : Nat) : Device :=
  (d.pcieEmit e.fn 0x9007 .deferred false [(0, 2, e.tag), (2, 1, cause), (4, 8, addr)] e.origin).complete e 8 0 0x9007

/-- The cluster that serves an entry. -/
def Device.entryCluster (d : Device) (e : Entry) : ClusterId :=
  match tfind (d.fn e.fn).queues e.queue with
  | some q => ⟨q.die, q.cluster⟩
  | none => ⟨0, 0⟩

/-- A control core that can serve queues. -/
def Device.serves (d : Device) (cl : ClusterId) : Bool :=
  match (d.core (ctrlOf cl)).run with
  | .held => false
  | .halted => false
  | .blockReset => false
  | .off => false
  | _ => d.host.ready && !d.recovery

/-- The queues of a cluster whose head entries can be fetched, by function and queue: entries available, no stop, none held
already, the head's slot free of an entry that runs, and a completion slot free (R438, R439, R444). -/
def Device.fetchable (d : Device) (cl : ClusterId) : List (Nat × Nat × QueueState) :=
  (d.fns.map fun p => (p.2.queues.filterMap fun (q : Nat × QueueState) =>
    let held := d.entries.any fun e => decide (e.fn = p.1) && decide (e.queue = q.1)
      && (decide (e.phase ≠ .running) || decide (e.slot = q.2.head))
    let room := match d.ring p.1 false q.2.cring with
      | none => false
      | some r => decide (r.used + r.reserved < r.depth)
    if q.2.die = cl.die ∧ q.2.cluster = cl.cluster ∧ 0 < q.2.avail ∧ q.2.stopping = false ∧ held = false ∧ room = true
        ∧ d.flrBusy p.1 = false then some (p.1, q.1, q.2) else none)).flatten

/-- PRIO of a head entry as read; a read that failed has the lowest. -/
def headPrio (h : HostRead) : Nat :=
  match h with
  | .data bs _ => leAt bs 1 1 % 4
  | _ => 0

/-- When the pending doorbell of a queue arrived, in the order of all (R439). -/
def QueueState.rung (q : QueueState) : Nat := (q.bells.head?.map Prod.fst).getD 0

/-- One entry of a queue is fetched: its pending doorbell is done with its last one. -/
def QueueState.fetched (q : QueueState) : QueueState :=
  { q with head := (q.head + 1) % 2 ^ q.logDepth, avail := q.avail - 1
           bells := match q.bells with
             | (o, n + 2) :: bs => (o, n + 1) :: bs
             | bs => bs.tail }

/-- Which of two candidates with their head entries is taken first (R439). -/
def takesFirst (a b : (Nat × Nat × QueueState) × HostRead) : Bool :=
  decide (headPrio b.2 < headPrio a.2) || (decide (headPrio a.2 = headPrio b.2) && decide (a.1.2.2.rung ≤ b.1.2.2.rung))

/-- The serving control core fetches one entry: `heads` are the reads of the head entries of the queues that can be fetched,
in order of function and queue (R438, R439, R444, R446). -/
def Device.fetchEntry (d : Device) (cl : ClusterId) (heads : List HostRead) : Device :=
  if !(d.serves cl) then d
  else
    let cs := (d.fetchable cl).mapIdx fun i q => (q, heads.getD i .timeout)
    match cs with
    | [] => d
    | first :: rest =>
      let pick := rest.foldl (fun a b => if takesFirst a b then a else b) first
      let f := pick.1.1
      let qi := pick.1.2.1
      let q := pick.1.2.2
      let x := d.fn f
      let d0 := cs.foldl (fun (d : Device) c =>
        d.send (.hostRead c.1.1 (d.carried c.1.2.2.pasid) (c.1.2.2.base + 64 * c.1.2.2.head) 64)) d
      let d1 := d0.setFn f { x with queues := tput x.queues qi q.fetched }
      let d2 := match d1.ring f false q.cring with
        | none => d1
        | some r => d1.setRing f false q.cring { r with reserved := r.reserved + 1 }
      let addr := q.base + 64 * q.head
      let entry := fun bs : List Byte => ({ fn := f, queue := qi, slot := q.head, bytes := slice bs 0 64, phase := .held
                                            started := 0, cores := [], limited := false, statuses := [], exceptions := [] } : Entry)
      let put := fun (e : Entry) => ({ d2 with entries := d2.entries ++ [e] } : Device)
      match pick.2 with
      | .data bs q =>
        let p := poisonedPart q 0 64
        let e := entry bs
        let d3 := put e
        let d4 := if p then d3.poisonFromHost f e.tag 0 e.origin else d3
        if p || entryBad e.bytes then d4.completeInvalid e cl else d4
      | h => let e := entry []; (put e).completeHostError e ((hostError h).getD 2) addr

/-- An entry may start: it is held, every earlier entry of its queue has started, and no FENCE, WAIT or BARRIER before it is
still to complete (R438). -/
def Device.mayStart (d : Device) (e : Entry) : Bool :=
  let before := (d.entries.takeWhile fun x => !(decide (x.fn = e.fn) && decide (x.queue = e.queue) && decide (x.slot = e.slot))).filter
    fun x => decide (x.fn = e.fn) && decide (x.queue = e.queue)
  decide (e.phase = .held) && before.all fun x =>
    decide (x.phase = .running) && !(decide (x.op = 3) || decide (x.op = 5) || decide (x.op = 7))

/-- What a held entry of an opcode does where it may start; nothing otherwise. -/
def State.startEntry (s : State) (f q slot op : Nat) (go : State → Entry → State) : State :=
  match s.dev.entry f q slot with
  | none => s
  | some e => if e.op = op ∧ s.dev.mayStart e = true then go s e else s

/-- What a running entry of an opcode does. -/
def State.onRunning (s : State) (f q slot op : Nat) (go : State → Entry → State) : State :=
  match s.dev.entry f q slot with
  | none => s
  | some e => if e.op = op ∧ e.phase = .running then go s e else s

/-- An entry is running from now on. -/
def Device.startNow (d : Device) (e : Entry) : Device := d.setEntry { e with phase := .running, started := d.clock }

/-! ### Launches (R437, R440, R259, R383 to R386) -/

/-- FIRST and NCORES of a launch. -/
def Entry.span (e : Entry) : Nat × Nat := (e.c % 32, bitsOf e.c 13 8)

/-- LAUNCH is dispatched: it waits for its cores, or is out of range (R437). -/
def Device.launchEntry (d : Device) (e : Entry) : Device :=
  let cl := d.entryCluster e
  let n := (d.cluster cl).positions.length
  if e.span.2 = 0 ∨ 32 < e.span.2 ∨ n < e.span.1 + e.span.2 then d.completeInvalid e cl
  else d.setEntry { e with phase := .ready }

/-- The compute cores of a launch in logical order. -/
def Device.launchCores (d : Device) (e : Entry) : List CoreId :=
  let cl := d.entryCluster e
  (((d.cluster cl).positions.drop e.span.1).take e.span.2).map (coreIn cl)

/-- A launch is in order on a core (R384). -/
def Device.inOrder (d : Device) (c : CoreId) (e : Entry) : Bool :=
  let o := Reg.passStat c
  let k := e.pass
  decide (k = 0) || decide (d.rf (Reg.wcStep (cluOfCore c)) 31 0 ≠ d.rf o 47 16) || decide (d.rf o 1 0 < k)
    || (decide (k = d.rf o 1 0) && (decide (k = 3) || decide (d.rf o 11 2 ≤ e.mb)))

/-- A core at launch (R259). -/
def launchCore (k : Core) (e : Entry) (epoch : W16) (i n : Nat) : Core :=
  { run := .running, pc := BitVec.ofNat 64 e.a
    s := [(1, ⟨BitVec.ofNat 64 e.b, false⟩), (2, ⟨BitVec.ofNat 64 i, false⟩), (3, ⟨BitVec.ofNat 64 n, false⟩)], p := []
    csr := { k.csr with fpend := false, faultTag := 0, optag := BitVec.ofNat 16 e.tag, epoch := epoch, instret := 0
                        launch := BitVec.ofNat 64 (e.fn + 64 * e.queue) }
    wdogAt := none, poisonTags := [], pendingS := [], parked := k.parked, launch := some (e.fn, e.queue, e.slot) }

/-- A core starts its part of a launch (R259, R385). -/
def Device.startCore (d : Device) (e : Entry) (c : CoreId) (i n : Nat) : Device :=
  let cl := cluOfCore c
  let d1 := (d.setCore c (launchCore (d.core c) e (d.curEpoch cl) i n)).setTensor c Tensor.init
  if e.pass = 0 then d1
  else
    let o := Reg.passStat c
    d1.setRegN o (e.pass + e.mb <<< 2 + (d.rf (Reg.wcStep cl) 31 0) <<< 16)

/-- Survival holds a launch: an update launch of step s until the seat holds GO for s (R515); forward and backward launches
while the table is halted or being restored (R528). -/
def Device.launchHeld (d : Device) (e : Entry) : Bool :=
  let mode := d.rf Reg.survStat 2 0
  if e.pass = 3 then
    d.rbit Reg.survCtl 0 && decide (d.rf Reg.rosterCtl 15 0 ≠ 0) &&
      (match d.surv.go with
       | none => true
       | some g => decide (g < d.rf (Reg.wcStep (d.entryCluster e)) 31 0))
  else (decide (e.pass = 1) || decide (e.pass = 2)) &&
    (decide (mode = 1) || decide (mode = 2) || decide (mode = 3) || decide (mode = 5))

/-- A launch starts once all its cores are free; one that is out of order on some core completes with PASS_ORDER (R437,
R385), and CODE carries the event code (R37; log 174). -/
def Device.launchStart (d : Device) (e : Entry) : Device :=
  let cs := d.launchCores e
  if cs.length < e.span.2 then d.completeInvalid e (d.entryCluster e)
  else if d.launchHeld e || !(cs.all fun c => decide ((d.core c).run = .idle) && !(d.core c).parked) then d
  else
    let late := cs.filter fun c => !(d.inOrder c e)
    if late.isEmpty then
      (cs.zipIdx.foldl (fun d p => d.startCore e p.1 p.2 cs.length) d).setEntry
        { e with phase := .running, started := d.clock, cores := cs }
    else
      let d1 := late.foldl (fun d c =>
        let o := Reg.passStat c
        d.emit (srcCore c 0x00) 0x8020 .deferred false (detail [(0, 2, e.tag), (2, 1, e.pass), (3, 2, e.mb),
          (5, 1, d.rf o 1 0), (6, 2, d.rf o 11 2), (8, 4, d.rf (Reg.wcStep (cluOfCore c)) 31 0)]) e.origin) d
      d1.complete e 4 0 0x8020

/-- A core works for an entry. -/
def Device.worksFor (d : Device) (c : CoreId) (e : Entry) : Bool :=
  decide ((d.core c).launch = some (e.fn, e.queue, e.slot))

/-- A core is still running its program: it has neither ended nor raised an exception. An END that waits for its tensor operations has not
ended it (R244). -/
def RunState.active : RunState → Bool
  | .running => true
  | .waiting .. => true
  | .fencing _ _ => true
  | .ending _ _ => true
  | _ => false

/-- A core of a launch is ended from outside: it issues nothing further (R440, R453). -/
def Device.cutCore (d : Device) (c : CoreId) : Device :=
  if (d.core c).run.active then d.setRunState c .cutting else d

/-- A launch's time limit expires (R440). -/
def Device.timeLimit (d : Device) (e : Entry) : Device :=
  if e.d = 0 ∨ d.clock < e.started + e.d * 10000 then d
  else
    let cs := e.cores.filter fun c => d.worksFor c e && (d.core c).run.active
    if cs.isEmpty then d
    else (cs.foldl (fun d c => d.cutCore c) d).setEntry { e with limited := true }

/-- Every core of a launch has ended: its outcome (R440, R446). -/
def Device.launchComplete (d : Device) (e : Entry) : Device :=
  if (e.cores.any fun c => d.worksFor c e) || d.surv.relaunch.any fun r =>
      decide (r.fn = e.fn) && decide (r.queue = e.queue) && decide (r.slot = e.slot) then d
  else
    let exc := e.cores.findSome? fun c => tfind e.exceptions (coreKey c)
    let result := e.statuses.foldl (fun a b => a ||| b) 0
    match exc with
    | some code => d.complete e 1 result code
    | none => if e.limited then d.complete e 3 result 0 else d.complete e 0 result 0

/-! ### Copies (R437, R446, R452) -/

/-- Offsets at which a copy of n bytes is cut: the 256-byte blocks of the source and of the destination. -/
def copyCuts (src dst n : Nat) : Nat → Nat → List (Nat × Nat)
  | 0, _ => []
  | k + 1, o =>
    if n ≤ o then []
    else
      let len := Nat.min (n - o) (Nat.min (256 - (src + o) % 256) (256 - (dst + o) % 256))
      (o, len) :: copyCuts src dst n k (o + len)

/-- A copy whose form is invalid: host to host, or device ranges that overlap (R437). -/
def Entry.copyInvalid (e : Entry) : Bool :=
  let srcHost := bitAt e.d 0
  let dstHost := bitAt e.d 1
  (srcHost && dstHost) || (!srcHost && !dstHost && decide (e.a < e.b + e.c) && decide (e.b < e.a + e.c))

/-- The PASID that the host addresses of an entry carry (R432, R436). -/
def Device.entryPasid (d : Device) (e : Entry) : Option Nat :=
  d.carried (((tfind (d.fn e.fn).queues e.queue).map fun q => q.pasid).getD none)

/-- COPY starts; a host source is asked for (R437). -/
def Device.copyEntry (d : Device) (e : Entry) : Device :=
  if e.copyInvalid then d.completeInvalid e (d.entryCluster e)
  else
    let d1 := d.startNow e
    if bitAt e.d 0 then d1.send (.hostRead e.fn (d.entryPasid e) e.a e.c) else d1

/-- The progress of a copy: the state, whether an address failed, and the address reported for the first poisoned byte:
its host address where the data goes to the host, its device address where it comes from the host (R459). -/
structure CopyRun where
  s : State
  failed : Bool
  bad : Option Nat

/-- The offset of the first poisoned byte among n at a device address. -/
def State.firstPoison (s : State) (a n : Nat) : Nat :=
  ((List.range n).find? fun k => (s.load (a + k) 1).2).getD 0

/-- The parts of a piece of host data, by offset and length in the piece, that lie in one completion for the module: each is stored with
the poison of its own (R452). -/
def hostParts (q : List (Nat × Nat)) (o n : Nat) : List (Nat × Nat × Bool) :=
  let ends := (q.flatMap fun p => [p.1, p.1 + p.2]).filter fun x => decide (o < x) && decide (x < o + n)
  let cuts := ends.foldl (fun a x => sinsert a (x - o)) [0]
  (cuts.zip (cuts.tail ++ [n])).map fun p => (p.1, p.2 - p.1, poisonedPart q (o + p.1) (p.2 - p.1))

/-- One piece of a copy is moved (R437, R446, R452). `host`: the bytes read from the host, with their poison. -/
def CopyRun.piece (r : CopyRun) (e : Entry) (pasid : Option Nat) (host : List Byte) (hostPoison : List (Nat × Nat))
    (p : Nat × Nat) : CopyRun :=
  if r.failed then r
  else
    let src : Option (List Byte × Bool × Nat × Option Nat) :=
      if bitAt e.d 0 then some (slice host p.1 p.2, poisonedPart hostPoison p.1 p.2
        , ((hostPoison.filter fun q => decide (q.1 < p.1 + p.2) && decide (p.1 < q.1 + q.2)).map fun q => q.1 - p.1).foldl Nat.min p.2, none)
      else match r.s.translateMem e.fn (e.a + p.1) ⟨true, false⟩ with
        | none => none
        | some a => let y := r.s.load a p.2; some (y.1, y.2, if y.2 then r.s.firstPoison a p.2 else 0, some a)
    match src with
    | none => { r with failed := true }
    | some (bs, q, k, from') =>
      if bitAt e.d 1 then { r with s := r.s.onDev fun d => d.send (.hostWrite e.fn pasid (e.b + p.1) bs q)
                                   bad := r.bad.or (if q then some (e.b + p.1 + k) else none) }
      else match r.s.translateMem e.fn (e.b + p.1) ⟨false, true⟩ with
        | none => { r with failed := true }
        | some a =>
          let t := match q, from' with
            | true, some x => r.s.moveUnits x a p.2
            | true, none => (hostParts hostPoison p.1 p.2).foldl (fun t (u : Nat × Nat × Bool) => t.store (a + u.1) (slice bs u.1 u.2.1) u.2.2) r.s
            | _, _ => r.s.store a bs q
          { r with s := t, bad := r.bad.or (if q then some (a + k) else none) }

/-- No entry of a function in flight carries an operation tag any more: POISON_TO_HOST may be emitted for it again (R452). -/
def Device.tagDone (d : Device) (e : Entry) : Device :=
  if d.entries.any fun x => decide (x.fn = e.fn) && decide (x.tag = e.tag) then d
  else { d with host := { d.host with toHost := d.host.toHost.filter fun t => decide (t ≠ e.tag) } }

/-- COPY is carried out and completes (R446, R447, R452). A copy within the device that moved poison consumed it: the record of R36 once,
with an event code the rules leave open (log 170). CODE carries the event code of the record (R37; log 174). -/
def State.copyComplete (s : State) (e : Entry) (src : HostRead) : State :=
  let fromHost := bitAt e.d 0
  match (if fromHost then hostError src else none) with
  | some c => s.onDev fun d => d.completeHostError e c e.a
  | none =>
    let h : List Byte × List (Nat × Nat) := match src with
      | .data bs p => (bs, p)
      | _ => ([], [])
    let pasid := s.dev.entryPasid e
    let cuts := copyCuts e.a e.b e.c (e.c / 64 + 4) 0
    let r := cuts.foldl (fun (r : CopyRun) p => r.piece e pasid h.1 h.2 p) ⟨s, false, none⟩
    r.s.onDev fun d =>
      let d1 := match r.bad with
        | none => d
        | some o =>
          if bitAt e.d 1 then d.poisonToHost e.fn e.tag o e.origin
          else if fromHost then d.poisonFromHost e.fn e.tag o e.origin
          else d.pcieEmit e.fn (Config.poisonCode 0x30).toNat .deferred true [(0, 2, e.tag)] e.origin
      let code := if bitAt e.d 1 then 0x9005 else if fromHost then 0x9006 else (Config.poisonCode 0x30).toNat
      (if r.failed then d1.complete e 6 0 0x5004
       else if r.bad.isSome then d1.complete e 7 0 code
       else d1.complete e 0 0 0).tagDone e

/-! ### FENCE, SIGNAL, WAIT and BARRIER (R437) -/

/-- FENCE starts, and completes once every earlier entry of its queue has. -/
def Device.fenceEntry (d : Device) (e : Entry) : Device :=
  let same := fun x : Entry => decide (x.fn = e.fn) && decide (x.queue = e.queue)
  let before := (d.entries.takeWhile fun x => !(same x && decide (x.slot = e.slot))).filter same
  if before.isEmpty then d.complete e 0 0 0 else d

/-- The semaphore of an entry by device address: a multiple of 8 that translates for a semaphore operation, with R and W, into a
cluster store (R362, R436). -/
def State.entrySem (s : State) (e : Entry) : Option Nat :=
  if e.a % 8 ≠ 0 then none
  else match s.translateMem e.fn e.a ⟨true, true⟩ with
    | none => none
    | some a => if inClusterStore a then some a else none

/-- SIGNAL is SEM.SET or SEM.ADD (R245). -/
def State.signalEntry (s : State) (e : Entry) : State :=
  match s.entrySem e with
  | none => s.onDev fun d => d.complete e 6 0 0x5004
  | some a =>
    let old := s.semWord a
    let v := if bitAt e.c 0 then old.val + BitVec.ofNat 64 e.b else BitVec.ofNat 64 e.b
    (s.semPut a v old.poison).onDev fun d => d.complete e 0 0 0

/-- The condition, DEC and compare value of a WAIT or BARRIER entry. -/
def Entry.waitOn (e : Entry) : Nat × Bool × W64 :=
  if e.op = 7 then (2, false, BitVec.ofNat 64 e.b) else (e.d % 8, bitAt e.d 3, BitVec.ofNat 64 e.b)

/-- The record of the control core that serves an entry whose semaphore word is poisoned: POISON_USE with byte 11 for memory; it has no
instruction and no register (R36, R260; log 19). -/
def Device.entryPoison (d : Device) (e : Entry) : Device :=
  d.emit (srcCore (ctrlOf (d.entryCluster e)) 0x00) 0x5005 .deferred true (detail [(8, 2, e.tag), (11, 1, 2)]) e.origin

/-- A WAIT or BARRIER entry tests its semaphore; where the wait is not over, `late` is done (R247, R437). A poisoned word ends
it with POISON_USE (DEDUCED, log 19). -/
def State.testEntry (s : State) (e : Entry) (late : State → Nat → State) : State :=
  match s.entrySem e with
  | none => s.onDev fun d => d.complete e 6 0 0x5004
  | some a =>
    let m := s.semWord a
    if m.poison then s.onDev fun d => (d.entryPoison e).complete e 1 0 0x5005
    else if waitHolds e.waitOn.1 m.val e.waitOn.2.2 then
      (s.waitTake a e.waitOn.2.1 e.waitOn.2.2).onDev fun d => d.complete e 0 0 0
    else late s a

/-- The timeout of a WAIT or BARRIER entry has passed (R247). -/
def Device.entryLate (d : Device) (e : Entry) : Bool :=
  decide (e.c ≠ 2 ^ 64 - 1) && decide ((e.started / 10 + e.c) * 10 ≤ d.clock)

/-- WAIT starts, or tests again. -/
def State.waitEntry (s : State) (e : Entry) : State :=
  s.testEntry e fun s _ =>
    if e.phase = .running then s
    else if e.c = 0 then s.onDev fun d => d.complete e 2 0 0
    else s.onDev fun d => d.startNow e

/-- The timeout of a WAIT: the condition in the same cycle wins (R40). -/
def State.waitEntryTimeout (s : State) (e : Entry) : State :=
  if s.dev.entryLate e then s.testEntry e fun s _ => s.onDev fun d => d.complete e 2 0 0 else s

/-- BARRIER's 1 is subtracted. -/
def State.barrierUndo (s : State) (a : Nat) : State := s.semPut a ((s.semWord a).val - 1) (s.semWord a).poison

/-- BARRIER starts: its 1 is added and the value tested; later it tests again. -/
def State.barrierEntry (s : State) (e : Entry) : State :=
  let late := fun (s : State) (a : Nat) =>
    if e.phase = .running then s
    else if e.c = 0 then (s.barrierUndo a).onDev fun d => d.complete e 2 0 0
    else s.onDev fun d => d.startNow e
  if e.phase = .running then s.testEntry e late
  else match s.entrySem e with
    | none => s.onDev fun d => d.complete e 6 0 0x5004
    | some a => (s.semPut a ((s.semWord a).val + 1) (s.semWord a).poison).testEntry e late

/-- The timeout of a BARRIER (R437, R40). -/
def State.barrierTimeout (s : State) (e : Entry) : State :=
  if s.dev.entryLate e then s.testEntry e fun s a => (s.barrierUndo a).onDev fun d => d.complete e 2 0 0 else s

/-! ## The aperture (R428, R452) -/

/-- A failed aperture access is reported once for each 4 KiB page since AP_BASE changed (R428). -/
def Device.apertureError (d : Device) (f x write : Nat) : Device :=
  let y := d.fn f
  if y.apErrors.contains (x / 4096) then d
  else (d.setFn f { y with apErrors := sinsert y.apErrors (x / 4096) }).pcieEmit f 0x9008 .deferred false
    [(0, 8, x), (8, 1, write)]

/-- Where an aperture offset leads: X, and the device addresses of its pieces; none: the access fails (R428). -/
def State.aperture (s : State) (f off n : Nat) (write : Bool) : Nat × Option (List (Nat × Nat)) :=
  let x := s.dev.rf (Reg.apBase f) 51 36 * 2 ^ 36 + off
  if f = 0 then
    let bad := !(s.presentRange x n) || (write && s.dev.rbit Reg.memCap 7 && (inReserve x || inReserve (x + n - 1)))
    (x, if bad then none else some [(x, n)])
  else
    let ps := (pieces x n).map fun p => (s.translateMem f p.1 ⟨!write, write⟩).map fun a => (a, p.2)
    (x, if ps.all Option.isSome then some (ps.filterMap id) else none)

/-- A BAR4 read. -/
def State.apertureRead (s : State) (f off n : Nat) : State :=
  if !(s.dev.barOpen f) then s.onDev fun d => d.turnAway f
  else match s.aperture f off n false with
  | (x, none) => s.onDev fun d =>
      (d.apertureError f x 0).send (.read f (List.replicate n 0xFF) false)
  | (_, some ps) =>
    let r := ps.foldl (fun (a : List Byte × Bool) p => let y := s.load p.1 p.2; (a.1 ++ y.1, a.2 || y.2)) ([], false)
    s.onDev fun d => d.send (.read f r.1 r.2)

/-- A BAR4 write. -/
def State.apertureWrite (s : State) (f off : Nat) (bs : List Byte) (poison : Bool) : State :=
  if !(s.dev.barOpen f) || bs.isEmpty then s
  else match s.aperture f off bs.length true with
  | (x, none) => s.onDev fun d => d.apertureError f x 1
  | (x, some ps) =>
    let r := ps.foldl (fun (a : State × Nat) p => (a.1.store p.1 (slice bs a.2 p.2) poison, a.2 + p.2)) (s, 0)
    if poison then r.1.onDev fun d => d.poisonFromHost f 0 ((ps.headD (x, 0)).1) else r.1

/-! ## Function-level reset (R453, R454) -/

/-- A copy that runs stops at a 256-byte boundary, having moved some of its pieces: how many is free. Of a host source nothing has
arrived (R453; log 209). -/
def State.stopCopy (s : State) (e : Entry) : State :=
  if bitAt e.d 0 then s
  else
    let cuts := copyCuts e.a e.b e.c (e.c / 64 + 4) 0
    let n := Config.copyStop s.dev.fresh % (cuts.length + 1)
    ((cuts.take n).foldl (fun (r : CopyRun) p => r.piece e (s.dev.entryPasid e) [] [] p) ⟨s, false, none⟩).s.onDev Device.takeFresh

/-- The launches, copies, waits and barriers of a function are abandoned; a waiting barrier's 1 is subtracted. -/
def State.abandonEntries (s : State) (f : Nat) : State :=
  let mine := s.dev.entries.filter fun e => decide (e.fn = f)
  let s1 := mine.foldl (fun s e =>
    let s1 := if e.op = 7 ∧ e.phase = .running then
        match s.entrySem e with
        | some a => s.barrierUndo a
        | none => s
      else if e.op = 2 ∧ e.phase = .running then s.stopCopy e
      else s
    s1.onDev fun d => e.cores.foldl (fun d c => if d.worksFor c e then d.cutCore c else d) d) s
  s1.onDev fun d => { d with entries := d.entries.filter fun e => !(decide (e.fn = f)) }

/-- A function-level reset begins: FLR_BUSY is 1, and firmware does not serve the function, until the cores that worked for it have ended
(R453). -/
def State.resetFn (s : State) (f : Nat) : State :=
  (s.abandonEntries f).onDev fun d => ((d.setRf (Reg.fnStat f) 2 2 1).setRf (Reg.fnStat f) 0 0 0).flrEnd f

/-- A function-level reset of the PF resets every VF too and clears VF Enable (R454). -/
def State.functionReset (s : State) (f : Nat) : State :=
  if f = 0 then ((List.range 63).foldl (fun s i => if s.dev.fnExists (i + 1) then s.resetFn (i + 1) else s) s).resetFn 0
  else s.resetFn f

/-! ## SPDM (R418, R419) -/

/-- The content of a measurement block (R419). The fuses stand in the order of R568, CORE_ID as bits [31:0] of csr.core for each core (log
210). -/
def Device.measured (d : Device) (i : Nat) : List Byte :=
  match i with
  | 1 => Config.bootRom
  | 2 => match d.host.image with
    | some m => m.bytes
    | none => []
  | 3 => (List.range 64).flatMap fun k => leBytes 8 (d.regN (Reg.optBlock k))
  | 4 => Config.serial ++ leBytes 8 Config.dsn.toNat ++ Config.rootDigest ++ ((List.range 4).flatMap Config.fwKey)
      ++ leBytes 1 Config.fwRevoke.toNat ++ leBytes 4 Config.fwFloor.toNat
      ++ ((List.range 128).flatMap fun k => (List.range 0x23).flatMap fun j => leBytes 4 (csrCore (coreIn (clusterOf k) j)))
      ++ ((List.range 4).flatMap fun n => leBytes 4 (csrCore (steward n)))
  | _ => d.host.flash

/-- The answer to an SPDM request: GET_MEASUREMENTS answers the digests of the blocks named; other answers are laid out by the SPDM
specification. Versions other than 1.2 and 1.3 are not supported (R418, R419, PRESUMED, log 21). -/
def Device.spdmAnswer (d : Device) (version : Nat) (secured : Bool) (req : List Byte) : Device × List Byte :=
  let idx := leAt req 3 1
  if version ≠ 0x12 ∧ version ≠ 0x13 then (d, [BitVec.ofNat 8 version, 0x7F, 0x41, 0x00])
  else if leAt req 1 1 = 0xE0 then
    let blocks := if idx = 0xFF then [1, 2, 3, 4, 5] else if 1 ≤ idx ∧ idx ≤ 5 then [idx] else []
    (d, leBytes 1 version ++ [0x60, if idx = 0 then 5 else 0, 0, BitVec.ofNat 8 blocks.length]
      ++ blocks.flatMap fun i => leBytes 1 i ++ sha512 (d.measured i))
  else (d.takeFresh, Config.spdmReply (2 * d.fresh + ofBool secured) req)

/-- An SPDM request. -/
def Device.spdmRequest (d : Device) (version : Nat) (secured : Bool) (req : List Byte) : Device :=
  let r := d.spdmAnswer version secured req
  r.1.send (.spdm r.2)

/-- A data object of the DOE mailbox is processed: DOE Discovery names the three protocols, and the others carry SPDM messages (R418; the
objects' layout is that of the PCI Express specification, PRESUMED, log 20). -/
def Device.doeGo (d : Device) : Device :=
  let ws := d.host.doeIn
  let head := (ws.headD 0).toNat
  let put := fun (d : Device) (kind : Nat) (bs : List Byte) =>
    let body := (List.range ((bs.length + 3) / 4)).map fun k => BitVec.ofNat 32 (leAt bs (4 * k) 4)
    { d with host := { d.host with doeIn := [], doeOut := BitVec.ofNat 32 (1 + kind <<< 16) :: BitVec.ofNat 32 (body.length + 2) :: body } }
  let req := (ws.drop 2).flatMap fun w => leBytes 4 w.toNat
  if head % 65536 ≠ 1 ∨ ws.length < 3 then { d with host := { d.host with doeIn := [] } }
  else match bitsOf head 23 16 with
    | 0 =>
      let i := leAt req 0 1
      if 2 < i then { d with host := { d.host with doeIn := [] } }
      else put d 0 (leBytes 4 (1 + i <<< 16 + (if i = 2 then 0 else i + 1) <<< 24))
    | 1 => let r := d.spdmAnswer (leAt req 0 1) false req; put r.1 1 r.2
    | 2 => let r := d.spdmAnswer (leAt req 0 1) true req; put r.1 2 r.2
    | _ => { d with host := { d.host with doeIn := [] } }

/-- A request at the DOE mailbox: Control with GO and Abort, Status with Data Object Ready, and the two data mailboxes (R418, PRESUMED, log
20). -/
def Device.doeRequest (d : Device) (write : Bool) (o : Nat) (v : W32) : Device :=
  let h := d.host
  if write then
    let d1 : Device :=
      if o = 0x378 then
        if bitAt v.toNat 0 then { d with host := { h with doeIn := [], doeOut := [] } }
        else if bitAt v.toNat 31 then d.doeGo else d
      else if o = 0x380 then { d with host := { h with doeIn := h.doeIn ++ [v] } }
      else if o = 0x384 then { d with host := { h with doeOut := h.doeOut.tail } }
      else d
    d1.send (.config 0 (some 0))
  else
    let x : W32 := if o = 0x37C then (if h.doeOut.isEmpty then 0 else 0x8000_0000) else if o = 0x384 then h.doeOut.headD 0 else 0
    d.send (.config 0 (some x))

/-! ## Configuration space (R421 to R424) -/

/-- The capability header that stands at a dword offset: the capability's ID and the next one's offset (R422). The IDs are
those of the PCI Express specification (PRESUMED, log 20). -/
def capHeader (f off : Nat) : Option Nat :=
  let cap := fun (id next : Nat) => some (id + next <<< 8)
  let ext := fun (id next : Nat) => some (id + 1 <<< 16 + next <<< 20)
  if f = 0 then
    match off with
    | 0x40 => cap 0x01 0x50
    | 0x50 => cap 0x10 0x90
    | 0x90 => cap 0x11 0
    | 0x100 => ext 0x0001 0x150
    | 0x150 => ext 0x000E 0x160
    | 0x160 => ext 0x0010 0x1A0
    | 0x1A0 => ext 0x000F 0x1B0
    | 0x1B0 => ext 0x001B 0x1C0
    | 0x1C0 => ext 0x001F 0x1D0
    | 0x1D0 => ext 0x0003 0x1E0
    | 0x1E0 => ext 0x0019 0x210
    | 0x210 => ext 0x0025 0x220
    | 0x220 => ext 0x0026 0x260
    | 0x260 => ext 0x002A 0x2A0
    | 0x2A0 => ext 0x0031 0x2E0
    | 0x2E0 => ext 0x0036 0x320
    | 0x320 => ext 0x0027 0x370
    | 0x370 => ext 0x002E 0x390
    | 0x390 => ext 0x0030 0x3B0
    | 0x3B0 => ext 0x0022 0
    | _ => none
  else
    match off with
    | 0x50 => cap 0x10 0x90
    | 0x90 => cap 0x11 0
    | 0x100 => ext 0x0001 0x1A0
    | 0x1A0 => ext 0x000F 0
    | _ => none

/-- Bits of a dword that software may write, and that read back as written: command, BARs, power state, Device Control, message
control, the controls of SR-IOV with the VF BARs, ATS, PASID, PTM and the Link IDE stream (R416, R418, R425), and the two AER status bits that
software clears by writing 1 (R452). -/
def configMask (f off : Nat) : Nat :=
  match off with
  | 0x04 => 0x0000_0547
  | 0x44 => if f = 0 then 0x3 else 0
  | 0x58 => if f = 0 then 0x79FF else 0
  | 0x10 => if f = 0 then 0xFC00_0000 else 0
  | 0x14 => if f = 0 then 0xFFFF_FFFF else 0
  | 0x18 => if f = 0 then 0xFFE0_0000 else 0
  | 0x1C => if f = 0 then 0xFFFF_FFFF else 0
  | 0x20 => 0
  | 0x24 => if f = 0 then 0xFFFF_FFF0 else 0
  | 0x90 => 0xC000_0000
  | 0x168 => if f = 0 then 0x0000_0019 else 0
  | 0x170 => if f = 0 then 0x0000_FFFF else 0
  | 0x180 => if f = 0 then 0x11 else 0
  | 0x184 => if f = 0 then 0xFFFF_0000 else 0
  | 0x188 => if f = 0 then 0xFFFF_FFFF else 0
  | 0x18C => if f = 0 then 0xFFE0_0000 else 0
  | 0x190 => if f = 0 then 0xFFFF_FFFF else 0
  | 0x198 => if f = 0 then 0xFFFF_FFF0 else 0
  | 0x1C8 => if f = 0 then 0x0000_FF01 else 0
  | 0x1A4 => 0x801F_0000
  | 0x1B4 => if f = 0 then 0x0001_0000 else 0
  | 0x104 => 0x1000
  | 0x110 => 0x2000
  | 0x39C => if f = 0 then 0xFF00_0001 else 0
  | _ => 0

/-- The readiness bound of 1.0 s as Readiness Time Reporting codes a time: 30 units of 2 ^ 25 ns, the smallest code that does not
fall short (R423; the coding PRESUMED, log 20). -/
def readyTime : Nat := 5 * 512 + 30

/-- What the bits that software may write are before it writes them: the request sizes of Device Control are 512 bytes and the
system page size 4 KiB, as the PCI Express specification has them (PRESUMED, log 20). -/
def configReset (f off : Nat) : W32 :=
  match off with
  | 0x58 => if f = 0 then 0x2810 else 0
  | 0x180 => if f = 0 then 1 else 0
  | _ => 0

/-- A dword of configuration space as software last left it. -/
def Device.configWritten (d : Device) (f off : Nat) : W32 := tget (d.fn f).config (configReset f off) off

/-- The written bits of a dword are ones the function supports: D0 or D3hot, a payload size of at most 512 bytes, a read request size
of at most 4,096 bytes (R416), and a system page size of 4 KiB or 64 KiB (R418). A write of others is ignored (PRESUMED, log 20). -/
def configLegal (off w : Nat) : Bool :=
  match off with
  | 0x44 => decide (w % 4 = 0) || decide (w % 4 = 3)
  | 0x58 => decide (bitsOf w 7 5 ≤ 2) && decide (bitsOf w 14 12 ≤ 5)
  | 0x180 => decide (w = 1) || decide (w = 0x10)
  | _ => true

/-- The bits of a configuration dword that are fixed: identity (R421), capability list (R422), BAR types (R425), the MSI-X
table (R418, R426), version, Flit Mode, payload size and link (R416), SR-IOV (R418, R425), ATS, PASID, PTM, the one Link IDE stream with
AES-GCM-256 and no selective ones (R418), and the readiness bound (R423); the other
bits of these dwords are free where the rules say nothing of them. None: laid out by the PCI Express specification alone. The places of
the fields are that specification's (PRESUMED, log 20). -/
def Device.configFixed (d : Device) (f off : Nat) : Option Nat :=
  let free := (Config.configDword f off).toNat
  match off with
  | 0x44 => if f = 0 then some (free / 4 * 4) else none
  | 0x50 => (capHeader f off).map fun h =>
      h + (setBits (setBits (setBits (free / 65536) 3 0 2) 7 4 0) 15 15 1) <<< 16
  | 0x104 => some (setBits free 12 12 0)
  | 0x110 => some (setBits free 13 13 0)
  | 0x394 => if f = 0 then some (setBits (setBits (setBits free 1 0 1) 12 8 0) 15 13 0) else none
  | 0x39C => if f = 0 then some (setBits (setBits (setBits free 18 14 0) 0 0 0) 31 24 0) else none
  | 0x54 => some (setBits (setBits (setBits free 2 0 2) 5 5 1) 28 28 1)
  | 0x58 => some 0
  | 0x5C => some (setBits free 11 0 (7 + 16 * 16))
  | 0x74 => some (setBits free 9 6 0)
  | 0x164 => if f = 0 then some (setBits free 0 0 0) else none
  | 0x17C => if f = 0 then some 0x11 else none
  | 0x180 => if f = 0 then some 0 else none
  | 0x184 => if f = 0 then some 0x4 else none
  | 0x188 => if f = 0 then some 0 else none
  | 0x18C => if f = 0 then some 0x4 else none
  | 0x190 => if f = 0 then some 0 else none
  | 0x194 => if f = 0 then some 0xC else none
  | 0x198 => if f = 0 then some 0 else none
  | 0x1A4 => some 0x20
  | 0x1B4 => if f = 0 then some 0x1400 else none
  | 0x1C4 => if f = 0 then some (setBits free 4 0 1) else none
  | 0x1C8 => if f = 0 then some 0 else none
  | 0x3B4 => if f = 0 then some (setBits (setBits free 11 0 readyTime) 31 31 1) else none
  | 0x00 => some (if f = 0 then 0x5A70_1FD4 else 0x5A71_1FD4)
  | 0x04 => some 0x0010_0000
  | 0x08 => some 0x1200_00B0
  | 0x10 => some (if f = 0 then 0x4 else 0)
  | 0x14 => some 0
  | 0x18 => some (if f = 0 then 0x4 else 0)
  | 0x1C => some 0
  | 0x20 => some (if f = 0 then 0xC else 0)
  | 0x24 => some 0
  | 0x2C => some ((d.reg (Reg.optBlock 1)).toNat % 2 ^ 32)
  | 0x34 => some (if f = 0 then 0x40 else 0x50)
  | 0x90 => some (0x0011 + 0x07FF <<< 16)
  | 0x94 => some (if f = 0 then 0x0018_0000 else 0x0000_4000)
  | 0x98 => some (if f = 0 then 0x0018_8000 else 0x0000_C000)
  | 0x16C => some (63 + 63 <<< 16)
  | 0x174 => some (1 + 1 <<< 16)
  | 0x178 => some (0x5A71 <<< 16)
  | 0x1D4 => if f = 0 then some (Config.dsn.toNat % 2 ^ 32) else none
  | 0x1D8 => if f = 0 then some (Config.dsn.toNat / 2 ^ 32) else none
  | _ => capHeader f off

/-- A dword of configuration space as read. -/
def Device.configRead (d : Device) (f off : Nat) : W32 :=
  let w := d.configWritten f off
  match d.configFixed f off with
  | some v => BitVec.ofNat 32 (v ||| (w.toNat &&& configMask f off))
  | none => if configMask f off = 0 then Config.configDword f off else w

/-- A write of size bytes at an offset of configuration space. In recovery mode VF Enable cannot be set (R424). A write that clears
Function Mask lets pending vectors go (R451). -/
def Device.configWrite (d : Device) (f off size : Nat) (v : W32) : Device :=
  let o := off / 4 * 4
  let sh := 8 * (off % 4)
  let x := d.fn f
  let old := (d.configWritten f o).toNat
  let new := if o = 0x104 ∨ o = 0x110 then old - (old &&& ((v.toNat % 2 ^ (8 * size)) <<< sh))
    else setBits old (sh + 8 * size - 1) sh v.toNat &&& configMask f o
  let new' := if f = 0 ∧ o = 0x168 ∧ d.recovery = true then setBits new 0 0 (bitsOf old 0 0) else new
  let d1 := if configLegal o new' then d.setFn f { x with config := tput x.config o (BitVec.ofNat 32 new') } else d
  if o = 0x90 then x.pba.foldl (fun d i => d.flushPending f i) d1 else d1

/-- Configuration requests are answered with RRS: before readiness, and until a link reset has reset every function (R423, R551,
R552). -/
def Device.retries (d : Device) : Bool := !d.host.ready || d.host.linkReset || decide (d.clock < d.host.busyUntil)

/-- A configuration request (R421 to R424, R552). -/
def Device.configRequest (d : Device) (f : Nat) (write : Bool) (off size : Nat) (v : W32) : Device :=
  if d.retries then d.send (.config f none)
  else if !(d.fnExists f) then d.send (.config f (some 0xFFFF_FFFF))
  else if f = 0 ∧ off / 4 * 4 ∈ [0x378, 0x37C, 0x380, 0x384] then d.doeRequest write (off / 4 * 4) v
  else if write then (d.configWrite f off size v).send (.config f (some 0))
  else d.send (.config f (some (BitVec.ofNat 32 (bitsOf (d.configRead f (off / 4 * 4)).toNat
    (8 * (off % 4) + 8 * size - 1) (8 * (off % 4))))))

/-- The write sets Initiate Function Level Reset, bit 15 of Device Control in the PCI Express capability at 0x50
(R422, R453; the bit's place PRESUMED, log 20). -/
def startsFlr (off size : Nat) (v : W32) : Bool :=
  decide (off / 4 * 4 = 0x58) && bitAt ((v.toNat % 2 ^ (8 * size)) <<< (8 * (off % 4))) 15

/-! ## Commands -/

/-- CONFIG_REQUEST. -/
def execConfigRequest (fn : Nat) (write : Bool) (off size : Nat) (v : W32) (s : State) : Host.Outcome State Fault Refusal :=
  memNext s fun s =>
    let s1 := s.onDev fun d => d.configRequest fn write off size v
    if write && startsFlr off size v && !s.dev.retries && s.dev.fnExists fn then s1.functionReset fn else s1

/-- APERTURE_READ. -/
def execApertureRead (fn off size : Nat) (s : State) : Host.Outcome State Fault Refusal :=
  memNext s fun s => s.apertureRead fn off size

/-- APERTURE_WRITE. -/
def execApertureWrite (fn off : Nat) (bytes : List Byte) (poison : Bool) (s : State) : Host.Outcome State Fault Refusal :=
  memNext s fun s => (s.onDev fun d => d.received bytes.length).apertureWrite fn off bytes poison

/-- FN_STAT_READ: the value is answered and its counters clear. -/
def execFnStatRead (fn : Nat) (s : State) : Host.Outcome State Fault Refusal :=
  devNext s fun d =>
    if fn < 64 then (d.send (.reg (Reg.fnStat fn) (d.reg (Reg.fnStat fn)))).clearRc (Reg.fnStat fn) else d

/-- LOAD_QUEUE. -/
def execLoadQueue (fn idx : Nat) (ctx : HostRead) (s : State) : Host.Outcome State Fault Refusal :=
  devNext s fun d => (d.received (hostLength ctx)).loadContext fn 1 idx ctx

/-- STOP_QUEUE. -/
def execStopQueue (fn idx : Nat) (s : State) : Host.Outcome State Fault Refusal := devNext s fun d => d.stopQueue fn idx

/-- STOP_QUEUE_DONE. -/
def execStopQueueDone (fn : Nat) (s : State) : Host.Outcome State Fault Refusal := devNext s fun d => d.stopDone fn

/-- LOAD_COMPLETION_RING. -/
def execLoadCompletionRing (fn idx : Nat) (ctx : HostRead) (s : State) : Host.Outcome State Fault Refusal :=
  devNext s fun d => (d.received (hostLength ctx)).loadContext fn 3 idx ctx

/-- STOP_COMPLETION_RING. -/
def execStopCompletionRing (fn idx : Nat) (s : State) : Host.Outcome State Fault Refusal :=
  devNext s fun d => d.stopRing fn idx false

/-- STOP_EVENT_RING. -/
def execStopEventRing (fn idx : Nat) (s : State) : Host.Outcome State Fault Refusal :=
  devNext s fun d => d.stopRing fn idx true

/-- SQ_DOORBELL. -/
def execSqDoorbell (fn idx size : Nat) (v : W64) (poison : Bool) (s : State) : Host.Outcome State Fault Refusal :=
  devNext s fun d => (d.received (size % 16)).doorbell 0 fn idx size v poison

/-- CQ_DOORBELL. -/
def execCqDoorbell (fn idx size : Nat) (v : W64) (poison : Bool) (s : State) : Host.Outcome State Fault Refusal :=
  devNext s fun d => (d.received (size % 16)).doorbell 1 fn idx size v poison

/-- EQ_DOORBELL. -/
def execEqDoorbell (fn idx size : Nat) (v : W64) (poison : Bool) (s : State) : Host.Outcome State Fault Refusal :=
  devNext s fun d => (d.received (size % 16)).doorbell 2 fn idx size v poison

/-- ENTRY_FETCH. -/
def execEntryFetch (cl : ClusterId) (heads : List HostRead) (s : State) : Host.Outcome State Fault Refusal :=
  onCluster s cl fun d => (d.received ((heads.map hostLength).sum)).fetchEntry cl heads

/-- LAUNCH. -/
def execLaunch (fn queue slot : Nat) (s : State) : Host.Outcome State Fault Refusal :=
  memNext s fun s => s.startEntry fn queue slot 1 fun s e => s.onDev fun d => d.launchEntry e

/-- The first launch of a step has the mask table read (R400, R401). -/
def State.launchMasks (s : State) (e : Entry) : State :=
  match s.dev.entry e.fn e.queue e.slot with
  | some x => if x.phase = .running then s.checkMasks (s.dev.rf (Reg.wcStep (s.dev.entryCluster e)) 31 0) else s
  | none => s

/-- LAUNCH_START. -/
def execLaunchStart (fn queue slot : Nat) (s : State) : Host.Outcome State Fault Refusal :=
  memNext s fun s => match s.dev.entry fn queue slot with
    | none => s
    | some e => if e.op = 1 ∧ e.phase = .ready then (s.onDev fun d => d.launchStart e).launchMasks e else s

/-- LAUNCH_TIME_LIMIT. -/
def execLaunchTimeLimit (fn queue slot : Nat) (s : State) : Host.Outcome State Fault Refusal :=
  memNext s fun s => s.onRunning fn queue slot 1 fun s e => s.onDev fun d => d.timeLimit e

/-- LAUNCH_COMPLETE. -/
def execLaunchComplete (fn queue slot : Nat) (s : State) : Host.Outcome State Fault Refusal :=
  memNext s fun s => s.onRunning fn queue slot 1 fun s e => s.onDev fun d => d.launchComplete e

/-- COPY. -/
def execCopy (fn queue slot : Nat) (s : State) : Host.Outcome State Fault Refusal :=
  memNext s fun s => s.startEntry fn queue slot 2 fun s e => s.onDev fun d => d.copyEntry e

/-- COPY_COMPLETE. -/
def execCopyComplete (fn queue slot : Nat) (src : HostRead) (s : State) : Host.Outcome State Fault Refusal :=
  memNext s fun s => s.onRunning fn queue slot 2 fun s e => (s.onDev fun d => d.received (hostLength src)).copyComplete e src

/-- FENCE_ENTRY. -/
def execFenceEntry (fn queue slot : Nat) (s : State) : Host.Outcome State Fault Refusal :=
  devNext s fun d => match d.entry fn queue slot with
    | none => d
    | some e => if e.op = 3 then d.fenceEntry e else d

/-- SIGNAL. -/
def execSignal (fn queue slot : Nat) (s : State) : Host.Outcome State Fault Refusal :=
  memNext s fun s => s.startEntry fn queue slot 4 fun s e => s.signalEntry e

/-- WAIT_ENTRY. -/
def execWaitEntry (fn queue slot : Nat) (s : State) : Host.Outcome State Fault Refusal :=
  memNext s fun s => (s.startEntry fn queue slot 5 fun s e => s.waitEntry e).onRunning fn queue slot 5 fun s e => s.waitEntry e

/-- WAIT_ENTRY_TIMEOUT. -/
def execWaitEntryTimeout (fn queue slot : Nat) (s : State) : Host.Outcome State Fault Refusal :=
  memNext s fun s => s.onRunning fn queue slot 5 fun s e => s.waitEntryTimeout e

/-- BARRIER. -/
def execBarrier (fn queue slot : Nat) (s : State) : Host.Outcome State Fault Refusal :=
  memNext s fun s => match s.dev.entry fn queue slot with
    | none => s
    | some e => if e.op = 7 ∧ (e.phase = .running ∨ s.dev.mayStart e = true) then s.barrierEntry e else s

/-- BARRIER_TIMEOUT. -/
def execBarrierTimeout (fn queue slot : Nat) (s : State) : Host.Outcome State Fault Refusal :=
  memNext s fun s => s.onRunning fn queue slot 7 fun s e => s.barrierTimeout e

/-- COMPLETION_TIMEOUT (R446). -/
def execCompletionTimeout (fn queue slot : Nat) (addr : W64) (s : State) : Host.Outcome State Fault Refusal :=
  memNext s fun s => s.onRunning fn queue slot 2 fun s e =>
    if bitAt e.d 0 then s.onDev fun d => d.completeHostError e 2 addr.toNat else s

/-- INTERRUPT_MODERATION: MOD_TIME has passed since the first unsignalled entry (R451). -/
def execInterruptModeration (fn : Nat) (event : Bool) (ring : Nat) (s : State) : Host.Outcome State Fault Refusal :=
  devNext s fun d => match d.ring fn event ring with
    | none => d
    | some r =>
      if r.irq = true ∧ 0 < r.unsig ∧ r.unsigSince + r.modTime * 10000 ≤ d.clock then d.signalRing fn event ring else d

/-- RING_STALL: a completion ring has stayed full for longer than DRAIN_BOUND (R448). -/
def execRingStall (fn ring : Nat) (s : State) : Host.Outcome State Fault Refusal :=
  devNext s fun d => match d.ring fn false ring with
    | none => d
    | some r => match r.fullSince with
      | none => d
      | some t =>
        if r.stalled = true ∨ d.clock ≤ t + d.rf (Reg.fnCtl fn) 31 0 * 10000 then d
        else (d.setRing fn false ring { r with stalled := true }).pcieEmit fn 0x9004 .notice false [(0, 1, 0), (2, 2, ring)]

/-- FUNCTION_LEVEL_RESET. -/
def execFunctionLevelReset (fn : Nat) (s : State) : Host.Outcome State Fault Refusal :=
  memNext s fun s => if s.dev.fnExists fn then s.functionReset fn else s

/-- The link trains to a rate in GT/s (2.5 coded as 2) and a width of the table of R416, and without Flit Mode at 32 GT/s and below
only. -/
def linkLegal (rate width : Nat) (flit : Bool) : Bool :=
  [2, 5, 8, 16, 32, 64, 128].contains rate && [1, 2, 4, 8, 16].contains width && (flit || decide (rate ≤ 32))

/-- LINK_RETRAIN: a retrain that changes the rate or width is reported (R417). No link trains to properties other than those of R416. -/
def execLinkRetrain (rate width : Nat) (flit : Bool) (s : State) : Host.Outcome State Fault Refusal :=
  devNext s fun d =>
    let d1 := { d with host := { d.host with rate := rate, width := width, flit := flit } }
    if !(linkLegal rate width flit) then d
    else if rate = d.host.rate ∧ width = d.host.width then d1
    else d1.pcieEmit 0 0x900E .notice false [(0, 1, rate), (1, 1, width), (2, 1, ofBool flit)]

/-- SPDM_REQUEST. -/
def execSpdmRequest (version : Nat) (secured : Bool) (request : List Byte) (s : State) :
    Host.Outcome State Fault Refusal := devNext s fun d => d.spdmRequest version secured request

/-- ATS_INVALIDATE_REQUEST: the module keeps no translation of the host's, so the request completes (R418, DESIGN CHOICE, log 22). -/
def execAtsInvalidateRequest (fn : Nat) (_addr : W64) (_size itag : Nat) (s : State) :
    Host.Outcome State Fault Refusal := devNext s fun d => if d.fnExists fn then d.send (.atsDone fn itag) else d

end Sys2Proof.Machine
end

