-- ==== Sys2Proof/Machine/Link.lean ====
section
/-!
DEFINITION. Peer ports on the way out (chapter 13): seats and wiring (R460 to R462), flits (R464 to R468), packets between
seats (R469, R470), re-sending and credits (R474 to R479), the ledger (R472), routes and the leader (R490, R499 to R501), and
messages of stewards (R492).
-/
namespace Sys2Proof.Machine

/-- Microseconds of the table clock. -/
def micros (n : Nat) : Nat := 10000 * n
/-- Milliseconds of the table clock. -/
def millis (n : Nat) : Nat := 10000000 * n

/-! ## Seats (R460 to R462) -/

/-- The module belongs to a table: its SEAT strap names a seat (R460). -/
def Device.seated (d : Device) : Bool := decide (d.seat < 9)
/-- The seat that a port leads to (R462). -/
def Device.portSeat (d : Device) (p : Nat) : Nat := (d.seat + p / 2 + 1) % 9
/-- The first of the two ports that lead to a seat (R462). -/
def Device.firstPort (d : Device) (t : Nat) : Nat := 2 * ((t + 9 - d.seat) % 9) - 2
/-- PORT_STAT.STATE (R480). -/
def Device.portState (d : Device) (p : Nat) : Nat := d.rf (Reg.portStat p) 2 0
/-- PORT_STAT.STATE set. -/
def Device.setPortState (d : Device) (p v : Nat) : Device := d.setRf (Reg.portStat p) 2 0 v
/-- The port is up. -/
def Device.portUp (d : Device) (p : Nat) : Bool := decide (d.portState p = 4)
/-- A record of the peer unit about a port (R506). -/
def Device.peerEmit (d : Device) (p code : Nat) (cls : EvClass) (poison : Bool) (det : List (Nat × Nat × Nat)) : Device :=
  d.emit (srcHub 0x31 p) code cls poison (detail det)

/-! ## Flits (R464 to R468) -/

/-- CRC-32 of IEEE 802.3 (R466). -/
def crc32 (bs : List Byte) : Nat :=
  (bs.foldl (fun c b => (List.range 8).foldl (fun c _ => if c % 2 = 1 then (c / 2) ^^^ 0xEDB8_8320 else c / 2) (c ^^^ b.toNat))
    0xFFFF_FFFF) ^^^ 0xFFFF_FFFF

/-- The 256 bytes of a flit: header, payload, CRC (R466). -/
def flitBytes (hdr : Nat) (payload : List Byte) : List Byte :=
  let body := leBytes 8 hdr ++ slice payload 0 244
  body ++ leBytes 4 (crc32 body)

/-- Data flits of a packet of n bytes (R470). -/
def flitCount (n : Nat) : Nat := (n + 243) / 244

/-- A list of counts with n added to element i. -/
def bump (l : List Nat) (i n : Nat) : List Nat := setAt l i (l.getD i 0 + n)

/-- The receive chute of a port (R54). -/
def rxChute (p : Nat) : ChuteId := ⟨.peer p, 0⟩
/-- The transmit chute of a port (R54). -/
def txChute (p : Nat) : ChuteId := ⟨.peer p, 1⟩

/-- A data flit, by its TYPE (R466). -/
def dataHdr (hdr : Nat) : Bool := decide (hdr % 4 = 0)

/-- PEER_HOLD_IN holds off data flits, the watermark of the transmit chute every flit (R66, R67). -/
def Device.flitHeld (d : Device) (p hdr : Nat) : Bool := d.holdOut (txChute p) || (dataHdr hdr && (d.port p).hold)

/-- One flit enters the transmit chute, and the PHY takes it from there as soon as it is whole (DESIGN CHOICE, log 74): ACK names the
last data flit received in order, and up to 31 credits of one VC are returned (R466). -/
def Device.flitOut (d : Device) (p hdr : Nat) (payload : List Byte) : Device :=
  let x := d.port p
  let v := ((List.range 8).find? fun v => decide (0 < x.returns.getD v 0)).getD 0
  let n := Nat.min 31 (x.returns.getD v 0)
  let h := hdr + ((x.expect + 4095) % 4096) <<< 20 + v <<< 32 + n <<< 35
  let d1 := if dataHdr hdr then d.addRf (Reg.dbgCnt 2) 47 0 1 else d
  (d1.setPort p { x with returns := setAt x.returns v (x.returns.getD v 0 - n), granted := bump x.granted v n }).send
    (.flit p (flitBytes h payload))

/-- A flit is sent, or waits while it is held off; a data flit waits behind those that wait. -/
def Device.sendFlit (d : Device) (p hdr : Nat) (payload : List Byte) : Device :=
  if d.flitHeld p hdr || (dataHdr hdr && (d.port p).unsent.any fun f => dataHdr f.1) then
    d.onPort p fun x => { x with unsent := x.unsent ++ [(hdr, payload)] }
  else d.flitOut p hdr payload

/-- The flits that wait leave as far as nothing holds them off. -/
def Device.sendUnsent (d : Device) (p : Nat) : Device :=
  (d.port p).unsent.foldl (fun d f => d.sendFlit p f.1 f.2) (d.onPort p fun x => { x with unsent := [] })

/-- A control flit: CTYPE in byte 8, then the bytes given (R468). -/
def Device.sendControl (d : Device) (p ctype : Nat) (body : List Byte) : Device :=
  d.sendFlit p 1 (BitVec.ofNat 8 ctype :: body)

/-- An idle flit (R466). -/
def Device.sendIdle (d : Device) (p : Nat) : Device := d.sendFlit p 2 []

/-- Flits of the re-send buffer leave again (R476). -/
def Device.sendAgain (d : Device) (p : Nat) (fs : List TxFlit) : Device :=
  fs.foldl (fun d f => d.sendFlit p f.hdr f.payload) d

/-- Flit i of a packet (R466, R470, R474). -/
def packetFlit (pk : PeerPacket) (seq i : Nat) : TxFlit :=
  let n := flitCount pk.bytes.length
  let body := (pk.bytes.drop (244 * i)).take 244
  let s := (seq + i) % 4096
  { seq := s
    hdr := pk.vc <<< 2 + ofBool (decide (i = 0)) <<< 5 + ofBool (decide (i + 1 = n)) <<< 6 + s <<< 8 + body.length <<< 40
    payload := body
    entry := if i + 1 = n then pk.entry else none }

/-- The data flits of a packet leave: numbers, credits and re-send buffer (R474, R478). -/
def Device.sendPacketFlits (d : Device) (p : Nat) (pk : PeerPacket) : Device :=
  let x := d.port p
  let n := flitCount pk.bytes.length
  let fs := (List.range n).map (packetFlit pk x.sent)
  let x' : Port :=
    { x with
      sent := (x.sent + n) % 4096
      credits := setAt x.credits pk.vc (x.credits.getD pk.vc 0 - n)
      resend := x.resend ++ fs
      progress := if x.resend.isEmpty then d.clock else x.progress }
  (d.setPort p x').sendAgain p fs

/-- A packet may start on a port: the port is up (survival hop 0 already while it is identifying), no hold, credits for every
flit, and room in the re-send buffer (R67, R474, R478, R480). -/
def Device.mayStartPacket (d : Device) (p : Nat) (pk : PeerPacket) : Bool :=
  let x := d.port p
  let n := flitCount pk.bytes.length
  !(d.flitHeld p 0) && !(x.unsent.any fun f => dataHdr f.1) && decide (n ≤ x.credits.getD pk.vc 0) && decide (x.resend.length + n ≤ 512) &&
    (d.portUp p || (decide (pk.vc = 6) && (decide (d.portState p = 2) || decide (d.portState p = 3))))

/-- The oldest packet that may start, no packet of its VC before it, and the rest. -/
def pickPacket (ok : PeerPacket → Bool) (seen : List Nat) (q : List PeerPacket) : Option (PeerPacket × List PeerPacket) :=
  match q with
  | [] => none
  | a :: r =>
    if !(seen.contains a.vc) && ok a then some (a, r)
    else match pickPacket ok (a.vc :: seen) r with
      | none => none
      | some (b, r') => some (b, a :: r')

/-- Packets leave while they may; fuel bounds them by the queue's length. -/
def Device.pumpFuel : Nat → Device → Nat → Device
  | 0, d, _ => d
  | n + 1, d, p =>
    match pickPacket (d.mayStartPacket p) [] (d.port p).queue with
    | none => d
    | some (pk, rest) => Device.pumpFuel n ((d.onPort p fun x => { x with queue := rest }).sendPacketFlits p pk) p

/-- The port sends what it may. -/
def Device.pump (d : Device) (p : Nat) : Device := Device.pumpFuel (d.port p).queue.length d p

/-- The port sends what it may, or an idle flit that carries ACK and credits. -/
def Device.respond (d : Device) (p : Nat) : Device :=
  let d1 := d.pump p
  if d1.out.length = d.out.length then d.sendIdle p else d1

/-- A packet is put on a port's queue. -/
def Device.queuePacket (d : Device) (p vc : Nat) (bytes : List Byte) (entry : Option Nat) : Device :=
  (d.onPort p fun x => { x with queue := x.queue ++ [⟨vc, bytes, entry, d.clock⟩] }).pump p

/-! ## Routes (R490, R499 to R501) -/

/-- STATE of a seat in the current roster (R487). -/
def Device.rosterState (d : Device) (s : Nat) : Nat := d.rf (Reg.roster s) 2 0
/-- The seat is working or spare in the current roster. -/
def Device.inRoster (d : Device) (s : Nat) : Bool :=
  decide (s < 9) && (decide (d.rosterState s = 1) || decide (d.rosterState s = 2))
/-- ROSTER_CTL.CURRENT (R488). -/
def Device.rosterEpoch (d : Device) : Nat := d.rf Reg.rosterCtl 15 0

/-- A port toward a seat is up. -/
def Device.directTo (d : Device) (t : Nat) : Bool :=
  decide (t < 9) && decide (t ≠ d.seat) && (d.portUp (d.firstPort t) || d.portUp (d.firstPort t + 1))

/-- The port that a direct packet to a seat with an OP_TAG goes out on (R499). -/
def Device.portToward (d : Device) (t tag : Nat) : Option Nat :=
  if !(d.directTo t) then none
  else
    let a := d.firstPort t
    if d.portUp a && d.portUp (a + 1) then some (a + tag % 2) else some (if d.portUp a then a else a + 1)

/-- PEER.ROUTE[t] as R499 draws it. -/
def Device.routeWord (d : Device) (t : Nat) : Nat :=
  if t = d.seat then 0xF <<< 2
  else
    let a := d.firstPort t
    let ups := ofBool (d.portUp a) <<< 6 + ofBool (d.portUp (a + 1)) <<< 7
    if !(d.inRoster t) then 3 + 0xF <<< 2 + ups
    else if d.directTo t then 1 + 0xF <<< 2 + ups
    else match (List.range 9).find? fun v => d.inRoster v && d.directTo v && d.rbit (Reg.roster v) (8 + t) with
      | some v => 2 + v <<< 2 + ups
      | none => 3 + 0xF <<< 2 + ups

/-- The leader under R490; 0xF: none. -/
def Device.leaderOf (d : Device) : Nat :=
  ((List.range 9).find? fun s => d.inRoster s && (decide (s = d.seat) || decide (d.rf (Reg.route s) 1 0 ≠ 3))).getD 0xF

/-- The reference seat of the table clock: the leader where a port toward it is up, else the intermediate of the route to it;
0xF: the module is its own master, or reaches no reference (R502, R613). -/
def Device.refSeat (d : Device) : Nat :=
  let l := d.rf Reg.tableStat 11 8
  if d.rosterEpoch = 0 ∨ l = d.seat ∨ 9 ≤ l then 0xF
  else if d.directTo l then l
  else if d.rf (Reg.route l) 1 0 = 2 then d.rf (Reg.route l) 5 2 else 0xF

/-- Every route is drawn again, and the leader and the reference seat with them (R490, R499, R502). -/
def Device.redraw (d : Device) : Device :=
  if !d.seated then d
  else
    let d1 := (List.range 9).foldl (fun (d : Device) t => d.setRegN (Reg.route t) (d.routeWord t)) d
    let d2 := d1.setRf Reg.tableStat 11 8 d1.leaderOf
    let r := d2.refSeat
    if r = d.rf Reg.timeStat 3 0 then d2 else (d2.setRf Reg.timeStat 3 0 r).onPeer fun x => { x with refAt := d.clock }

/-- The port a packet to a seat goes out on by its route; none: unreachable. A seat without quorum sends nothing but survival
messages (R496, R499). -/
def Device.egress (d : Device) (t tag net : Nat) : Option Nat :=
  if !d.seated || decide (9 ≤ t) || (decide (d.rf Reg.tableStat 13 12 = 2) && decide (net ≠ 3)) then none
  else match d.rf (Reg.route t) 1 0 with
    | 1 => d.portToward t tag
    | 2 => d.portToward (d.rf (Reg.route t) 5 2) tag
    | _ => none

/-- A packet whose route is unreachable is reported once per OP_TAG and seat (R501). -/
def Device.unreachable (d : Device) (tag t : Nat) : Device :=
  if d.peer.unreached.contains (tag, t) then d
  else (d.onPeer fun x => { x with unreached := (tag, t) :: x.unreached }).emit (srcHub 0x31 0) 0xA00A .deferred true
    (detail [(0, 2, tag), (2, 1, t)]) (d.tagOrigin tag)

/-! ## Packets to other seats (R469 to R472) -/

/-- The seat word (R469). -/
def seatWord (dst src hop repoch : Nat) : List Byte := leBytes 8 (dst + src <<< 4 + hop <<< 8 + repoch <<< 16)

/-- The peer unit answers a request poisoned (R472). -/
def Device.answerPoisoned (d : Device) (h : Header) : Device := d.send (.packet ⟨responseHdr h true (srcHub 0x31 0), []⟩)

/-- The lowest ledger number that is free. -/
def freeKey {α : Type} (t : Table α) : Nat := ((List.range (t.length + 1)).find? fun k => (tfind t k).isNone).getD t.length

/-- A packet goes to another seat: inner header and payload on the network of its class (R469, R472, R501). -/
def Device.sendToSeat (d : Device) (t net : Nat) (h : Header) (payload : List Byte) : Device :=
  let tag := h.opTag.toNat
  let bytes := seatWord t d.seat 0 d.rosterEpoch ++ headerBytes h ++ payload
  match d.egress t tag net with
  | none => (if net = 0 then d.answerPoisoned h else d).unreachable tag t
  | some p =>
    if net = 0 then
      let k := freeKey d.peer.ledger
      (d.onPeer fun x => { x with ledger := tput x.ledger k ⟨t, h, d.clock, p, false⟩ }).queuePacket p 0 bytes (some k)
    else d.queuePacket p (2 * net) bytes none

/-- The on-chip packet to the peer unit: DST_SEAT, inner header and inner payload (R469). -/
def packetParts (pl : List Byte) : Nat × Header × List Byte :=
  let h := headerOf (leAt pl 8 16)
  (leAt pl 0 1 % 16, h, slice pl 24 h.len.toNat)

/-- A packet of this seat goes out; one that came poisoned stays poisoned (R35, R469). -/
def Device.sendNow (d : Device) (pk : Packet) : Device :=
  let q := packetParts pk.payload
  d.sendToSeat q.1 pk.hdr.vnet.toNat { q.2.1 with poison := q.2.1.poison || pk.hdr.poison } q.2.2

/-- The seat of a packet of this seat has no route (R501). -/
def Device.noRoute (d : Device) (pk : Packet) : Bool :=
  let q := packetParts pk.payload
  (d.egress q.1 q.2.1.opTag.toNat pk.hdr.vnet.toNat).isNone

/-- A request waits while the ledger is full, behind those that wait already (R472, R473, R505); what has no route does not wait
(R501). -/
def Device.sendOut (d : Device) (pk : Packet) : Device :=
  if pk.hdr.vnet = 0 ∧ d.noRoute pk = false ∧ (4096 ≤ d.peer.ledger.length ∨ d.peer.waiting.isEmpty = false) then
    d.onPeer fun x => { x with waiting := x.waiting ++ [pk] }
  else d.sendNow pk

/-- Requests that wait go while the ledger has room, oldest first; fuel bounds them by their number. -/
def Device.drainWaiting : Nat → Device → Device
  | 0, d => d
  | n + 1, d =>
    match d.peer.waiting with
    | [] => d
    | w :: r =>
      if 4096 ≤ d.peer.ledger.length then d
      else Device.drainWaiting n ((d.onPeer fun x => { x with waiting := r }).sendNow w)

/-- A ledger entry closes, and requests that wait for one go (R472). -/
def Device.closeLedger (d : Device) (k : Nat) : Device :=
  Device.drainWaiting d.peer.waiting.length (d.onPeer fun x => { x with ledger := tdel x.ledger k })

/-- Requests that wait and whose seat has lost its route are answered at once (R501). -/
def Device.answerWaiting (d : Device) : Device :=
  (d.peer.waiting.filter d.noRoute).foldl Device.sendNow
    (d.onPeer fun x => { x with waiting := x.waiting.filter fun pk => !(d.noRoute pk) })

/-- The ledger entries whose request was not fully acknowledged on a port. -/
def Device.openOn (d : Device) (p : Nat) : List (Nat × LedgerEntry) :=
  d.peer.ledger.filter fun e => decide (e.2.port = p) && !e.2.acked

/-- They are answered poisoned at once (R480, R486). -/
def Device.poisonOpen (d : Device) (p : Nat) : Device :=
  (d.openOn p).foldl (fun d e => (d.answerPoisoned e.2.hdr).closeLedger e.1) d

/-! ## Messages of stewards (R492) -/

/-- The inner header of a message to a steward. -/
def messageHdr (stew len : Nat) : Header :=
  { dstDie := 8, dstCluster := 0, dstCore := .ofNat 8 stew, dstUnit := 0, vnet := 3, poison := false, last := true
    compressed := false, observed := false, zmask := false, srcDie := 8, srcCluster := 0, srcCore := 0xFF, srcUnit := 0x31
    codebook := 0, opTag := 0, width := 0, len := .ofNat 11 len, blocks := 0, tscale := 0, epoch := 0 }

/-- Roster messages travel on a direct port to a seat that has no route yet (R491, R498). -/
def rosterType (m : Nat) : Bool := decide (0x10 ≤ m) && decide (m ≤ 0x16)

/-- A message goes to a steward of a seat (R492). -/
def Device.sendMessage (d : Device) (t stew : Nat) (bytes : List Byte) (poison : Bool) : Device :=
  let h := { messageHdr stew bytes.length with poison := poison }
  match d.egress t 0 3 with
  | some p => d.queuePacket p 6 (seatWord t d.seat 0 d.rosterEpoch ++ headerBytes h ++ bytes) none
  | none =>
    match (if rosterType (leAt bytes 0 1) then d.portToward t 0 else none) with
    | some p => d.queuePacket p 6 (seatWord t d.seat 0 d.rosterEpoch ++ headerBytes h ++ bytes) none
    | none => d.unreachable 0 t

/-- Firmware sends a message to steward 0 of a seat: MTYPE, SRC_SEAT, the conversation number, and the body (R492); it is poisoned where
the body came of poisoned data (R35). -/
def Device.firmwareSend (d : Device) (t mtype : Nat) (body : List Byte) (poison : Bool) : Device :=
  d.takeFresh.sendMessage t 0 (leBytes 1 mtype ++ leBytes 1 d.seat ++ leBytes 2 (Config.conversation d.fresh).toNat ++ body) poison

/-- Firmware sends a message that no poisoned data contributes to (R492). -/
def Device.firmwareMessage (d : Device) (t mtype : Nat) (body : List Byte) : Device := d.firmwareSend t mtype body false

/-- A message of a type from a seat stands in the receive ring, and its slot, at a device address, meets a test: it has arrived (R40, R492). -/
def State.messageWaits (s : State) (mtype seat : Nat) (ok : Nat → Bool) : Bool :=
  let head := s.dev.rf Reg.msgRx 9 0
  (List.range ((s.dev.rf Reg.msgRx 25 16 + 1024 - head) % 1024)).any fun i =>
    let a := hubStoreAddr (0x3F0_0000 + 1024 * ((head + i) % 1024))
    decide (s.loadN (a + 24) 1 = mtype) && decide (s.loadN (a + 16) 1 = seat) && ok a

/-- A message of a type from a seat that stands at the head of the receive ring is taken: its slot is returned (R492,
R493). -/
def State.takeMessage (s : State) (mtype seat : Nat) : State :=
  let head := s.dev.rf Reg.msgRx 9 0
  let a := hubStoreAddr (0x3F0_0000 + 1024 * head)
  if head ≠ s.dev.rf Reg.msgRx 25 16 ∧ s.loadN (a + 24) 1 = mtype ∧ s.loadN (a + 16) 1 = seat then
    s.onDev fun d => d.setRf Reg.msgRx 9 0 (head + 1)
  else s

end Sys2Proof.Machine
end

