-- ==== Sys2Proof/Machine/Port.lean ====
section
/-!
DEFINITION. The roster as the leader proposes it (R494 to R498), what follows a port that enters or leaves up (R484, R498,
R499), and the port on the way in: fences (R486), faults (R484), codewords (R465), flits (R475 to R478) and the identity
exchange (R480 to R483).
-/
namespace Sys2Proof.Machine

/-! ## Who leads and what each seat sees (R490, R494, R498) -/

/-- The HELLO of the partner at a seat, where a port toward it is identified. -/
def Device.helloOf (d : Device) (t : Nat) : Option (List Byte) :=
  match (d.port (d.firstPort t)).hello with
  | some h => if d.portUp (d.firstPort t) then some h else (d.port (d.firstPort t + 1)).hello
  | none => (d.port (d.firstPort t + 1)).hello

/-- Seats toward which a port is up. -/
def Device.partners (d : Device) : List Nat := (List.range 9).filter d.directTo

/-- The leader as this seat computes it: of the roster, where it has one; else the one its partners' HELLO messages name;
else the lowest seat it sees (R490, R498). -/
def Device.leaderNow (d : Device) : Nat :=
  if d.rosterEpoch ≠ 0 then d.rf Reg.tableStat 11 8
  else
    match d.partners.find? fun t => match d.helloOf t with
      | some h => decide (leAt h 56 2 ≠ 0)
      | none => false with
    | some t => leAt ((d.helloOf t).getD []) 58 1 % 16
    | none => (d.seat :: d.partners).foldl Nat.min 0xF

/-- The module's own LIVE mask: bit t is set while a port toward seat t is up (R487). -/
def Device.liveMask (d : Device) : Nat := d.partners.foldl (fun a t => a + 1 <<< t) 0

/-- The latest LIVE mask of a seat (R494). One that sent none sees what the roster says of it, and this seat where a port toward it is
up (log 82). -/
def Device.liveOf (d : Device) (a : Nat) : Nat :=
  if a = d.seat then d.liveMask
  else tget d.peer.live (d.rf (Reg.roster a) 16 8 ||| (if d.directTo a then 1 <<< d.seat else 0)) a

/-- direct(a, b) of R494. -/
def Device.direct (d : Device) (a b : Nat) : Bool := bitAt (d.liveOf a) b && bitAt (d.liveOf b) a

/-- reach(a, b, cand) of R494. -/
def Device.reach (d : Device) (cand : List Nat) (a b : Nat) : Bool :=
  d.direct a b || cand.any fun v => d.direct a v && d.direct v b

/-- One round of keep: pairs in ascending order (R494). -/
def Device.keepRound (d : Device) (cand : List Nat) : List Nat :=
  (List.range 81).foldl (fun c i =>
    let a := i / 9
    let b := i % 9
    if a < b ∧ c.contains a = true ∧ c.contains b = true ∧ d.reach c a b = false then sremove c b else c) cand

/-- keep(cand) of R494: at most nine rounds remove a seat. -/
def Device.keep (d : Device) (cand : List Nat) : List Nat := (List.range 9).foldl (fun c _ => d.keepRound c) cand

/-- SEATS and Q (R496). -/
def Device.seats (d : Device) : Nat := d.rf Reg.tableCtl 3 0
/-- The quorum Q (R496). -/
def Device.quorum (d : Device) : Nat := d.seats / 2 + 1
/-- SPARE of TABLE_CTL. -/
def Device.spareSeat (d : Device) : Nat := d.rf Reg.tableCtl 7 4
/-- The number of work slots W as TABLE_CTL gives it (R507). -/
def Device.slotsNow (d : Device) : Nat := Nat.min 8 (if d.spareSeat = 0xF then d.seats else d.seats - 1)
/-- The number of work slots W, fixed at formation (R507). -/
def Device.slots (d : Device) : Nat := d.peer.slots.getD d.slotsNow

/-- Epoch a is newer than b (R207, R489). -/
def epochAfter (a b : Nat) : Bool :=
  let n := (a + 65536 - b) % 65536
  decide (1 ≤ n) && decide (n ≤ 0x7FFF)

/-- An epoch newer than CURRENT and PENDING; 0x0000 means no roster (R488, R489). -/
def Device.nextEpoch (d : Device) : Nat :=
  let c := d.rosterEpoch
  let p := d.rf Reg.rosterCtl 47 32
  let m := if epochAfter p c then p else c
  if (m + 1) % 65536 = 0 then 1 else (m + 1) % 65536

/-- A roster entry of a seat with a state and a slot: what its HELLO said, or what the roster held, and its LIVE mask
(R487). -/
def Device.rosterWord (d : Device) (s state slot : Nat) : W64 :=
  let base : Nat :=
    if s = d.seat then
      (d.rf Reg.tableStat 5 4) <<< 4 + (d.rf Reg.thermStat 3 2) <<< 6
        + ((d.host.image.map Image.version).getD 0 % 2 ^ 32) <<< 24 + 0x03 <<< 56
    else match d.helloOf s with
      | some h => (leAt h 4 1 / 16) <<< 4 + (leAt h 8 4) <<< 24 + (leAt h 6 1) <<< 56
      | none => d.regN (Reg.roster s)
  BitVec.ofNat 64 (setBits (setBits (setBits base 2 0 state) 23 20 slot) 16 8 (d.liveOf s))

/-- The roster of a first formation (R498). -/
def Device.formRoster (d : Device) (kept : List Nat) : List W64 :=
  let spare := if kept.contains d.spareSeat then d.spareSeat else 0xF
  let work := (kept.filter fun s => s != spare).take d.slots
  (List.range 9).map fun s =>
    match work.idxOf? s with
    | some n => d.rosterWord s 1 n
    | none => if kept.contains s then d.rosterWord s 2 0xF else d.rosterWord s 0 0xF

/-- The slots that working seats hold in the current roster, of those of a list. -/
def Device.slotsHeld (d : Device) (seats : List Nat) : List Nat :=
  (seats.filter fun s => decide (d.rosterState s = 1)).map fun s => d.rf (Reg.roster s) 23 20

/-- A seat's place in a proposal that keeps the seats given: a kept spare takes the lowest slot that this proposal loses (R495), a
joiner the lowest slot left unserved (R535). -/
def Device.slotGiven (d : Device) (kept joiners : List Nat) (s : Nat) : Option Nat :=
  let gone := (List.range 9).filter fun t => !(kept.contains t)
  let lost := (List.range d.slots).filter (d.slotsHeld gone).contains
  let spares := kept.filter fun t => decide (d.rosterState t = 2)
  let held := d.slotsHeld kept ++ lost.take spares.length
  match spares.idxOf? s with
  | some i => lost[i]?
  | none => match joiners.idxOf? s with
    | some i => ((List.range d.slots).filter fun n => !(held.contains n))[i]?
    | none => none

/-- The roster of a later proposal: seats not kept become lost or left, and joiners are added (R494, R495, R498, R535). -/
def Device.nextRoster (d : Device) (kept joiners : List Nat) : List W64 :=
  (List.range 9).map fun s =>
    let st := d.rosterState s
    if kept.contains s ∨ joiners.contains s then
      if st = 1 then d.rosterWord s 1 (d.rf (Reg.roster s) 23 20)
      else match d.slotGiven kept joiners s with
        | some n => d.rosterWord s 1 n
        | none => d.rosterWord s 2 0xF
    else if st = 1 ∨ st = 2 then d.rosterWord s (if d.peer.left.contains s then 4 else 3) 0xF
    else d.reg (Reg.roster s)

/-- The roster of unchanged membership that a suspect brings about (R498). -/
def Device.sameRoster (d : Device) : List W64 :=
  (List.range 9).map fun s =>
    if d.inRoster s then d.rosterWord s (d.rosterState s) (d.rf (Reg.roster s) 23 20) else d.reg (Reg.roster s)

/-- PROPOSE or COMMIT: the epoch and nine entries after the message header (R492). -/
def rosterBody (epoch : Nat) (es : List W64) : List Byte := leBytes 2 epoch ++ es.flatMap fun e => leBytes 8 e.toNat

/-- ROSTER_NEXT and PENDING take an accepted proposal (R497). -/
def Device.acceptRoster (d : Device) (epoch : Nat) (es : List W64) (proposer : Nat) : Device :=
  let d1 := (List.range 9).foldl (fun (d : Device) s => d.setReg (Reg.rosterNext s) (es.getD s 0)) d
  ((d1.setRf Reg.rosterCtl 47 32 epoch).setRf Reg.rosterCtl 48 48 1).onPeer fun x => { x with proposer := proposer }

/-- This seat reaches another: a port toward it is up, or a route leads there (R499). -/
def Device.reaches (d : Device) (s : Nat) : Bool := decide (s = d.seat) || d.directTo s || decide (d.rf (Reg.route s) 1 0 ≠ 3)

/-- The seats of a proposal: working and spare seats, but for those that sent LEAVE, did not accept the last proposal, or cannot be
reached, which those that did not send HALTED count as (R494, R528). With no roster, every seat that is reached (R498). -/
def Device.candidates (d : Device) : List Nat :=
  (List.range 9).filter fun s =>
    !(d.peer.left.contains s) && !(d.peer.silent.contains s) && !(d.peer.unheard.contains s) && d.reaches s &&
      (decide (d.rosterEpoch = 0) || d.inRoster s)

/-- Seats that a proposal adds: they sent JOIN, and a port toward them is up (R498). -/
def Device.joining (d : Device) : List Nat :=
  (List.range 9).filter fun s => d.peer.joiners.contains s && !(d.inRoster s) && d.directTo s && !(d.peer.silent.contains s)

/-- TABLE_STAT.STATE is no quorum (R496). -/
def Device.noQuorum (d : Device) : Bool := decide (d.rf Reg.tableStat 13 12 = 2)

/-- TABLE_STAT.STATE becomes no quorum: how many seats are reached, and Q (R496, R506). -/
def Device.loseQuorum (d : Device) (n : Nat) : Device :=
  (d.setRf Reg.tableStat 13 12 2).peerEmit 0 0xA009 .deferred false [(0, 1, n), (1, 1, d.quorum)]

/-- A proposal has reached this seat: it is no longer without quorum (R496). -/
def Device.regainQuorum (d : Device) : Device :=
  if d.noQuorum then d.setRf Reg.tableStat 13 12 (ofBool (d.inRoster d.seat)) else d

/-- The leader proposes, or has no quorum (R494 to R498). `same`: a suspect's proposal, of unchanged membership. -/
def Device.proposeAs (d : Device) (same : Bool) : Device :=
  let cand := d.candidates
  let kept := d.keep cand
  let d0 := d.onPeer fun x => { x with waitUntil := none, proposal := none }
  if kept.length < d.quorum then d0.loseQuorum cand.length
  else
    let form := decide (d.rosterEpoch = 0)
    let es := if form then d.formRoster kept else if same then d.sameRoster else d.nextRoster kept d.joining
    let asked := if form then kept else if same then (List.range 9).filter d.inRoster else kept ++ d.joining
    let epoch := if form then (if d.rf Reg.rosterCtl 47 32 = 0 then 1 else d.nextEpoch) else d.nextEpoch
    let d1 := (d0.regainQuorum.acceptRoster epoch es d.seat).onPeer fun x =>
      { x with proposal := some ⟨epoch, es, asked, [d.seat], d.clock⟩ }
    asked.foldl (fun d s => if s = d.seat then d else d.firmwareMessage s 0x13 (rosterBody epoch es)) d1

/-- The leader proposes (R494 to R498). -/
def Device.propose (d : Device) : Device := d.proposeAs false

/-- The leader waits 100 µs from the first trigger (R498). -/
def Device.beginWait (d : Device) : Device :=
  d.onPeer fun x => { x with waitUntil := some (x.waitUntil.getD (d.clock + micros 100)) }

/-- A seat of the roster, not its leader, that reaches too few of its seats for any majority has no quorum (R496; when it finds so,
DESIGN CHOICE, log 201). -/
def Device.quorumCheck (d : Device) : Device :=
  let n := ((List.range 9).filter fun s => d.inRoster s && d.reaches s).length
  if d.inRoster d.seat ∧ d.leaderNow ≠ d.seat ∧ d.noQuorum = false ∧ n < d.quorum then d.loseQuorum n else d

/-- The routes are drawn again after a port entered or left up; a changed LIVE mask is reported to the leader, and a seat
that has become the leader proposes (R484, R498, R499). -/
def Device.linksChanged (d : Device) : Device :=
  let d1 := d.redraw.answerWaiting
  let mask := d1.liveMask
  let old := d.peer.lastLeader
  let leader := d1.leaderNow
  let d2 := d1.onPeer fun x => { x with lastLive := mask, lastLeader := leader }
  let d3 :=
    if mask = d.peer.lastLive then d2
    else if leader = d.seat then (if d.rosterEpoch = 0 then d2 else d2.beginWait)
    else if leader = 0xF then d2
    else d2.firmwareMessage leader 0x12 (leBytes 2 mask)
  (if d.rosterEpoch ≠ 0 ∧ leader = d.seat ∧ old ≠ leader ∧ old ≠ 0xF then d3.propose else d3).quorumCheck

/-! ## Fences, faults and loss of lock (R480, R484 to R486) -/

/-- Packets a port drops with its buffers. -/
def Port.held (x : Port) : Nat :=
  x.buffer.length + x.queue.length + ofBool x.parts.isSome + (x.resend.filter fun f => bitAt f.hdr 6).length

/-- The port is fenced (R486). The flush of its chutes is neither a FLUSH write nor a reset: CHUTE_FLUSH carries cause 0 (DESIGN CHOICE, log
217). -/
def Device.fence (d : Device) (p cause : Nat) : Device :=
  let up := d.portUp p
  if d.portState p = 5 ∨ d.portState p = 0 then d
  else
    let x := d.port p
    let ch : ChuteId := ⟨.peer p, 0⟩
    let n := (d.openOn p).length
    let d1 := d.sendControl p 4 [BitVec.ofNat 8 cause]
    let d2 := (d1.setRf (Reg.chuteCtl ch) 17 16 1).flushChute ch 0 false false
    let d3 := d2.setPort p
      { Port.init with
        hold := x.hold, holdAt := x.holdAt, faults := x.faults
        unsent := (d1.port p).unsent.filter fun f => decide (f.1 = 1) && decide (leAt f.2 0 1 = 4) }
    let d4 := (d3.poisonOpen p).peerEmit p 0xA005 .deferred (decide (0 < n))
      [(0, 1, cause), (1, 1, d.rf (Reg.portStat p) 7 4), (2, 2, n), (4, 2, x.held)]
    let d5 := (d4.setPortState p 5).setRf (Reg.portStat p) 11 8 cause
    if up then d5.linksChanged else d5

/-- Faults of the window that are still in it (R484). -/
def Device.faultsNow (d : Device) (p : Nat) : List Nat :=
  (d.port p).faults.filter fun t => decide (d.clock < t + millis (d.rf (Reg.portCtl p) 63 56))

/-- One fault is counted, with what follows where the count stays below FAULT_LIMIT; the port is fenced at FAULT_LIMIT (R484). -/
def Device.countFault (d : Device) (p : Nat) (f : Device → Device) : Device :=
  let fs := d.clock :: d.faultsNow p
  let d1 := (d.onPort p fun x => { x with faults := fs }).setRf (Reg.portStat p) 23 16 (satBits 8 fs.length)
  if d.rf (Reg.portCtl p) 55 48 ≤ fs.length ∧ d.portState p ≠ 5 ∧ d.portState p ≠ 0 then d1.fence p 3 else f d1

/-- PEER_RETRY (R484, R506). -/
def Device.peerRetry (d : Device) (p cause seq : Nat) : Device := d.peerEmit p 0xA004 .corrected false [(0, 1, cause), (2, 2, seq)]

/-- One fault is counted: the port is fenced at FAULT_LIMIT, else PEER_RETRY is emitted (R484). -/
def Device.fault (d : Device) (p cause seq : Nat) : Device := d.countFault p fun d => d.peerRetry p cause seq

/-- What the PHY wrote and the link layer did not take is gone. -/
def Device.emptyRx (d : Device) (p : Nat) : Device :=
  if (d.chute (rxChute p)).words.isEmpty then d else d.putChute (rxChute p) { (d.chute (rxChute p)) with words := [] }

/-- A port leaves its link: buffers of the link layer go, and ledger entries not fully acknowledged are answered poisoned
(R480). Packets that are not requests keep waiting. -/
def Device.linkDown (d : Device) (p state : Nat) : Device :=
  let up := d.portUp p
  let x := d.port p
  let n := (d.openOn p).length
  let d1 := (d.emptyRx p).setPort p
    { Port.init with
      buffer := x.buffer, queue := x.queue.filter fun k => k.entry.isNone && decide (leAt k.bytes 0 1 % 16 ≠ 0xF)
      hold := x.hold, holdAt := x.holdAt, faults := x.faults }
  let d2 := (d1.poisonOpen p).peerEmit p 0xA003 .deferred false [(0, 1, 0), (2, 2, n)]
  let d3 := (d2.setPortState p state).setRf (Reg.portStat p) 7 4 0xF
  if up then d3.linksChanged else d3

/-- Loss of lock: one fault, and training again (R480, R484). -/
def Device.lossOfLock (d : Device) (p : Nat) : Device :=
  if d.portState p < 2 ∨ d.portState p = 5 then d else (d.linkDown p 1).fault p 4 0

/-- PORT_CTL.ENABLE (R480). Without a seat in a table every port stays disabled (R460). -/
def Device.enablePort (d : Device) (p : Nat) (on : Bool) : Device :=
  let d1 := d.setRf (Reg.portCtl p) 0 0 (ofBool on)
  if on then (if d.portState p = 0 ∧ d.seated = true then d1.setPortState p 1 else d1)
  else if d.portState p = 0 then d1
  else if 2 ≤ d.portState p ∧ d.portState p ≠ 5 then d1.linkDown p 0
  else (((d1.emptyRx p).setPort p { Port.init with hold := (d.port p).hold, holdAt := (d.port p).holdAt }).setPortState p 0).setRf
    (Reg.portStat p) 7 4 0xF

/-- PORT_CTL.UNFENCE: a fenced port trains again, and its partner is not known until it is identified (R480). -/
def Device.unfencePort (d : Device) (p : Nat) : Device :=
  if d.portState p = 5 then ((d.setRf (Reg.portCtl p) 1 1 0).setPortState p 1).setRf (Reg.portStat p) 7 4 0xF else d

/-! ## The identity exchange (R481 to R483) -/

/-- The inner header of an identity message to the partner's security engine. -/
def identityHdr (len : Nat) : Header := { messageHdr 0xFF len with dstUnit := 0x32 }

/-- An identity message leaves a port (R483). -/
def Device.sendIdentity (d : Device) (p : Nat) (bytes : List Byte) : Device :=
  d.queuePacket p 6 (seatWord 0xF d.seat 0 0 ++ headerBytes (identityHdr bytes.length) ++ bytes) none

/-- HELLO (R483). -/
def Device.helloBytes (d : Device) (p : Nat) : List Byte :=
  [0x01, BitVec.ofNat 8 d.seat, 0, 0,
    BitVec.ofNat 8 (d.seat + d.rf Reg.tableStat 5 4 <<< 4 + d.rf Reg.thermStat 3 2 <<< 6), 0x01, 0x03, BitVec.ofNat 8 p]
    ++ leBytes 4 ((d.host.image.map Image.version).getD 0) ++ slice Config.serial 0 12 ++ slice (Config.nonce d.fresh) 0 32
    ++ leBytes 2 d.rosterEpoch ++ leBytes 1 (d.rf Reg.tableStat 11 8) ++ List.replicate 5 0

/-- CERT fragment i of the chain (R483). -/
def certBytes (seat i : Nat) : List Byte :=
  let total := Config.certChain.length
  let body := (Config.certChain.drop (960 * i)).take 960
  [0x02, BitVec.ofNat 8 seat, 0, 0] ++ leBytes 2 i ++ leBytes 2 ((total + 959) / 960) ++ leBytes 2 body.length
    ++ leBytes 4 total ++ [0, 0] ++ body

/-- The port has lock on all lanes: linked, and the exchange begins at once (R474, R478, R480, R481). Firmware gives the
receive chute HOLD_MODE 0b00 (R77). -/
def Device.linked (d : Device) (p : Nat) : Device :=
  let x := d.port p
  let full := (List.range 8).map fun v => 4 * d.rf (Reg.vcCredit p) (8 * v + 7) (8 * v)
  let hello := d.helloBytes p
  let d1 := ((d.emptyRx p).setPort p
    { x with expect := 0, discarding := false, parts := none, granted := full, returns := List.replicate 8 0
             sent := 0, acked := 0xFFF, resend := [], back := none, retries := 0, unsent := [], credits := List.replicate 8 0
             linkedAt := d.clock, sentHello := hello, hello := none, cert := none, serial := none }).takeFresh
  let d2 := (d1.setPortState p 2).peerEmit p 0xA002 .notice false [(0, 1, 2), (1, 1, 0xF)]
  let d3 := ((d2.setRf (Reg.chuteCtl ⟨.peer p, 0⟩) 17 16 0).sendControl p 2 (full.flatMap fun n => leBytes 2 n)).setPortState p 3
  let d4 := d3.sendIdentity p hello
  (List.range ((Config.certChain.length + 959) / 960)).foldl (fun d i => d.sendIdentity p (certBytes d.seat i)) d4

/-- A failed check fences the port (R482). -/
def Device.identFail (d : Device) (p cause seat : Nat) : Device :=
  (d.peerEmit p 0xA006 .deferred false [(0, 1, cause), (1, 1, seat)]).fence p 4

/-- A received HELLO: a second one, or another protocol version, fails; else PROOF is sent (R481, R483). -/
def Device.takeHello (d : Device) (p : Nat) (msg : List Byte) : Device :=
  let x := d.port p
  let seat := leAt msg 4 1 % 16
  if d.portState p ≠ 3 then d
  else if x.hello.isSome then d.identFail p 0 seat
  else if leAt msg 5 1 ≠ 1 then d.identFail p 4 seat
  else
    let proof := Config.signature (sha512 (x.sentHello ++ slice msg 0 64))
    (d.setPort p { x with hello := some (slice msg 0 64) }).sendIdentity p
      ([0x03, BitVec.ofNat 8 d.seat, 0, 0] ++ slice proof 0 132)

/-- A received CERT fragment; one out of order, or whose COUNT or TOTAL differs from the first, fails (R483). -/
def Device.takeCert (d : Device) (p : Nat) (msg : List Byte) : Device :=
  let x := d.port p
  let seat := (x.hello.map fun h => leAt h 4 1 % 16).getD (leAt msg 1 1)
  let count := leAt msg 6 2
  let total := leAt msg 10 4
  let c := x.cert.getD ⟨0, count, total, []⟩
  if d.portState p ≠ 3 then d
  else if leAt msg 4 2 ≠ c.next ∨ c.count ≠ count ∨ c.total ≠ total then d.identFail p 0 seat
  else d.setPort p { x with cert := some ⟨c.next + 1, count, total, c.bytes ++ slice msg 16 (leAt msg 8 2)⟩ }

/-- Why a PROOF fails, its checks in the order of their causes; none: it passes (R482). -/
def Device.proofCause (d : Device) (p : Nat) (v : IdentityVerdict) : Option Nat :=
  let x := d.port p
  match x.hello with
  | none => some 1
  | some h =>
    let seat := leAt h 4 1 % 16
    let other := d.port (if p % 2 = 0 then p + 1 else p - 1)
    if !v.chainOk || (match x.cert with
        | none => true
        | some c => decide (c.next ≠ c.count) || decide (c.bytes.length ≠ c.total)) then some 0
    else if !v.signatureOk then some 1
    else if seat = d.seat then some 3
    else if seat ≠ d.portSeat p then some 2
    else match other.serial with
      | some s => if s = slice h 12 12 then none else some 5
      | none => none

/-- A seat with no roster that would lead proposes at once when all its partners are up (R498). -/
def Device.formIfAllUp (d : Device) : Device :=
  if d.rosterEpoch = 0 ∧ d.leaderNow = d.seat ∧ d.partners.length + 1 = d.seats ∧ d.peer.proposal.isNone = true then d.propose
  else d

/-- A received PROOF: the port is up, or fenced; one that comes after IDENT_TMO is late (R40, R480, R482). -/
def Device.takeProof (d : Device) (p : Nat) (v : IdentityVerdict) : Device :=
  let x := d.port p
  let h := x.hello.getD []
  let seat := leAt h 4 1 % 16
  if d.portState p ≠ 3 then d
  else if x.linkedAt + millis (d.rf Reg.tableCtl 55 48) < d.clock then d.identFail p 6 (if x.hello.isSome then seat else 0xF)
  else match d.proofCause p v with
  | some c => d.identFail p c (if x.hello.isSome then seat else 0xF)
  | none =>
    let d1 := d.setPort p { x with serial := some (slice h 12 12) }
    let d2 := ((d1.setPortState p 4).setRf (Reg.portStat p) 7 4 seat).peerEmit p 0xA002 .notice false [(0, 1, 4), (1, 1, seat)]
    let d3 := d2.onPeer fun u => { u with firstUp := some (u.firstUp.getD d.clock) }
    (d3.linksChanged.formIfAllUp).pump p

/-! ## Codewords (R464, R465) -/

/-- A codeword follows the last one in step: PAIR alternates and PCOUNT advances by one per pair. -/
def inStep (last : Option (Bool × Nat)) (pair : Bool) (count : Nat) : Bool :=
  match last with
  | none => true
  | some (q, c) => (q != pair) && decide (count = if pair then c else (c + 1) % 128)

/-- The flits of a codeword and the half of flit 2 left over: the first of a pair holds flits 0 and 1 and half of flit 2, the second the
rest (R464). A flit is marked where a byte of it stood in an uncorrectable codeword. -/
def Port.takeBytes (x : Port) (pair bad : Bool) (bs : List Byte) : List (List Byte × Bool) × Option (List Byte × Bool) :=
  if !pair then ([(slice bs 0 256, bad), (slice bs 256 256, bad)], some (slice bs 512 128, bad))
  else
    let h := x.half.getD (List.replicate 128 0, true)
    ([(h.1 ++ slice bs 0 128, bad || h.2), (slice bs 128 256, bad), (slice bs 384 256, bad)], none)

/-- The four wide words of a received flit in the receive chute (R47, R54). -/
def flitWords (f : List Byte × Bool) : List WideWord :=
  (List.range 4).map fun i =>
    let v := leAt f.1 (64 * i) 64
    ⟨BitVec.ofNat 512 v, 0xFFFF_FFFF_FFFF_FFFF, parityOf v, false, decide (i = 0), decide (i = 3), f.2, decide (i = 3)⟩

/-- The PHY writes flits into the receive chute, whose watermark output is PEER_HOLD_OUT (R47, R67). -/
def Device.receiveFlits (d : Device) (p : Nat) (fs : List (List Byte × Bool)) : Device :=
  let c := d.chute (rxChute p)
  d.putChute (rxChute p) { c with words := c.words ++ fs.flatMap flitWords }

/-- The flit at the head of the receive chute, and whether a byte of it stood in an uncorrectable codeword. -/
def Device.headFlit (d : Device) (p : Nat) : Option (List Byte × Bool) :=
  match (d.chute (rxChute p)).words with
  | a :: b :: c :: e :: _ => some (([a, b, c, e].flatMap fun w => leBytes 64 w.data.toNat), a.bad || b.bad || c.bad || e.bad)
  | _ => none

/-- Words of the flit at the head of the receive chute that fail parity, and whether one of its wide words is poisoned (R58). -/
def Device.headFails (d : Device) (p : Nat) : Nat × Bool :=
  ((d.chute (rxChute p)).words.take 4).foldl (fun (a : Nat × Bool) w =>
    let f := parityFails w.data.toNat w.par w.mask.toNat
    (a.1 + f.1, a.2 || f.2)) (0, false)

/-- The link layer takes the flit at the head of the receive chute: its parity is checked, and CHUTE_PARITY is emitted where a word of
it is poisoned (R58, R61). -/
def Device.dropFlit (d : Device) (p : Nat) : Device :=
  let ch := rxChute p
  let c := d.chute ch
  let v := (c.words.headD WideWord.blank).data.toNat
  let f := d.headFails p
  let d1 := d.putChute ch { c with words := c.words.drop 4 }
  if f.1 = 0 then d1
  else
    let d2 := d1.addRf (Reg.chuteStat ch) 31 16 f.1
    if f.2 then d2.emit (chuteSrc ch) 0x1001 .deferred true (detail [(0, 2, d.flitTag ch v), (2, 1, packetNet ch v), (4, 2, f.1)])
      (d.tagOrigin (d.flitTag ch v)) else d2

/-- A codeword arrives with a number of symbols in error: up to 15 are corrected (R464, R465). -/
def Device.codeword (d : Device) (p errors : Nat) (pair : Bool) (count : Nat) (bs : List Byte) : Device :=
  let x := d.port p
  let st := d.portState p
  let bad := decide (15 < errors)
  if st = 0 then d
  else
    let d1 := if bad then d.addRf (Reg.linkCnt p) 47 32 1 else if errors = 0 then d else d.addRf (Reg.fecCnt p) 47 0 1
    if st = 1 ∨ st = 5 then
      let good := if bad then 0 else if inStep x.tag pair (count % 128) then x.good + 1 else 1
      let d2 := d1.setPort p
        { x with good := good, tag := if bad then none else some (pair, count % 128), uncorr := 0, half := (x.takeBytes pair bad bs).2 }
      if st = 1 ∧ 8 ≤ good then d2.linked p else d2
    else
      let n := if bad then x.uncorr + 1 else 0
      let y := x.takeBytes pair bad bs
      let d2 := (d1.setPort p { x with half := y.2, uncorr := n, tag := if bad then x.tag else some (pair, count % 128) }).receiveFlits p y.1
      if 4 ≤ n then d2.lossOfLock p else d2

/-! ## Flits received (R466, R475 to R478) -/

/-- The kind of a received flit by its CRC and header: 0 fails its CRC, 1 malformed in itself, 2 data, 3 idle, 4 NAK,
5 CREDIT, 6 TIME, 7 FENCE (R466, R468, R477). A reserved CTYPE is malformed. -/
def flitKind (bs : List Byte) (bad : Bool) : Nat :=
  let h := leAt bs 0 8
  let ty := h % 4
  let len := bitsOf h 47 40
  if bad ∨ crc32 (slice bs 0 252) ≠ leAt bs 252 4 then 0
  else if ty = 3 ∨ bitAt h 7 = true ∨ bitsOf h 63 48 ≠ 0 then 1
  else if ty = 0 then (if len = 0 ∨ 244 < len ∨ (bitAt h 6 = false ∧ len ≠ 244) then 1 else 2)
  else if bitsOf h 6 2 ≠ 0 ∨ bitsOf h 19 8 ≠ 0 ∨ len ≠ 0 then 1
  else if ty = 2 then 3
  else match leAt bs 8 1 with
    | 1 => 4
    | 2 => 5
    | 3 => 6
    | 4 => 7
    | _ => 1

/-- ACK of a received flit: every flit up to that number is acknowledged; a number that is neither the last acknowledged nor
unacknowledged is a sequence violation (R474, R477). -/
def Device.takeAck (d : Device) (p a : Nat) : Device :=
  let x := d.port p
  if a = x.acked then d
  else match x.resend.findIdx? fun f => decide (f.seq = a) with
  | none => d.fault p 2 a
  | some i =>
    let done := (x.resend.take (i + 1)).filterMap TxFlit.entry
    (d.setPort p { x with resend := x.resend.drop (i + 1), acked := a, progress := d.clock, back := none, retries := 0 }).onPeer
      fun u => { u with ledger := u.ledger.map fun e => if done.contains e.1 then (e.1, { e.2 with acked := true }) else e }

/-- Credits of a VC arrive (R478). -/
def Device.takeCredit (d : Device) (p v n : Nat) : Device :=
  if n = 0 then d
  else d.onPort p fun x => { x with credits := bump x.credits v n, gotCredit := setAt x.gotCredit v d.clock }

/-- What every well-formed flit carries: ACK and a credit return (R466). -/
def Device.takeHeader (d : Device) (p h : Nat) : Device :=
  (d.takeAck p (bitsOf h 31 20)).takeCredit p (bitsOf h 34 32) (bitsOf h 39 35)

/-- A flit is discarded; the first discard after an accepted flit sends a NAK (R475). -/
def Device.discardFlit (d : Device) (p : Nat) : Device :=
  let x := d.port p
  if x.discarding then d
  else (d.setPort p { x with discarding := true }).sendControl p 1 (leBytes 2 x.expect)

/-- A data flit's place in the packet being received breaks R470, or takes credits not granted (R477). -/
def Port.misplaced (x : Port) (h : Nat) (body : List Byte) : Bool :=
  let vc := bitsOf h 4 2
  let sop := bitAt h 5
  let total := fun bs : List Byte => 24 + hdrLen (leAt bs 8 16)
  let bs := (match x.parts with
    | none => []
    | some k => k.bytes) ++ body
  (match x.parts with
   | none => !sop || decide (x.granted.getD vc 0 = 0)
   | some k => sop || decide (k.vc ≠ vc))
  || decide (bs.length < 24) || (if bitAt h 6 then decide (bs.length ≠ total bs) else decide (total bs ≤ bs.length))

/-- The bytes of a packet (R469) with POISON of the inner header set (R471). -/
def poisonInner (bs : List Byte) : List Byte := setAt bs 11 ((bs.getD 11 0) ||| 4)

/-- A data flit in sequence is accepted (R475, R478). The packet of one that carried a poisoned word is poisoned (R471). -/
def Device.acceptFlit (d : Device) (p h : Nat) (body : List Byte) (poison : Bool) : Device :=
  let x := d.port p
  let vc := bitsOf h 4 2
  let k0 : PeerPacket := match x.parts with
    | none => ⟨vc, body, none, d.clock⟩
    | some k => { k with bytes := k.bytes ++ body }
  let k := if poison then { k0 with bytes := poisonInner k0.bytes } else k0
  let x1 : Port :=
    { x with expect := (x.expect + 1) % 4096, discarding := false, granted := setAt x.granted vc (x.granted.getD vc 0 - 1) }
  let x2 := if bitAt h 6 then { x1 with parts := none, buffer := x.buffer ++ [k] } else { x1 with parts := some k }
  ((d.setPort p x2).addRf (Reg.dbgCnt 3) 47 0 1).respond p

/-- What a flit's ACK and credits bring about comes first; where that fences the port nothing else follows (R486). -/
def Device.afterHeader (d : Device) (p h : Nat) (f : Device → Device) : Device :=
  let d1 := d.takeHeader p h
  if d1.portState p = 5 then d1 else f d1

/-- DATA_FLIT: a data flit, or one that fails its CRC or is malformed, stood at the head (R475 to R478, R484); `poison`: a word of it
was poisoned. -/
def Device.dataFlit (d : Device) (p : Nat) (bs : List Byte) (kind : Nat) (poison : Bool) : Device :=
  let h := leAt bs 0 8
  if kind = 0 then
    ((d.addRf (Reg.linkCnt p) 31 16 1).discardFlit p).fault p 0 (d.port p).expect
  else
    let body := slice bs 8 (bitsOf h 47 40)
    if kind = 1 then (d.discardFlit p).fault p 1 (bitsOf h 19 8)
    else
      let seq := bitsOf h 19 8
      if (d.port p).misplaced h body && decide (seq = (d.port p).expect) then (d.discardFlit p).fault p 1 seq
      else d.afterHeader p h fun d1 =>
        let x := d1.port p
        if seq = x.expect then d1.acceptFlit p h body poison
        else if x.discarding then d1
        else (d1.discardFlit p).fault p 2 seq

/-- Retries of a number that a go-back to it makes (R476). -/
def Port.retriesAt (x : Port) (n : Nat) : Nat := if x.back = some n then x.retries + 1 else 0

/-- The transmitter goes back to a number and sends again from there; a go-back at the same number with ACK not advanced is
a retry, and RETRY_MAX of them fence the port (R476). -/
def Device.goBack (d : Device) (p n : Nat) : Device :=
  let x := d.port p
  let r := x.retriesAt n
  let d1 := (d.setPort p { x with back := some n, retries := r, progress := d.clock }).addRf (Reg.linkCnt p) 15 0 1
  if d.rf (Reg.portCtl p) 11 8 ≤ r then d1.fence p 2
  else (d1.onPort p fun x => { x with unsent := x.unsent.filter fun f => !(dataHdr f.1) }).sendAgain p
    (x.resend.dropWhile fun f => decide (f.seq ≠ n))

/-- NAK: the transmitter goes back; a number that is no unacknowledged flit and not the last acknowledged is a sequence
violation (R476, R477). -/
def Device.takeNak (d : Device) (p n : Nat) : Device :=
  let x := d.port p
  if x.resend.any fun f => decide (f.seq = n) then d.goBack p n
  else if n = x.acked then d
  else d.fault p 2 n

/-- The flit at the head of a port is taken when it is of one of the kinds given. -/
def Device.takeFlit (d : Device) (p : Nat) (kinds : List Nat) (f : Device → List Byte → Nat → Device) : Device :=
  match d.headFlit p with
  | none => d
  | some b =>
    let k := flitKind b.1 b.2
    if kinds.contains k ∧ d.portState p ≠ 5 then f (d.dropFlit p) b.1 k else d

/-! ## Commands -/

/-- A command of a peer port. -/
def onPort (s : State) (p : Nat) (f : Device → Device) : Host.Outcome State Fault Refusal :=
  devNext s fun d => if p < 16 then f d else d

/-- PEER_HOLD_IN_ASSERT (R67). -/
def execPeerHoldInAssert (port : Nat) (s : State) : Host.Outcome State Fault Refusal :=
  onPort s port fun d => d.onPort port fun x => { x with hold := true, holdAt := if x.hold then x.holdAt else d.clock }

/-- PEER_HOLD_IN_RELEASE (R67): flits and packets that waited may start. -/
def execPeerHoldInRelease (port : Nat) (s : State) : Host.Outcome State Fault Refusal :=
  onPort s port fun d => ((d.onPort port fun x => { x with hold := false }).sendUnsent port).pump port

/-- PORT_ENABLE. -/
def execPortEnable (port : Nat) (enable : Bool) (s : State) : Host.Outcome State Fault Refusal :=
  onPort s port fun d => d.enablePort port enable

/-- PORT_FENCE: PORT_CTL.FENCE is written. -/
def execPortFence (port : Nat) (s : State) : Host.Outcome State Fault Refusal :=
  onPort s port fun d => (d.setRf (Reg.portCtl port) 1 1 1).fence port 1

/-- UNFENCE. -/
def execUnfence (port : Nat) (s : State) : Host.Outcome State Fault Refusal := onPort s port fun d => d.unfencePort port

/-- CODEWORD. -/
def execCodeword (port : Nat) (symbolErrors : Nat) (pair : Bool) (pcount : Nat) (bytes : List Byte) (s : State) :
    Host.Outcome State Fault Refusal := onPort s port fun d => d.codeword port symbolErrors pair pcount bytes

/-- DATA_FLIT. -/
def execDataFlit (port : Nat) (s : State) : Host.Outcome State Fault Refusal :=
  onPort s port fun d => d.takeFlit port [0, 1, 2] fun d1 bs k => d1.dataFlit port bs k (d.headFails port).2

/-- IDLE_FLIT. -/
def execIdleFlit (port : Nat) (s : State) : Host.Outcome State Fault Refusal :=
  onPort s port fun d => d.takeFlit port [3] fun d bs _ => d.afterHeader port (leAt bs 0 8) fun d => d.pump port

/-- NAK. -/
def execNak (port : Nat) (s : State) : Host.Outcome State Fault Refusal :=
  onPort s port fun d => d.takeFlit port [4] fun d bs _ => d.afterHeader port (leAt bs 0 8) fun d => d.takeNak port (leAt bs 9 2)

/-- CREDIT. -/
def execCredit (port : Nat) (s : State) : Host.Outcome State Fault Refusal :=
  onPort s port fun d => d.takeFlit port [5] fun d bs _ =>
    d.afterHeader port (leAt bs 0 8) fun d =>
      ((List.range 8).foldl (fun d v => d.takeCredit port v (leAt bs (9 + 2 * v) 2)) d).pump port

/-- FENCE_FLIT: treated as loss of lock (R486). -/
def execFenceFlit (port : Nat) (s : State) : Host.Outcome State Fault Refusal :=
  onPort s port fun d => d.takeFlit port [7] fun d _ _ => d.lossOfLock port

/-- The flit at the head of the receive chute acknowledges a flit that waits for its acknowledgement. -/
def Device.ackArrived (d : Device) (p : Nat) : Bool :=
  match d.headFlit p with
  | none => false
  | some b => decide (2 ≤ flitKind b.1 b.2) && (d.port p).resend.any fun f => decide (f.seq = bitsOf (leAt b.1 0 8) 31 20)

/-- RESEND_TIMEOUT (R476, R484): the fault emits PEER_RETRY unless it fences the port, at FAULT_LIMIT or by its go-back; an
acknowledgement that stands at the head of the receive chute has arrived (R40). -/
def execResendTimeout (port : Nat) (s : State) : Host.Outcome State Fault Refusal :=
  onPort s port fun d =>
    let x := d.port port
    match x.resend with
    | [] => d
    | f :: _ =>
      if d.clock < x.progress + micros (d.rf (Reg.portCtl port) 31 16) ∨ d.portState port = 5 ∨ d.ackArrived port = true then d
      else d.countFault port fun d =>
        (if d.rf (Reg.portCtl port) 11 8 ≤ x.retriesAt f.seq then d else d.peerRetry port 3 f.seq).goBack port f.seq

/-- The flit at the head of the receive chute returns credits of a VC: they have arrived (R40, R466, R468). -/
def Device.creditArrived (d : Device) (p v : Nat) : Bool :=
  match d.headFlit p with
  | none => false
  | some b =>
    let k := flitKind b.1 b.2
    let h := leAt b.1 0 8
    decide (2 ≤ k) && (decide (bitsOf h 34 32 = v ∧ 0 < bitsOf h 39 35) || decide (k = 5 ∧ 0 < leAt b.1 (9 + 2 * v) 2))

/-- STARVE_TIMEOUT: a VC with a packet waiting got no credits for STARVE_TMO, or PEER_HOLD_IN stayed asserted for STARVE_TMO while a
packet waited or a data flit of one that has started (R479). -/
def execStarveTimeout (port : Nat) (s : State) : Host.Outcome State Fault Refusal :=
  onPort s port fun d =>
    let x := d.port port
    let tmo := micros (d.rf (Reg.portCtl port) 47 32)
    let starved := x.queue.any fun k =>
      (decide (x.credits.getD k.vc 0 = 0) && decide (Nat.max k.since (x.gotCredit.getD k.vc 0) + tmo ≤ d.clock)
          && !(d.creditArrived port k.vc)) ||
        (x.hold && decide (Nat.max k.since x.holdAt + tmo ≤ d.clock))
    let stuck := x.hold && (x.unsent.any fun f => dataHdr f.1) && decide (x.holdAt + tmo ≤ d.clock)
    if (starved || stuck) && decide (2 ≤ d.portState port) then d.fence port 5 else d

/-- HELLO. -/
def execHello (port : Nat) (msg : List Byte) (s : State) : Host.Outcome State Fault Refusal :=
  onPort s port fun d => d.takeHello port msg

/-- CERT. -/
def execCert (port : Nat) (msg : List Byte) (s : State) : Host.Outcome State Fault Refusal :=
  onPort s port fun d => d.takeCert port msg

/-- PROOF. -/
def execProof (port : Nat) (_msg : List Byte) (verdict : IdentityVerdict) (s : State) : Host.Outcome State Fault Refusal :=
  onPort s port fun d => d.takeProof port verdict

/-- A PROOF stands in the receive buffer of a port: it has arrived (R40, R483). -/
def Port.proofArrived (x : Port) : Bool :=
  x.buffer.any fun k => decide (k.vc = 6 ∧ leAt k.bytes 0 1 % 16 = 0xF ∧ leAt (packetParts k.bytes).2.2 0 1 = 3)

/-- IDENT_TIMEOUT (R482). -/
def execIdentTimeout (port : Nat) (s : State) : Host.Outcome State Fault Refusal :=
  onPort s port fun d =>
    let x := d.port port
    if d.portState port = 3 ∧ x.linkedAt + millis (d.rf Reg.tableCtl 55 48) ≤ d.clock ∧ x.proofArrived = false then
      d.identFail port 6 ((x.hello.map fun h => leAt h 4 1 % 16).getD 0xF)
    else d

/-- LINK_CNT_READ: PEER.LINK_CNT, or FEC_CNT, is answered and cleared (R506). -/
def execLinkCntRead (port : Nat) (fec : Bool) (s : State) : Host.Outcome State Fault Refusal :=
  onPort s port fun d =>
    let o := if fec then Reg.fecCnt port else Reg.linkCnt port
    (d.send (.reg o (d.reg o))).clearRc o

end Sys2Proof.Machine
end

