-- ==== Sys2Proof/Machine/BlockReset.lean ====
section
/-!
DEFINITION. Block resets and their isolation wrapper (R557 to R562), control cores at release (R575), watchdogs of cluster
control cores (R554), and cores that fail or are swapped (R251, R537 to R540, R635).
-/
namespace Sys2Proof.Machine

/-- The reset controller as a record's source (R577). -/
def srcReset : EvSrc := srcHub 0x34 0

/-- The module with the reset unit changed by a function. -/
def Device.onRst (d : Device) (f : ResetUnit → ResetUnit) : Device := { d with rst := f d.rst }

/-- The module with survival changed by a function. -/
def Device.onSurv (d : Device) (f : Surv → Surv) : Device := { d with surv := f d.surv }

/-! ## Control cores at release (R572, R575) -/

/-- Device address of a bank's start (R572). -/
def bankStart (bank : Nat) : Nat := hubStoreAddr (if bank = 0 then 0 else 0x1F0_0000)

/-- A control core at release (R575). -/
def releasedCore (pc bank cause : W64) (clock : Nat) : Core :=
  { Core.init .running with
    pc := pc
    s := [(1, ⟨bank, false⟩), (2, ⟨BitVec.ofNat 64 (cause.toNat % 65536), false⟩)]
    wdogAt := some (clock + micros (Csr.init.wdog.toNat % 2 ^ 32)) }

/-- The place of a control core in the order in which a live load switches them: the clusters, then stewards 3 to 0 (R456). -/
def switchIndex (c : CoreId) : Nat := if c.die = 8 then 131 - c.core else 16 * c.die + c.cluster

/-- The image that a control core runs: the new one once it has switched (R456). -/
def Device.imageFor (d : Device) (c : CoreId) : Option Image :=
  if d.rf Reg.fwStat 2 0 = 2 ∧ switchIndex c < d.rf Reg.fwStat 15 8 then d.host.next else d.host.image

/-- A control core starts at its entry of the image it runs; with none it waits (R560, R575). -/
def Device.releaseControl (d : Device) (c : CoreId) : Device :=
  match d.imageFor c with
  | none => d.setCore c (Core.init .held)
  | some m =>
    let b := bankStart m.bank
    d.setCore c (releasedCore (BitVec.ofNat 64 (b + (if c.die = 8 then m.entryHub else m.entryClu))) (BitVec.ofNat 64 b)
      (d.reg Reg.rstCause) d.clock)

/-! ## Registers and chutes of a block -/

/-- The registers of a block take their Reset values; CLU.CORES_STAT reports the hardware, and the registers of the table
stand beside port 0 (R560). -/
def Device.resetBlock (d : Device) (b : Block) : Device :=
  { d with regs := d.regs.filter fun r => match blockAt r.1 with
      | none => true
      | some (b', off) => decide (b' ≠ b) || (match b with
          | .cluster _ _ => decide (off = 0x78)
          | .peer _ => decide (0x1000 ≤ off)
          | _ => false) }

/-- Chutes of a block that hold something are empty. -/
def Device.emptyChutes (d : Device) (b : Block) (is : List Nat) : Device :=
  is.foldl (fun d i => if (tfind d.chutes (chuteKey ⟨b, i⟩)).isSome then d.setChute ⟨b, i⟩ Chute.empty else d) d

/-- The register block of a core. -/
def coreBlock (c : CoreId) : Block := if c.die = 8 then .steward c.core else .core c.die c.cluster c.core

/-- The chutes across the boundary of a block are flushed (R77, R558): those it reads and those it writes. Answers how many transfers
the wrapper completed poisoned. -/
def Device.flushBlock (d : Device) (b : Block) (reads writes : List ChuteId) : Device × Nat :=
  let step := fun (rd : Bool) (a : Device × Nat) (ch : ChuteId) =>
    let r := a.1.flushBoundary b ch rd
    (r.1, a.2 + r.2)
  writes.foldl (step false) (reads.foldl (step true) (d, 0))

/-- The chutes across the boundary of a core's block are flushed (R77, R558). -/
def Device.flushCore (d : Device) (c : CoreId) : Device × Nat :=
  let b := coreBlock c
  d.flushBlock b ((List.range 4).map fun i => ⟨b, 65 + i⟩) ((List.range 4).map fun i => ⟨b, 69 + i⟩)

/-! ## Chains and orbits at the wrapper (R559) -/

/-- An item that carries nothing but POISON and LAST. -/
def wrapperItem : Item := ⟨0, [⟨{ messageHdr 0 0 with poison := true, vnet := 2 }, []⟩]⟩

/-- The wrapper completes what a chain stream of a core in block reset owes: one poisoned grant to a writer, or a poisoned item
to a reader for each grant held. Answers how many transfers it completed. -/
def Device.wrapChain (d : Device) (c : CoreId) (st : Stream) : Device × Nat :=
  let p := partnerOf st.desc.toNat
  if sdEnd st.desc.toNat ≠ 1 then (d, 0)
  else if sdDir st.desc.toNat = 0 then
    match (d.tensor p).chainTo 1 c with
    | some (h, y) => (d.setStream p h { y with loose := true }, 1)
    | none => (d, 0)
  else
    match (d.tensor p).chainTo 0 c with
    | some (h, y) => (d.setStream p h { y with arriving := y.arriving ++ List.replicate st.grants wrapperItem }, st.grants)
    | none => (d, 0)

/-- A core's engines stop; the streams armed stay behind the wrapper. -/
def Device.wrapCore (d : Device) (c : CoreId) : Device × Nat :=
  let t := d.tensor c
  let r := t.streams.foldl (fun (a : Device × Nat) q =>
    let w := a.1.wrapChain c q.2
    (w.1, a.2 + w.2)) (d, 0)
  (r.1.setTensor c { Tensor.init with wrapped := t.streams }, r.2)

/-- A core's island stops (R621). -/
def Device.noteStop (d : Device) (c : CoreId) : Device :=
  if (d.core c).stopped then d
  else if isControl c then d.ownIslandStop c
  else d.islandNote (cluOfCore c) true c.core

/-- A core's island restarts, where it runs now (R621). -/
def Device.noteStart (d : Device) (c : CoreId) : Device :=
  if (d.core c).stopped then d
  else if isControl c then d.ownIslandStart c
  else d.islandNote (cluOfCore c) false c.core

/-- A core enters block reset: boundary, clocks, chutes, outstanding transfers (R558, R559). With its whole cluster, the chutes between
it and its router lie inside the block and keep their words until its release (R27). -/
def Device.coreEnter (d : Device) (c : CoreId) (inside : Bool) : Device × Nat :=
  let f := if inside then (d.noteStop c, 0) else (d.noteStop c).flushCore c
  let r := f.1.wrapCore c
  let d1 := r.1.setCore c { Core.init .blockReset with parked := false }
  (match (d.core c).launch with
   | some (g, _, _) => d1.flrEnd g
   | none => d1, f.2 + r.2)

/-- The entry that a core works for. -/
def Device.entryOf (d : Device) (c : CoreId) : Option Entry :=
  match (d.core c).launch with
  | none => none
  | some (f, q, n) => d.entry f q n

/-- A launch ends on a core that enters block reset, with LAUNCH_RESET (R561, R577). -/
def Device.launchReset (d : Device) (c : CoreId) : Device :=
  if (d.core c).launch.isNone then d
  else (d.emit (srcCore c 0x34) 0xC003 .deferred false
    (detail [(0, 2, (d.core c).csr.optag.toNat), (2, 1, c.core)]) (d.originOf c)).endCore c (.exception 0xC003)

/-! ## Entry and release (R557 to R560) -/

/-- BLOCK_RESET: deferred and poisoned where the wrapper completed a transfer poisoned (R577). -/
def Device.blockEvent (d : Device) (kind die cluster unit n : Nat) : Device :=
  d.emit srcReset 0xC002 (if n = 0 then .notice else .deferred) (decide (0 < n))
    (detail [(0, 1, kind), (1, 1, die), (2, 1, cluster), (3, 1, unit), (4, 2, n)])

/-- The chutes across a cluster's boundary are flushed: the router inputs that the neighbours feed and those of the neighbours that it
feeds, and the die-link and memory-group chutes at its local port (R49, R354, R558). -/
def Device.flushCluster (d : Device) (cl : ClusterId) : Device × Nat :=
  let c := cl.cluster
  let nets := List.range 4
  let links := (List.range 3).filter fun l => decide (linkCluster l = c)
  let groups := (List.range 12).filter fun g => decide (groupCluster g = c)
  d.flushBlock (.cluster cl.die c)
    ((meshPorts c).flatMap (fun port => nets.map fun net => routerIn cl port net)
      ++ links.flatMap (fun l => nets.map fun net => ⟨.die cl.die, 8 * l + net⟩)
      ++ groups.flatMap (fun g => nets.map fun i => ⟨.memGroup cl.die g, 4 + i⟩))
    ((meshPorts c).flatMap (fun port => let nb := neighbour c port
        nets.map fun net => routerIn ⟨cl.die, nb.1⟩ nb.2 net)
      ++ links.flatMap (fun l => nets.map fun net => ⟨.die cl.die, 8 * l + 4 + net⟩)
      ++ groups.flatMap (fun g => nets.map fun i => ⟨.memGroup cl.die g, i⟩))

/-- A peer port enters block reset: steps 2 to 4 of R486, and disabled (R559). -/
def Device.portEnter (d : Device) (p : Nat) : Device × Nat :=
  let x := d.port p
  let up := d.portUp p
  let n := (d.openOn p).length
  let d1 := ((d.flushChute (rxChute p) 1 true false).setRf (Reg.chuteCtl (rxChute p)) 17 16 1).flushChute (txChute p) 1 false true
  let d2 := ((d1.setPort p { Port.init with hold := x.hold, holdAt := x.holdAt }).poisonOpen p).setPortState p 0
  (if up then d2.linksChanged else d2, n)

/-- A block named by KIND, DIE, CLUSTER and UNIT. -/
structure BlockName where
  kind : Nat
  die : Nat
  cluster : Nat
  unit : Nat
  deriving DecidableEq, Repr

/-- The core that a block name of kind 0 or 1 means. -/
def BlockName.coreId (b : BlockName) : CoreId :=
  if b.kind = 0 then ⟨b.die, b.cluster, b.unit⟩ else if b.die = 8 then steward b.unit else ctrlOf ⟨b.die, b.cluster⟩

/-- The block exists (R557). -/
def BlockName.exists (b : BlockName) : Bool :=
  match b.kind with
  | 0 => decide (b.die < 8) && decide (b.unit < 0x22)
  | 1 => decide (b.die < 8) || (decide (b.die = 8) && decide (b.unit < 4))
  | 2 => decide (b.die < 8)
  | _ => decide (b.unit < 16)

/-- The block is within the writer's reach (R557). -/
def BlockName.within (b : BlockName) (w : CoreId) : Bool :=
  if w.die = 8 then decide (b.kind ≠ 1) || decide (b.coreId ≠ w)
  else decide (b.kind = 0) && decide (b.die = w.die) && decide (b.cluster = w.cluster)

/-- The block is in block reset, by itself or with its cluster. -/
def Device.blockHeld (d : Device) (b : BlockName) : Bool :=
  match b.kind with
  | 2 => d.rst.clusters.contains (16 * b.die + b.cluster)
  | 3 => d.rst.ports.contains b.unit
  | _ => decide ((d.core b.coreId).run = .blockReset) ||
      (decide (b.die < 8) && d.rst.clusters.contains (16 * b.die + b.cluster))

/-- A block enters block reset (R558). -/
def Device.blockEnter (d : Device) (b : BlockName) : Device :=
  match b.kind with
  | 2 =>
    let cl : ClusterId := ⟨b.die, b.cluster⟩
    let r := (List.range 0x23).foldl (fun (a : Device × Nat) k =>
      let x := (a.1.launchReset (coreIn cl k)).coreEnter (coreIn cl k) true
      (x.1, a.2 + x.2)) ((d.islandNote cl true 0x40).islandNote cl true 0x41, 0)
    let f := r.1.flushCluster cl
    let d1 := (f.1.setRouter cl Router.empty).setUnits cl CluUnits.init
    (d1.onRst fun x => { x with clusters := sinsert x.clusters (16 * b.die + b.cluster) }).blockEvent 2 b.die b.cluster 0 (r.2 + f.2)
  | 3 =>
    let r := d.portEnter b.unit
    (r.1.onRst fun x => { x with ports := sinsert x.ports b.unit }).blockEvent 3 0 0 b.unit r.2
  | k =>
    let r := (d.launchReset b.coreId).coreEnter b.coreId false
    r.1.blockEvent k b.die (if b.die = 8 then 0 else b.cluster) (if k = 0 ∨ b.die = 8 then b.unit else 0x22) r.2

/-- A core leaves block reset: in service idle, a core out of service powered down or left, a control core at its entry; its chutes from
the stream unit to the Lattice and back are empty (R560). -/
def Device.coreRelease (d : Device) (c : CoreId) : Device :=
  let d1 := ((d.setTensor c Tensor.init).resetBlock (coreBlock c)).emptyChutes (coreBlock c) (List.range 65)
  if isControl c then d1.releaseControl c
  else
    let x := d.cluster (cluOfCore c)
    if x.positions.contains c.core then d1.setCore c (Core.init .idle)
    else if x.failed.contains c.core then d1
    else d1.setCore c (Core.init .off)

/-- A block leaves block reset (R560). -/
def Device.blockLeave (d : Device) (b : BlockName) : Device :=
  match b.kind with
  | 2 =>
    let cl : ClusterId := ⟨b.die, b.cluster⟩
    let d1 := (d.resetBlock (.cluster b.die b.cluster)).onRst fun x =>
      { x with clusters := sremove x.clusters (16 * b.die + b.cluster) }
    let inside := (List.range 0x23).foldl (fun (d : Device) k => d.emptyChutes (coreBlock (coreIn cl k)) ((List.range 8).map (65 + ·)))
      (d1.emptyChutes (.cluster b.die b.cluster) ([0, 1, 2, 3] ++ (List.range 8).map (20 + ·)))
    let d2 := (List.range 0x23).foldl (fun (d : Device) k => d.coreRelease (coreIn cl k)) inside
    (List.range 0x22).foldl (fun (d : Device) k => d.noteStart (coreIn cl k))
      (((d2.noteStart (ctrlOf cl)).islandNote cl false 0x40).islandNote cl false 0x41)
  | 3 =>
    let d1 := (d.resetBlock (.peer b.unit)).onRst fun x => { x with ports := sremove x.ports b.unit }
    if d1.rbit (Reg.portCtl b.unit) 0 then d1.enablePort b.unit true else d1
  | _ => (d.coreRelease b.coreId).noteStart b.coreId

/-- A reserve core that is not in service. -/
def Device.reserveIdle (d : Device) (b : BlockName) : Bool :=
  decide (b.kind = 0) && !((d.cluster ⟨b.die, b.cluster⟩).positions.contains b.unit)
    && !((d.cluster ⟨b.die, b.cluster⟩).failed.contains b.unit)

/-- Why RST.BLOCK_CMD refuses (R557). -/
def Device.blockRefused (d : Device) (w : CoreId) (b : BlockName) (assert release : Bool) : Bool :=
  !b.exists || !(b.within w) || d.reserveIdle b || (assert == release)
    || (assert && d.blockHeld b)
    || (release && (!(d.blockHeld b) || (decide (b.kind = 0) && (d.cluster ⟨b.die, b.cluster⟩).failed.contains b.unit)
        || (decide (b.kind < 2) && decide (b.die < 8) && d.rst.clusters.contains (16 * b.die + b.cluster))))

/-- A write of RST.BLOCK_CMD by a control core: refused with FAIL, or carried out with csr.ipend.BRESET (R557). -/
def Device.blockCommand (d : Device) (w : CoreId) (v : Nat) : Device :=
  let b : BlockName := ⟨bitsOf v 1 0, bitsOf v 5 2, bitsOf v 9 6, bitsOf v 15 10⟩
  if !(isControl w) || !(corePresent w) then d
  else if d.blockRefused w b (bitAt v 16) (bitAt v 17) then d.setRf Reg.blockCmd 62 62 1
  else
    let d1 := d.setRf Reg.blockCmd 62 62 0
    ((if bitAt v 16 then d1.blockEnter b else d1.blockLeave b)).onCore w fun k => k.notify 5

/-- A cluster control core's watchdog has expired (R554): it enters block reset and leaves it. -/
def Device.clusterWatchdog (d : Device) (cl : ClusterId) : Device :=
  let c := ctrlOf cl
  let b : BlockName := ⟨1, cl.die, cl.cluster, 0⟩
  match (d.core c).wdogAt with
  | none => d
  | some t =>
    if d.clock < t ∨ d.blockHeld b = true ∨ (d.core c).run = .held then d
    else
      let pc := (d.core c).pc.toNat
      ((d.blockEnter b).blockLeave b).emit (srcCore c 0x00) 0xC004 .deferred false (detail [(0, 8, pc)])

/-! ## The wrapper's answers (R559) -/

/-- A chain writer behind the wrapper received a grant: its reader gets a poisoned item. -/
def Device.wrapGrant (d : Device) (c : CoreId) (h : Nat) : Device :=
  match tfind (d.tensor c).wrapped h with
  | none => d
  | some st =>
    if sdEnd st.desc.toNat = 1 ∧ sdDir st.desc.toNat = 1 then (d.wrapChain c { st with grants := 1 }).1 else d

/-- An orbit member behind the wrapper owes its successor the copy of a step: a header-only copy, poisoned, once the successor
has sent ready for the step before. -/
def Device.wrapCopy (d : Device) (c : CoreId) (h step : Nat) : Device :=
  match tfind (d.tensor c).wrapped h with
  | none => d
  | some st => match st.orbit with
    | none => d
    | some o =>
      let p := o.member c (o.pos + 1)
      match (d.tensor p).orbitHandle h with
      | none => d
      | some (h', y) => match y.orbit with
        | none => d
        | some q =>
          if (tfind q.arrived step).isSome ∨ (2 ≤ step ∧ q.readySent + 1 < step) then d
          else d.setStream p h' { y with orbit := some { q with arrived := tput q.arrived step false } }

/-- A transfer at the boundary of a block in block reset. -/
def Device.wrapAnswer (d : Device) (b : Block) (t : WrapTransfer) : Device :=
  if !(d.wrapped b) then d
  else match t with
  | .request h => d.wrapResponse b h
  | .registerRead => d.send (.wrapper b (List.replicate 8 0) false)
  | .registerWrite => d.send (.wrapper b [] false)
  | .response => d
  | .item _ => d
  | .grant h => match b with
    | .core x c k => d.wrapGrant ⟨x, c, k⟩ h
    | _ => d
  | .copy h step => match b with
    | .core x c k => d.wrapCopy ⟨x, c, k⟩ h step
    | _ => d

/-! ## Cores that fail (R251, R537 to R540, R635) -/

/-- CLU.CORES_STAT follows the cluster. -/
def Device.showCores (d : Device) (cl : ClusterId) : Device :=
  let x := d.cluster cl
  let left := ([0x20, 0x21].filter fun k => !(x.positions.contains k) && !(x.failed.contains k)).length
  d.setRegN (Reg.coresStat cl) (x.positions.length + left <<< 6 + (x.failed.foldl (fun a k => a + 1 <<< k) 0) <<< 8)

/-- Core k of a cluster leaves service; reserve core r takes its position, or every higher position moves down (R251, R635). -/
def Cluster.replaceCore (x : Cluster) (k : Nat) (r : Option Nat) : Cluster :=
  match r with
  | some r =>
    { x with positions := x.positions.map fun j => if j = k then r else j
             failed := sinsert x.failed k
             swapped := tput (x.swapped.map fun p => (p.1, if p.2 = k then r else p.2)) k r }
  | none => { x with positions := x.positions.filter fun j => j != k, failed := sinsert x.failed k }

/-- Every part of the launch that a failed core's streams tie together is to be relaunched (R538, R539). -/
def Device.planRelaunch (d : Device) (c : CoreId) (target : Option CoreId) (e : Entry) : Device :=
  let tied := (d.tensor c).streams.any fun q => decide (sdEnd q.2.desc.toNat ≠ 0)
  let entry := fun (x : CoreId) (t : Option CoreId) => ({ failed := coreKey x, target := t.map coreKey, fn := e.fn
                                                          queue := e.queue, slot := e.slot, index := e.cores.idxOf x
                                                          passStat := d.reg (Reg.passStat x) } : Relaunch)
  let others := if tied then e.cores.filter fun x => decide (x ≠ c) else []
  let d1 := others.foldl (fun (d : Device) x => if d.worksFor x e then d.cutCore x else d) d
  d1.onSurv fun s => { s with relaunch := s.relaunch ++ entry c target :: others.map fun x => entry x (some x) }

/-- A compute core is retired: its launch is to be relaunched, or ends with CORE_RETIRED; the core enters block reset
(R251, R538, R539). -/
def Device.retireCore (d : Device) (cl : ClusterId) (k : Nat) (r : Option Nat) : Device :=
  let c := coreIn cl k
  let d1 := match d.entryOf c with
    | none => d
    | some e =>
      if d.rbit Reg.resumeCtl 0 then d.planRelaunch c (r.map (coreIn cl)) e else d.endCore c (.exception 0xB004)
  let d2 := (d1.coreEnter c false).1
  let d3 := (d2.setCluster cl ((d2.cluster cl).replaceCore k r)).showCores cl
  match r with
  | some r => (d3.setCore (coreIn cl r) (Core.init .idle)).islandNote cl false r
  | none => d3

/-- CORE_RETIRED, of the core that issues it (R537, R543). Cause 0 probe, 1 parity, 2 firmware. -/
def Device.coreRetired (d : Device) (src : EvSrc) (k r cause tag : Nat) (o : Option (Nat × Nat)) : Device :=
  d.emit src 0xB004 .deferred false (detail [(0, 1, k), (1, 1, r), (2, 1, cause), (4, 2, tag)]) o

/-- CSWAP takes place, or nothing changes (R251). A core that firmware retires so is declared failed with cause 2 (R537). -/
def Device.cswap (d : Device) (w : CoreId) (a b : Nat) : Option Device :=
  let cl : ClusterId := ⟨bitsOf a 15 12, bitsOf a 11 8⟩
  let k := a % 256
  let r := b % 256
  let x := d.cluster cl
  if a / 65536 ≠ 0 ∨ b / 256 ≠ 0 ∨ 0x21 < k ∨ 0x21 < r ∨ 8 ≤ cl.die ∨ (w.die ≠ 8 ∧ cl ≠ cluOfCore w)
      ∨ x.positions.contains k = false ∨ x.positions.contains r = true ∨ x.failed.contains r = true then none
  else
    let c := coreIn cl k
    some ((d.retireCore cl k (some r)).coreRetired (srcCore w 0x00) k r 2 (d.core c).csr.optag.toNat (d.originOf c))

/-- A cluster control core declares a compute core failed (R537, R540). Cause 0 probe, 1 parity, 2 firmware. -/
def Device.failCore (d : Device) (c : CoreId) (cause : Nat) : Device :=
  let cl := cluOfCore c
  let x := d.cluster cl
  if !(isCompute c) || !(corePresent c) || !(x.positions.contains c.core) then d
  else
    let r := [0x20, 0x21].find? fun k => !(x.positions.contains k) && !(x.failed.contains k)
    let tag := (d.core c).csr.optag.toNat
    let o := d.originOf c
    let src := srcCore (ctrlOf cl) 0x00
    let d1 := (d.retireCore cl c.core r).coreRetired src c.core (r.getD 0xFF) cause tag o
    match r with
    | some _ => d1
    | none => d1.emit src 0xB005 .deferred false (detail [(0, 1, (d1.cluster cl).positions.length)]) o

/-- A part of a launch starts again on a core: the state of R259 with the operands of the original launch, and PASS_STAT
copied (R538). -/
def Device.relaunchOn (d : Device) (r : Relaunch) (e : Entry) (t : CoreId) : Device :=
  let d1 := (d.setCore t (launchCore (d.core t) e (d.curEpoch (cluOfCore t)) r.index e.cores.length)).setTensor t Tensor.init
  let d2 := (d1.setReg (Reg.passStat t) r.passStat).setEntry
    { e with cores := if r.target.isSome then e.cores.set r.index t else e.cores }
  d2.onSurv fun s => { s with relaunch := s.relaunch.filter fun q => decide (q ≠ r) }

/-- The core a part starts on: the one named, or the lowest-numbered core of its launch that has not failed (R538, R540). -/
def Device.relaunchTarget (d : Device) (r : Relaunch) (e : Entry) : Option CoreId :=
  match r.target with
  | some k => some (coreOf k)
  | none => ((e.cores.filter fun x => decide (coreKey x ≠ r.failed) && !((d.cluster (cluOfCore x)).failed.contains x.core)).foldl (fun (a : Option Nat) x =>
      some (Nat.min (a.getD (coreKey x)) (coreKey x))) none).map coreOf

/-- An update operation of a core has not ended. -/
def Device.updPending (d : Device) (key : Nat) : Bool := (d.unitsOf (cluOfCore (coreOf key))).updates.any fun u => decide (u.1 = key)

/-- The logical core of a failed core is relaunched once every tensor operation of it has ended and the core it starts on is free (R538 to
R540). -/
def Device.relaunchCore (d : Device) (c : CoreId) : Device :=
  match d.surv.relaunch.find? fun r => decide (r.failed = coreKey c) with
  | none => d
  | some r => match d.entry r.fn r.queue r.slot with
    | none => d.onSurv fun s => { s with relaunch := s.relaunch.filter fun q => decide (q ≠ r) }
    | some e => match d.relaunchTarget r e with
      | none => d
      | some t => if (d.core t).run = .idle ∧ (d.core t).parked = false ∧ d.updPending r.failed = false then d.relaunchOn r e t else d

/-! ## Commands -/

/-- CSWAP. -/
def execCswap (c : CoreId) (w : Ins) (s : State) : Host.Outcome State Fault Refusal :=
  memNext s fun s => s.runIns c 0xE1 w fun s =>
    let k := s.dev.core c
    needClean k [w.a.toNat, w.b.toNat]
      (match s.dev.cswap c (k.getS w.a.toNat).val.toNat (k.getS w.b.toNat).val.toNat with
       | some d => .done (({ s with dev := d } : State).putP c w.d.toNat ⟨true, false⟩)
       | none => .done (s.putP c w.d.toNat ⟨false, false⟩))

/-- BLOCK_RESET_ASSERT: RST.BLOCK_CMD is written with ASSERT. -/
def execBlockResetAssert (w : CoreId) (v : W64) (s : State) : Host.Outcome State Fault Refusal :=
  devNext s fun d => if bitAt v.toNat 16 then d.blockCommand w v.toNat else d

/-- BLOCK_RESET_RELEASE: RST.BLOCK_CMD is written with RELEASE. -/
def execBlockResetRelease (w : CoreId) (v : W64) (s : State) : Host.Outcome State Fault Refusal :=
  devNext s fun d => if bitAt v.toNat 17 then d.blockCommand w v.toNat else d

/-- WRAPPER_ANSWER. -/
def execWrapperAnswer (b : Block) (t : WrapTransfer) (s : State) : Host.Outcome State Fault Refusal :=
  devNext s fun d => d.wrapAnswer b t

/-- WATCHDOG. -/
def execWatchdog (cl : ClusterId) (s : State) : Host.Outcome State Fault Refusal :=
  onCluster s cl fun d => d.clusterWatchdog cl

/-- Parity failures of a chute count for the compute core whose chute it is; more than 16 in a millisecond and the control core declares
it failed (R537). -/
def Device.countParity (d : Device) (ch : ChuteId) (n : Nat) : Device :=
  match ch.block with
  | .core x c k =>
    let id : CoreId := ⟨x, c, k⟩
    let ps := (coreKey id, d.clock, n) :: d.surv.parity.filter fun p => decide (d.clock < p.2.1 + millis 1)
    let total : Nat := ((ps.filter fun p => decide (p.1 = coreKey id)).map fun p => p.2.2).sum
    if n = 0 ∨ isCompute id = false then d
    else if total ≤ 16 then d.onSurv fun v => { v with parity := ps }
    else (d.onSurv fun v => { v with parity := ps.filter fun p => decide (p.1 ≠ coreKey id) }).failCore id 1
  | _ => d

/-- CHUTE_READ (R55, R57 to R61, R65): the word delivered is an output. The flits of a peer port's chutes are read by the port, which finds
the upsets of the word at the head. -/
def execChuteRead (ch : ChuteId) (upsets : BitVec 512) (s : State) : Host.Outcome State Fault Refusal :=
  devNext s fun d =>
    if chutePresent ch && carriesFlits ch then d.upsetHead ch upsets.toNat
    else if chutePresent ch then (d.chuteRead ch upsets.toNat).countParity ch (d.readFails ch upsets.toNat) else d

/-- CORE_PROBE_TIMEOUT: a launch runs on the core and it missed its status probe (R537). -/
def execCoreProbeTimeout (c : CoreId) (s : State) : Host.Outcome State Fault Refusal :=
  devNext s fun d => if (d.core c).launch.isSome then d.failCore c 0 else d

/-- CORE_RELAUNCH. -/
def execCoreRelaunch (c : CoreId) (s : State) : Host.Outcome State Fault Refusal := devNext s fun d => d.relaunchCore c

end Sys2Proof.Machine
end

