-- ==== Sys2Proof/Machine/MemCtl.lean ====
section
/-!
DEFINITION. The memory controllers: requests (R365 to R367), block protection (R368 to R371), page sparing (R372,
R373), channel retirement (R374 to R379) and translation maintenance (R364, R380).
-/
namespace Sys2Proof.Machine

/-! ## CRC-32C (R368) -/

/-- One bit of the reflected CRC with polynomial 0x1EDC_6F41. -/
def crcBit (c : Nat) : Nat := if c % 2 = 1 then (c / 2) ^^^ 0x82F63B78 else c / 2

/-- One byte of the CRC. -/
def crcByte (c : Nat) (b : Byte) : Nat :=
  (List.range 8).foldl (fun c _ => crcBit c) (c ^^^ b.toNat)

/-- CRC-32C of bytes: initial value and final xor 0xFFFF_FFFF (R368). -/
def crc32c (bs : List Byte) : Nat := (bs.foldl crcByte 0xFFFF_FFFF) ^^^ 0xFFFF_FFFF

/-- The CRC stored with a block: over its bytes and its device address, inverted for a poisoned block (R368). -/
def blockCrc (addr : Nat) (bs : List Byte) (poison : Bool) : Nat :=
  let c := crc32c (bs ++ leBytes 8 addr)
  if poison then c ^^^ 0xFFFF_FFFF else c

/-! ## The symbol code (R369) -/

/-- Multiplication by α = x in GF(2^16) with x^16 + x^12 + x^3 + x + 1. -/
def gfX (a : Nat) : Nat := if 2 * a < 65536 then 2 * a else (2 * a) ^^^ 0x1_100B

/-- Multiplication in the field. -/
def gfMul (a b : Nat) : Nat :=
  (List.range 16).foldl (fun r i => if bitAt b (15 - i) then gfX r ^^^ a else gfX r) 0

/-- α^n. -/
def gfPow : Nat → Nat
  | 0 => 1
  | n + 1 => gfX (gfPow n)

/-- The generator (x − α^0)(x − α^1)…(x − α^5): its coefficients, the highest power first. -/
def rsGen : List Nat :=
  (List.range 6).foldl (fun p j => List.zipWith (· ^^^ ·) (p ++ [0]) (0 :: p.map (gfMul (gfPow j)))) [1]

/-- The check symbols s_130 to s_135 of a message s_0 to s_129: what makes the word divisible by the generator. -/
def rsCheck (msg : List Nat) : List Nat :=
  msg.foldl (fun r s =>
    let q := s ^^^ r.headD 0
    List.zipWith (· ^^^ ·) (r.drop 1 ++ [0]) (rsGen.tail.map (gfMul q))) (List.replicate 6 0)

/-- The value of a word's polynomial at α^j: zero for each j below 6 where the word is a codeword. -/
def rsSyndrome (j : Nat) (word : List Nat) : Nat := word.foldl (fun a s => gfMul a (gfPow j) ^^^ s) 0

/-- Symbols as bytes: symbol k is bytes 2k and 2k + 1, little-endian. -/
def symBytes (ss : List Nat) : List Byte := ss.flatMap fun x => leBytes 2 x

/-- Bytes as symbols. -/
def bytesSym (bs : List Byte) : List Nat := (List.range (bs.length / 2)).map fun k => leAt bs (2 * k) 2

/-- The 272 bytes stored for a block: its data, its CRC and its symbol code (R360, R368, R369). -/
def storedBlock (addr : Nat) (bs : List Byte) (poison : Bool) : List Byte :=
  let msg := bs ++ leBytes 4 (blockCrc addr bs poison)
  msg ++ symBytes (rsCheck (bytesSym msg))

/-- The codeword at distance zero or one from a word of 136 symbols, with the symbol corrected where one was; none: there is none. -/
def rsDecode (word : List Nat) : Option (List Nat × Option Nat) :=
  let syn := (List.range 6).map fun j => rsSyndrome j word
  if syn.all (· == 0) then some (word, none)
  else
    let e := syn.headD 0
    match (List.range 136).find? fun k =>
        decide (e ≠ 0) && (List.range 6).all fun j => decide (syn.getD j 0 = gfMul e (gfPow (j * (135 - k)))) with
    | some k => some (word.set k (word.getD k 0 ^^^ e), some k)
    | none => none

/-- What a decoded word delivers for a device address: its data, and whether its CRC is the poisoned value; none: the CRC matches
neither (R368, R369). -/
def crcVerdict (addr : Nat) (word : List Nat) : Option (List Byte × Bool) :=
  let bs := symBytes (word.take 128)
  let crc := leNat (symBytes ((word.drop 128).take 2))
  if crc = blockCrc addr bs false then some (bs, false)
  else if crc = blockCrc addr bs true then some (bs, true)
  else none

/-! ## Where a block is -/

/-- Die, channel within the die and location of the granule of an LPDDR address (R352, R376). -/
def Device.whereIs (d : Device) (a : Nat) : Nat × Nat × Nat :=
  let h := homeOf d.memsys.retired a
  (h.1 / 48, h.1 % 48, h.2)

/-- The address of the granule stored at a channel location: the inverse of place and home (R359, R376). -/
def granuleAt (retired : List Nat) (c l : Nat) : Nat :=
  let r := retired.take 16
  let n := r.length
  let s0 := windowBase n
  let at' := fun (c l : Nat) =>
    let h := (l ^^^ (l >>> 7) ^^^ (l >>> 14) ^^^ (l >>> 21)) % 128
    (384 * l + 128 * ((c / 128 + 3 - l % 3) % 3) + ((c % 128) ^^^ h)) * 4096
  if n ≠ 0 ∧ s0 ≤ l ∧ l ≤ windowTop then
    let idx := (((List.range 384).filter fun x => !(r.contains x)).takeWhile fun x => decide (x < c)).length
    let q := (l - s0) * (384 - n) + idx
    let lam := q / n
    let sorted := (List.range 384).filter fun x => r.contains x
    at' (sorted.getD (q % n) 0) (if lam < s0 then lam else lam + windowSize n)
  else at' c l

/-- A channel's registers and records name it by die and index (R352). -/
def chanNo (die j : Nat) : Nat := 48 * die + j

/-- A channel of the module. -/
def chanPresent (die j : Nat) : Bool := decide (die < 8) && decide (j < 48)

/-- The slot of a channel that holds a data location (R360). -/
def Channel.slotOf (x : Channel) (loc : Nat) : Nat := tget x.slots loc loc

/-- The byte offset within its channel of the 272 stored bytes of the block of an LPDDR address (R360). -/
def Device.channelOffset (d : Device) (a : Nat) : Nat :=
  let h := homeOf d.memsys.retired a
  4352 * (d.channel h.1).slotOf h.2 + 272 * (a / 256 % 16)

/-- Retirement n ≥ 2 gave a granule that was displaced before, and was not on the channel it retired, a new home, and the copies of
that remap have not ended (R377). Every such granule counts as being copied until CHANNEL_REMAPPED (DESIGN CHOICE, log 187). -/
def Device.remapCopies (d : Device) (a : Nat) : Bool :=
  d.memsys.remapping.any fun n =>
    let before := d.memsys.retired.take (n - 1)
    let old := homeOf before a
    decide (2 ≤ n) && decide (a ≤ 0xB3F_FFFF_FFFF) && before.contains (place a).1
      && decide (old.1 ≠ d.memsys.retired.getD (n - 1) 384) && decide (homeOf (d.memsys.retired.take n) a ≠ old)

/-- The granule of an address is being copied: its requests wait (R372, R377). -/
def Device.copyingGranule (d : Device) (a : Nat) : Bool :=
  let h := homeOf d.memsys.retired a
  d.remapCopies a || match (d.channel h.1).copying with
    | some (l, _) => decide (l = h.2)
    | none => false

/-- MEM.CHAN_STAT as read: COPYING is 1 while a page copy, or a remap copy, in which the channels in service take part, is in progress
(R377, R381). -/
def Device.chanStatValue (d : Device) (die j : Nat) : Nat :=
  let v := d.regN (Reg.chanStat die j)
  if d.memsys.remapping.any (fun n => decide (2 ≤ n)) && !(d.memsys.retired.contains (chanNo die j)) then setBits v 2 2 1 else v

/-! ## Requests (R365 to R367) -/

/-- A request is refused: nothing is performed, the answer is poisoned, MEM_REQUEST is emitted with the block's device address (R365,
R382). -/
def Device.memRequest (d : Device) (src : Header) (addr cause : Nat) : Device :=
  let w := d.whereIs addr
  let e := srcMem w.1 w.2.1
  (d.send (.packet ⟨responseHdr src true e, []⟩)).emit e 0x700A .deferred true
    (detail [(0, 8, addr / 256 * 256), (8, 4, w.2.2), (12, 2, src.opTag.toNat), (14, 1, cause)]) (d.tagOrigin src.opTag.toNat)

/-- A request's OP and address: refused where it leaves its granule or its OP is reserved (R365). -/
def requestBad (ctl : W64) (n : Nat) : Option Nat :=
  let a := bitsOf ctl.toNat 51 0
  if bitsOf ctl.toNat 53 52 = 3 then some 1
  else if a / 4096 ≠ (a + n - 1) / 4096 then some 0
  else none

/-- The channel answers a request to memory that is retired, or held on a channel out of service, poisoned (R374). -/
def State.servable (s : State) (a : Nat) : Bool :=
  decide ((regionOf a).1 = .lpddr) && s.present a && !(onDeadChannel s.dev.memsys.retired a)

/-- A read, its response sent (R365, R366). -/
def State.memRead (s : State) (src : Header) (ctl : W64) (rlen : Nat) : State :=
  let a := bitsOf ctl.toNat 51 0
  match requestBad ctl rlen with
  | some cause => s.onDev fun d => d.memRequest src a cause
  | none =>
    if bitsOf ctl.toNat 53 52 ≠ 0 ∨ rlen = 0 ∨ 1024 < rlen ∨ s.dev.copyingGranule a then s
    else
      let w := s.dev.whereIs a
      let e := srcMem w.1 w.2.1
      if !(s.servable a) then s.onDev fun d => d.send (.packet ⟨responseHdr src true e, []⟩)
      else
        let r := s.load a rlen
        let h := { responseHdr src r.2 e with len := .ofNat 11 rlen }
        s.onDev fun d => (d.addRf (Reg.dieCnt w.1 6) 47 0 rlen).send (.packet ⟨h, r.1⟩)

/-- A set-bit write: each mask byte is ORed into its byte, and what was poisoned stays so (R35, R366, R367). -/
def State.setBits (s : State) (a : Nat) (bs : List Byte) (p : Bool) : State :=
  let xs := (List.zipWith (fun (x y : Byte) => x ||| y) bs (s.load a bs.length).1).mapIdx fun i b => (b, p || s.poisoned (a + i) 1)
  ((poisonRuns xs).foldl (fun (t : State × Nat) r => (t.1.store t.2 r.1 r.2, t.2 + r.1.length)) (s, a)).1

/-- A write or set-bit write, its header-only response sent; a poisoned packet stores poisoned blocks and is answered
poisoned (R365 to R367). -/
def State.memWrite (s : State) (op : Nat) (src : Header) (ctl : W64) (bs : List Byte) : State :=
  let a := bitsOf ctl.toNat 51 0
  match requestBad ctl bs.length with
  | some cause => s.onDev fun d => d.memRequest src a cause
  | none =>
    if bitsOf ctl.toNat 53 52 ≠ op ∨ bs.length = 0 ∨ 1016 < bs.length ∨ s.dev.copyingGranule a then s
    else
      let w := s.dev.whereIs a
      let e := srcMem w.1 w.2.1
      if !(s.servable a) then s.onDev fun d => d.send (.packet ⟨responseHdr src true e, []⟩)
      else
        let s1 := if op = 2 then s.setBits a bs src.poison else s.store a bs src.poison
        s1.onDev fun d =>
          (d.addRf (Reg.dieCnt w.1 7) 47 0 bs.length).send (.packet ⟨responseHdr src src.poison e, []⟩)

/-! ## Blocks (R368 to R371) -/

/-- The symbols in error of one fetch with the bits flipped in each, by symbol: flips of one symbol add up, and a symbol none of whose
bits is flipped is not in error (R369). -/
def fetchErrors (f : FetchErr) : List (Nat × W16) :=
  (f.symbols.foldl (fun t x => if x.1 < 136 then tput t x.1 (tget t 0 x.1 ^^^ x.2) else t) []).filter fun x => decide (x.2 ≠ 0)

/-- Symbols in error of one fetch (R369). -/
def errWeight (f : FetchErr) : Nat := (fetchErrors f).length

/-- A word of symbols with the errors of a fetch. -/
def flipWord (word : List Nat) (f : FetchErr) : List Nat :=
  (fetchErrors f).foldl (fun w x => w.set x.1 (w.getD x.1 0 ^^^ x.2.toNat)) word

/-- The 256 data bytes of a fetch with its symbols' bits flipped (R369). -/
def flipBlock (bs : List Byte) (f : FetchErr) : List Byte := symBytes (flipWord (bytesSym bs) f)

/-- How one fetch of a stored block ends: good with its data, its poison and the symbol corrected, or bad, none (R369). A stored block
is a codeword whose CRC matches, so no error leaves it as it is, an error in one symbol is corrected and one in two to five is
detected; beyond that the word received decides, where the decoder takes it (log 188). -/
def decodeFetch (fresh addr : Nat) (bs : List Byte) (p stale : Bool) (f : FetchErr) : Option (List Byte × Bool × Option Nat) :=
  if stale then none
  else match (fetchErrors f) with
  | [] => some (bs, p, none)
  | [x] => some (bs, p, some x.1)
  | es =>
    if es.length ≤ 5 ∨ Config.beyondTaken fresh = false then none
    else
      match rsDecode (flipWord (bytesSym (storedBlock addr bs p)) f) with
      | none => none
      | some (word, k) => (crcVerdict addr word).map fun r => (r.1, r.2, k)

/-- Hours in tenths of a nanosecond. -/
def hours (n : Nat) : Nat := n * 36000000000000

/-- A granule is due for retirement (R371); one that found no spare stays where it is (R373). -/
def Channel.schedule (x : Channel) (loc cause : Nat) : Channel :=
  if x.stuck.contains loc || x.due.any (fun p => p.1 == loc) then x else { x with due := x.due ++ [(loc, cause)] }

/-- One corrected event is counted against a granule, which is scheduled at THRESH events within WINDOW hours (R371); the reads of a
page copy schedule nothing (R372). -/
def Device.countCorrected (d : Device) (die j loc : Nat) (retire : Bool) : Device :=
  let c := chanNo die j
  let x := d.channel c
  let o := Reg.retireCtl die j
  let times := ((tget x.corrected [] loc).filter fun t => decide (d.clock ≤ t + hours (d.rf o 15 8))) ++ [d.clock]
  let x1 := { x with corrected := tput x.corrected loc times }
  let th := d.rf o 3 0
  d.setChannel c (if retire = true ∧ th ≠ 0 ∧ th ≤ times.length then x1.schedule loc 1 else x1)

/-- A block is read from its channel under R370, with the errors of each attempt; `retire`: a bad block schedules its
granule. Answers what the read delivers. -/
def State.readBlock (s : State) (blk : Nat) (fetches : List FetchErr) (retire : Bool) : State × List Byte × Bool :=
  let w := s.dev.whereIs blk
  let die := w.1
  let j := w.2.1
  let loc := w.2.2
  let b := s.load blk 256
  let stale := lostOnce s.dev.memsys.retired blk && !(s.mem.rewritten.contains blk) && !(s.mem.poison.contains blk)
  let f := fun k => fetches.getD k ⟨[]⟩
  let try' := fun k => decodeFetch (s.dev.fresh + k) blk b.1 (b.2 && !stale) stale (f k)
  let det := [(0, 8, blk), (8, 4, loc), (12, 1, blk / 256 % 16)]
  let good := fun (k : Nat) (r : List Byte × Bool × Option Nat) =>
    if r.2.2.isSome || decide (0 < k) then
      let s1 := s.store blk r.1 r.2.1
      let code := if k = 0 then 0x7001 else 0x7002
      let more := if k = 0 then [(13, 2, r.2.2.getD 0)] else [(13, 1, k)]
      (s1.onDev fun d =>
        ((d.addRf (Reg.errCnt die j) (if k = 0 then 15 else 31) (if k = 0 then 0 else 16) 1).emit
          (srcMem die j) code .corrected false (detail (det ++ more))).countCorrected die j loc retire, r.1, r.2.1)
    else (s, r.1, r.2.1)
  let s0 := { s with dev := { s.dev with fresh := s.dev.fresh + 3 } }
  let fin := fun (r : State × List Byte × Bool) => ({ r.1 with dev := { r.1.dev with fresh := s0.dev.fresh } }, r.2)
  match try' 0 with
  | some r => fin (good 0 r)
  | none => match try' 1 with
    | some r => fin (good 1 r)
    | none => match try' 2 with
      | some r => fin (good 2 r)
      | none =>
        let bytes := flipBlock b.1 (f 2)
        let s1 := s0.store blk bytes true
        (s1.onDev fun d =>
          let d1 := (d.addRf (Reg.errCnt die j) 47 32 1).emit (srcMem die j) 0x7003 .deferred true (detail det)
          if retire then d1.setChannel (chanNo die j) ((d1.channel (chanNo die j)).schedule loc 0) else d1,
         bytes, true)

/-! ## Page sparing (R372, R373) -/

/-- The first granule due begins its copy; with no spare left it stays and SPARES_EXHAUSTED is emitted (R372, R373). -/
def Device.pageRetire (d : Device) (die j : Nat) : Device :=
  let c := chanNo die j
  let x := d.channel c
  match x.copying, x.due with
  | none, (loc, cause) :: rest =>
    let a := granuleAt d.memsys.retired c loc
    if x.spares ≥ 19648 then
      let d1 := d.setChannel c { x with due := rest, stuck := sinsert x.stuck loc }
      let d2 := if cause = 2 then d1.setRf (Reg.pageReq die j) 63 63 0 else d1
      d2.emit (srcMem die j) 0x7006 .deferred false (detail [(0, 8, a), (8, 4, loc)])
    else (d.setChannel c { x with due := rest, copying := some (loc, cause) }).setRf (Reg.chanStat die j) 2 2 1
  | _, _ => d

/-- The copy ends: the location maps to the lowest free spare slot (R360, R372, R373). -/
def Device.pageCopyEnd (d : Device) (die j : Nat) : Device :=
  let c := chanNo die j
  let x := d.channel c
  match x.copying with
  | none => d
  | some (loc, cause) =>
    let slot := 7864320 + x.spares
    let low := !x.lowSent && decide (19648 - (x.spares + 1) ≤ 1024)
    let d1 := (d.setChannel c { x with copying := none, slots := tput x.slots loc slot, spares := x.spares + 1,
                                       lowSent := x.lowSent || low })
    let d2 := (d1.setRf (Reg.chanStat die j) 2 2 0).setRf (Reg.chanStat die j) 22 8 (x.spares + 1)
    let d3 := if cause = 2 then d2.setRf (Reg.pageReq die j) 63 63 0 else d2
    let d4 := d3.emit (srcMem die j) 0x7004 .notice false
      (detail [(0, 8, granuleAt d.memsys.retired c loc), (8, 4, loc), (12, 3, slot), (15, 1, cause)])
    if low then d4.emit (srcMem die j) 0x7005 .notice false (detail [(12, 3, 19648 - (x.spares + 1))]) else d4

/-- The 16 blocks of a granule are read for its copy, without a further retirement; `fetches` are the errors met at each (R372). -/
def State.copyBlocks (s : State) (a : Nat) (fetches : List (List FetchErr)) : State :=
  (List.range 16).foldl (fun s i =>
    if s.servable (a + 256 * i) then (s.readBlock (a + 256 * i) (fetches.getD i []) false).1 else s) s

/-- The copy of a granule in progress reads its blocks and ends (R372). -/
def State.pageCopy (s : State) (die j : Nat) (fetches : List (List FetchErr)) : State :=
  match (s.dev.channel (chanNo die j)).copying with
  | none => s
  | some (loc, _) =>
    (s.copyBlocks (granuleAt s.dev.memsys.retired (chanNo die j) loc) fetches).onDev fun d => d.pageCopyEnd die j

/-- A write of MEM.PAGE_REQ (R371, R381, R633). -/
def Device.writePageReq (d : Device) (die j v : Nat) : Device :=
  let o := Reg.pageReq die j
  let loc := bitsOf v 22 0
  if d.rbit o 63 || decide (7864319 < loc) then d
  else
    let c := chanNo die j
    (d.setRf o 63 63 1).setChannel c { d.channel c with due := (d.channel c).due ++ [(loc, 2)] }

/-! ## Channel retirement (R374 to R378) -/

/-- An address loses its contents when a channel is retired: it was placed there, or enters the window (R374, R375, R379). -/
def lostWith (c : Nat) (before after : List Nat) (a : Nat) : Bool :=
  decide (a ≤ 0xB3F_FFFF_FFFF) && (decide ((homeOf before a).1 = c) || inWindow after a)

/-- Contents are lost: bytes and marks of granules on the channel, and of addresses that enter the window (R374,
R375). -/
def State.loseChannel (s : State) (c : Nat) (before after : List Nat) : State :=
  let gone := lostWith c before after
  { s with mem := { cells := s.mem.cells.filter (fun x => !(gone x.1))
                    poison := s.mem.poison.filter (fun a => !(gone a))
                    rewritten := s.mem.rewritten.filter (fun a => !(gone a)) } }

/-- The headers of the requests that a channel's request chute holds: that of the packet it has begun to take, and those in the chute. -/
def Chute.held (c : Chute) : List Nat :=
  let begun := match c.words with
    | [] => c.taking
    | w :: _ => !w.hdr
  (if begun then [c.lastHdr.toNat] else []) ++ (c.words.filter fun w => w.hdr).map fun w => w.data.toNat % 2 ^ 128

/-- The channel answers every request it holds poisoned (R374). -/
def Device.answerHeld (d : Device) (die j : Nat) : Device :=
  let ch : ChuteId := ⟨.memGroup die (j / 4), j % 4⟩
  let c := d.chute ch
  if c.held.isEmpty then d
  else (c.held.foldl (fun (d : Device) h => d.send (.packet ⟨responseHdr (headerOf h) true (srcMem die j), []⟩)) d).putChute ch
    { c with words := [], discarding := c.discarding || c.midItem, taking := false, conMid := false, taken := [], badWords := 0
             badPacket := false }

/-- A channel is retired, with the copies in progress or asked for on it (R374, R375, R378, R382). Cause 0 firmware, 1 training, 2 timeout. -/
def State.retireChannel (s : State) (die j cause : Nat) : State :=
  let c := chanNo die j
  if s.dev.memsys.retired.contains c then s
  else
    let before := s.dev.memsys.retired
    let after := before ++ [c]
    let n := after.length
    let s1 := s.loseChannel c before after
    s1.onDev fun d =>
      let d0 := d.answerHeld die j
      let d1 := { d0 with memsys := { d0.memsys with retired := after
                                                     remapping := d0.memsys.remapping ++ (if n ≤ 16 then [n] else []) } }
      let d2 := ((d1.setChannel c Channel.empty).setRf (Reg.chanStat die j) 2 0 2).setRf (Reg.pageReq die j) 63 63 0
      let d3 := d2.setRf Reg.memCap 4 0 n
      let d4 := if n ≤ 16 then d3.setRf Reg.memCap 59 16 (1572864 * windowBase n / 256) else d3
      let d5 := d4.emit (srcMem die j) 0x7007 .deferred true (detail [(12, 1, cause), (13, 1, n)])
      if n = 17 then d5.emit (srcMem die j) 0x7009 .fatal false (detail []) else d5

/-- Every copy of a remap has ended (R377). -/
def Device.channelRemapped (d : Device) (die j : Nat) : Device :=
  match d.memsys.remapping.find? fun n => decide (d.memsys.retired.getD (n - 1) 384 = chanNo die j) with
  | none => d
  | some n =>
    ({ d with memsys := { d.memsys with remapping := d.memsys.remapping.filter fun k => decide (k ≠ n) } } : Device).emit
      (srcMem die j) 0x7008 .notice false (detail [(0, 8, d.rf Reg.memCap 59 16 * 256), (13, 1, n)])

/-- A write of MEM.XLAT_INV: ignored while BUSY (R364, R380). -/
def Device.writeXlatInv (d : Device) (v : Nat) : Device :=
  if d.rbit Reg.xlatInv 63 then d
  else ({ d with memsys := { d.memsys with xlatFn := bitsOf v 5 0 } } : Device).setRf Reg.xlatInv 63 63 1

/-- A core's tensor units hold an address that is translated already: that of a queued VLD or VST, or the regions of an orbit. -/
def Tensor.holdsAddress (t : Tensor) : Bool :=
  (t.vectorQ.any fun o => decide (o.opc = 0xA0) || decide (o.opc = 0xA1)) || t.streams.any fun p => p.2.orbit.isSome

/-- An access through translations of a function has not completed: a core that works for it waits at a semaphore, or its tensor units
hold a translated address (R364; that an orbit's regions count, and that every entry of the function does, are DEDUCED, log 189). -/
def Device.xlatInUse (d : Device) (f : Nat) : Bool :=
  d.cores.any fun p =>
    (match p.2.launch with
      | some (g, _, _) => decide (g = f)
      | none => false) &&
    ((match p.2.run with
      | .waiting .. => true
      | _ => false) || (tget d.tensors Tensor.init p.1).holdsAddress)

/-! ## Commands -/

/-- MEM_READ (R359, R365, R366, R376). -/
def execMemRead (src : Header) (ctl : W64) (rlen : Nat) (s : State) : Host.Outcome State Fault Refusal :=
  memNext s fun s => s.memRead src ctl rlen

/-- MEM_WRITE (R365 to R368). -/
def execMemWrite (src : Header) (ctl : W64) (bytes : List Byte) (s : State) : Host.Outcome State Fault Refusal :=
  memNext s fun s => s.memWrite 1 src ctl bytes

/-- SET_BIT_WRITE (R188, R365, R366). -/
def execSetBitWrite (src : Header) (ctl : W64) (bytes : List Byte) (s : State) : Host.Outcome State Fault Refusal :=
  memNext s fun s => s.memWrite 2 src ctl bytes

/-- BLOCK_ARRIVAL (R368 to R370): the block delivered is an output. -/
def execBlockArrival (addr : Nat) (fetches : List FetchErr) (s : State) : Host.Outcome State Fault Refusal :=
  memNext s (fun s =>
    let blk := addr / 256 * 256
    if s.servable blk then
      let r := s.readBlock blk fetches true
      r.1.onDev fun d => d.send (.block blk r.2.1 r.2.2)
    else s)

/-- PATROL_READ (R371): one block of a data location is read with no response. -/
def execPatrolRead (die chan loc blk : Nat) (fetches : List FetchErr) (s : State) : Host.Outcome State Fault Refusal :=
  memNext s (fun s =>
    let c := chanNo die chan
    if chanPresent die chan && decide (loc ≤ 7864319) && decide (blk < 16)
        && decide (s.dev.rf (Reg.retireCtl die chan) 23 16 ≠ 0) && !(s.dev.memsys.retired.contains c)
        && s.servable (granuleAt s.dev.memsys.retired c loc + 256 * blk) then
      (s.readBlock (granuleAt s.dev.memsys.retired c loc + 256 * blk) fetches true).1
    else s)

/-- PAGE_REQ (R371, R381, R633). -/
def execPageReq (die chan : Nat) (v : W64) (s : State) : Host.Outcome State Fault Refusal :=
  devNext s fun d => if chanPresent die chan then d.writePageReq die chan v.toNat else d

/-- PAGE_RETIRE (R372, R373). -/
def execPageRetire (die chan : Nat) (s : State) : Host.Outcome State Fault Refusal :=
  devNext s fun d => if chanPresent die chan then d.pageRetire die chan else d

/-- PAGE_COPY_END (R372, R373). -/
def execPageCopyEnd (die : Nat) (page : PageReads) (s : State) : Host.Outcome State Fault Refusal :=
  memNext s fun s => if chanPresent die page.chan then s.pageCopy die page.chan page.fetches else s

/-- CHANNEL_REMAPPED (R377). -/
def execChannelRemapped (die chan : Nat) (s : State) : Host.Outcome State Fault Refusal :=
  devNext s fun d => if chanPresent die chan then d.channelRemapped die chan else d

/-- XLAT_INV (R364, R380). -/
def execXlatInv (v : W64) (s : State) : Host.Outcome State Fault Refusal :=
  devNext s fun d => d.writeXlatInv v.toNat

/-- XLAT_INV_DONE: BUSY returns to 0 once every access already translated for the function has completed (R364). -/
def execXlatInvDone (s : State) : Host.Outcome State Fault Refusal :=
  devNext s fun d => if d.xlatInUse d.memsys.xlatFn then d else d.setRf Reg.xlatInv 63 63 0

/-- ERR_CNT_READ: the counters are answered and clear (R381). -/
def execErrCntRead (die chan : Nat) (s : State) : Host.Outcome State Fault Refusal :=
  devNext s fun d =>
    if chanPresent die chan then
      (d.send (.reg (Reg.errCnt die chan) (d.reg (Reg.errCnt die chan)))).clearRc (Reg.errCnt die chan)
    else d

end Sys2Proof.Machine
end

