-- ==== Sys2Proof/Machine/Survival.lean ====
section
/-!
DEFINITION. Survival (chapter 14): slots and buddies (R507 to R509), the registry (R510 to R513), the step log and GO (R514 to
R516), checkpoints (R517 to R523), the odds (R526, R527), halt, fill, rollback and verification (R528 to R536), and the mover
(R541, R542).
-/
namespace Sys2Proof.Machine

/-- A survival record (R543, DEDUCED, log 14). -/
def Device.survEmit (d : Device) (code : Nat) (cls : EvClass) (det : List (Nat × Nat × Nat)) : Device :=
  d.emit (srcHub 0x3F 0) code cls false (detail det)

/-! ## Slots (R507 to R509, R536) -/

/-- The working seat that serves a slot. -/
def Device.seatOfSlot (d : Device) (n : Nat) : Option Nat :=
  (List.range 9).find? fun s => decide (d.rosterState s = 1) && decide (d.rf (Reg.roster s) 23 20 = n)

/-- Slots served by a working seat. -/
def Device.servedSlots (d : Device) : List Nat := (List.range d.slots).filter fun n => (d.seatOfSlot n).isSome

/-- Seats that are working or spare. -/
def Device.members (d : Device) : List Nat := (List.range 9).filter d.inRoster

/-- This seat leads a roster. -/
def Device.leads (d : Device) : Bool := decide (d.rosterEpoch ≠ 0) && decide (d.leaderNow = d.seat)

/-- FEED of the seat that serves a slot. -/
def Device.slotFeed (d : Device) (n : Nat) : Nat :=
  match d.seatOfSlot n with
  | some s => d.rf (Reg.roster s) 5 4
  | none => 0

/-- Slot n shares its FEED with its buddy for an offset K, both served (R508). -/
def Device.sharesFeed (d : Device) (k n : Nat) : Bool :=
  let b := (n + k) % d.slots
  (d.seatOfSlot n).isSome && (d.seatOfSlot b).isSome && decide (d.slotFeed n = d.slotFeed b)

/-- SURV_STAT.MODE. -/
def Device.survMode (d : Device) : Nat := d.rf Reg.survStat 2 0

/-- MODE set, and COVERED with it (R536). -/
def Device.setMode (d : Device) (m : Nat) : Device :=
  let spare := d.members.any fun s => decide (d.rosterState s = 2)
  let cov := decide (d.servedSlots.length = d.slots) && spare && (decide (m = 0) || decide (m = 4))
  (d.setRf Reg.survStat 2 0 m).setRf Reg.survStat 3 3 (ofBool cov)

/-- A served slot is correlated (R508). -/
def Device.correlated (d : Device) (n : Nat) : Bool :=
  (d.seatOfSlot n).isSome && (decide (d.slots = 1) || d.sharesFeed (d.rf Reg.survCtl 3 1) n)

/-- The class of a tensor in force: a shadow of a correlated slot counts as changing (R508). -/
def Device.classOf (d : Device) (e : RegEntry) : Nat := if e.cls = 3 ∧ d.correlated e.slot = true then 2 else e.cls

/-- A mover command (R542). -/
def moveCmd (op seat src dst n : Nat) : List Byte :=
  leBytes 1 op ++ leBytes 1 seat ++ List.replicate 6 (0 : Byte) ++ leBytes 8 src ++ leBytes 8 dst ++ leBytes 8 n

/-- Firmware is to post mover commands. -/
def Device.addMoves (d : Device) (cs : List (List Byte)) : Device := d.onSurv fun v => { v with moves := v.moves ++ cs }

/-- Where another seat keeps a tensor. -/
def farAddr (seat tensor : Nat) : Nat := (Config.farBase seat tensor).toNat

/-- A buffer of firmware in LPDDR, of 64 KiB. -/
def bufferAddr (k : Nat) : Nat := 65536 * (Config.bufferPage k).toNat

/-- The registry entries of this seat's own slot. -/
def Device.ownEntries (d : Device) : List RegEntry := d.surv.registry.filter fun e => decide (d.slotOf d.seat = some e.slot)

/-- Copies of this seat's shadow-class tensors to a seat that is to host them (R509, R530). -/
def Device.shadowMoves (d : Device) (t : Nat) : List (List Byte) :=
  (d.ownEntries.filter fun e => decide (e.assigned = 3)).map fun e => moveCmd 0 t e.base (farAddr t e.tensor) e.bytes

/-- When K changes every shadow is void: this seat's shadow-class tensors count as changing until their copies to the new buddy have
completed (R509). -/
def Device.voidShadows (d : Device) (k : Nat) : Device :=
  let own := d.ownEntries.filter fun e => decide (e.assigned = 3)
  let d1 := d.onSurv fun s =>
    { s with registry := s.registry.map fun e => if own.contains e then { e with cls := 2 } else e
             voided := own.map fun e => e.tensor }
  match d.slotOf d.seat with
  | none => d1
  | some n => match d.seatOfSlot ((n + k) % d.slots) with
    | some t => if t = d.seat then d1 else d1.addMoves (d.shadowMoves t)
    | none => d1

/-- BUDDY_K is computed from the new roster, and correlated slots are reported (R508, R509). -/
def Device.buddyUpdate (d : Device) : Device :=
  let w := d.slots
  let old := d.rf Reg.survCtl 3 1
  let ok := fun k : Nat => (List.range w).all fun n => !(d.sharesFeed k n)
  let k := if w ≤ 1 then old
    else if ok old && decide (old < w) then old
    else (((List.range (w - 1)).map fun i => i + 1).find? ok).getD 1
  let d1 := d.setRf Reg.survCtl 3 1 k
  let d2 := if k ≠ old then d1.voidShadows k else d1
  ((List.range w).filter d2.correlated).foldl (fun (d : Device) n =>
    d.survEmit 0xB003 .notice [(0, 1, n), (1, 1, if w = 1 then 0xFF else (n + k) % w), (2, 1, d.slotFeed n)]) d2

/-! ## The registry (R510 to R513) -/

/-- The class the policy assigns (R511); `room`: whether the shadow budget admits it. -/
def policyClass (vol : Bool) (rate bytes shadowRate shadowMax : Nat) (room : Bool) : Nat :=
  if vol then 0
  else if rate = 0 then 1
  else if rate ≤ shadowRate ∧ bytes ≤ shadowMax * 2 ^ 30 ∧ room = true then 3
  else 2

/-- One registry entry of 64 bytes breaks R510 (cause 0) or R512 (cause 1). -/
def Device.entryBreaks (d : Device) (bs : List Byte) : Option Nat :=
  let base := leAt bs 8 8
  let n := leAt bs 16 8
  let own := decide (d.slotOf d.seat = some (leAt bs 4 1))
  let w0 := d.rf Reg.stateBase 51 21 * 2 ^ 21
  let w1 := w0 + d.slotBytes
  let inside := decide (w0 ≤ base) && decide (base + n ≤ w1)
  let apart := decide (base + n ≤ w0) || decide (w1 ≤ base)
  let vol := bitAt (leAt bs 5 1) 0
  if 8 ≤ leAt bs 4 1 ∨ 2 ≤ leAt bs 5 1 ∨ base % 4096 ≠ 0 ∨ n = 0 ∨ n % 256 ≠ 0 ∨ leAt bs 24 8 ≠ 0 ∨ leAt bs 34 2 ≠ 0
      ∨ leAt bs 40 24 ≠ 0 then some 0
  else if own && !vol && !inside then some 1
  else if !own && !apart then some 1
  else none

/-- The buddy slot of this seat's slot is served by another seat, whose registry is to hold the hosted entries (R507, R512). -/
def Device.buddyApart (d : Device) : Bool :=
  match d.slotOf d.seat with
  | none => false
  | some n => match d.seatOfSlot ((n + d.rf Reg.survCtl 3 1) % d.slots) with
    | some t => decide (t ≠ d.seat)
    | none => false

/-- Firmware reads the registry and assigns classes: shadows in ascending BYTES, then TENSOR, within the budget (R511, R513).
A tensor seen before keeps its class in force as changing until a checkpoint completes; a new one takes its class at once. -/
def State.readRegistry (s : State) : State :=
  let d := s.dev
  if !(d.rbit Reg.survReg 0) then s
  else
    let base := d.rf Reg.survReg 51 12 * 4096
    let count := s.loadN base 4 % 65536
    let raw := (List.range count).map fun i => (s.load (base + 64 * (i + 1)) 64).1
    let rate := d.rf Reg.survCtl 31 16
    let lim := d.rf Reg.survCtl 47 32
    let budget := d.rf Reg.survCtl 63 48 * 2 ^ 30
    let shadow := fun bs : List Byte => decide (policyClass (bitAt (leAt bs 5 1) 0) (leAt bs 6 2) (leAt bs 16 8) rate lim true = 3)
      && decide (d.slotOf d.seat = some (leAt bs 4 1)) && (d.entryBreaks bs).isNone
    let before := fun (a b : List Byte) => decide (leAt a 16 8 < leAt b 16 8)
      || (decide (leAt a 16 8 = leAt b 16 8) && decide (leAt a 0 4 < leAt b 0 4))
    let room := fun bs : List Byte =>
      decide (((raw.filter fun x => shadow x && before x bs).map fun x => leAt x 16 8).sum + leAt bs 16 8 ≤ budget)
    let why := fun bs : List Byte => match d.entryBreaks bs with
      | some c => some c
      | none => if shadow bs && room bs && d.buddyApart && !(Config.hostedEntry d.fresh (leAt bs 0 4)) then some 2 else none
    let entries := raw.map fun bs =>
      let bad := why bs
      let own := decide (d.slotOf d.seat = some (leAt bs 4 1))
      let a := if bad.isSome then 2 else if own then
          policyClass (bitAt (leAt bs 5 1) 0) (leAt bs 6 2) (leAt bs 16 8) rate lim (room bs)
        else 3
      let cls := match d.surv.registry.find? fun e => decide (e.tensor = leAt bs 0 4) && decide (e.slot = leAt bs 4 1) with
        | some e => if e.assigned = a then e.cls else 2
        | none => a
      ({ tensor := leAt bs 0 4, slot := leAt bs 4 1, cls := cls, assigned := a, base := leAt bs 8 8, bytes := leAt bs 16 8
         bad := bad.isSome } : RegEntry)
    let s1 := (entries.zipIdx).foldl (fun (s : State) p => s.store (base + 64 * (p.2 + 1) + 32) [BitVec.ofNat 8 p.1.cls] false) s
    s1.onDev fun d =>
      raw.foldl (fun (d : Device) bs => match why bs with
        | none => d
        | some c => d.survEmit 0xB010 .deferred [(0, 4, leAt bs 0 4), (4, 1, c)])
        (d.takeFresh.onSurv fun v => { v with registry := entries })

/-! ## Checkpoints (R519 to R523) -/

/-- A step is a checkpoint step (R519). -/
def Device.isCkptStep (d : Device) (step : Nat) : Bool :=
  d.surv.ckpt.isNone &&
    (d.surv.fresh || decide (d.rf Reg.survStat 63 32 + d.rf Reg.odds 41 32 ≤ step)
      || d.surv.requests.any fun r => decide (r ≤ step))

/-- The generation the next checkpoint writes (R521). -/
def Device.nextGen (d : Device) : Nat := if d.rbit Reg.survStat 5 then 1 - d.rf Reg.survStat 4 4 else 0

/-- At a complete checkpoint firmware writes CLASS into the entries, and GENS and CRC into those of the seat's own protected tensors;
classes assigned take effect, but for shadows whose copy is not complete (R509, R510, R513, R521). A CRC of poisoned content is
poisoned (R35). -/
def State.sealRegistry (s : State) (gen : Nat) : State :=
  let base := s.dev.rf Reg.survReg 51 12 * 4096
  let own := s.dev.ownEntries
  let s1 := s.dev.surv.registry.zipIdx.foldl (fun (s : State) p =>
    let a := base + 64 * (p.2 + 1)
    let s0 := s.store (a + 32) [BitVec.ofNat 8 p.1.assigned] false
    if p.1.assigned = 0 ∨ own.contains p.1 = false then s0
    else
      let old := s.loadN (a + 33) 1
      let g := if p.1.assigned = 1 then old ||| 1 <<< gen else 1 <<< gen
      let r := s.load p.1.base p.1.bytes
      (s0.store (a + 33) [BitVec.ofNat 8 g] false).store (a + 36) (leBytes 4 (crc32c r.1)) r.2) s
  if s.dev.rbit Reg.survReg 0 then
    s1.onDev fun d => d.onSurv fun v =>
      { v with registry := v.registry.map fun e => if own.contains e && v.voided.contains e.tensor then e else { e with cls := e.assigned } }
  else s

/-- A slot's CKPT_DONE arrives: with those of every working slot the checkpoint is complete (R521). -/
def State.ckptDone (s : State) (step slot : Nat) (crc : W32) : State :=
  match s.dev.surv.ckpt with
  | none => s
  | some k =>
    if k.step ≠ step ∨ (s.dev.seatOfSlot slot).isNone then s
    else
      let k' := { k with done := tput k.done slot crc }
      if s.dev.servedSlots.all fun n => (tfind k'.done n).isSome then
        (s.sealRegistry k.gen).onDev fun d =>
          let d1 := ((d.setRf Reg.survStat 4 4 k.gen).setRf Reg.survStat 5 5 1).setRf Reg.survStat 63 32 k.step
          (d1.onSurv fun v => { v with ckpt := none, fresh := false, manifests := [] }).survEmit 0xB001 .notice [(0, 4, k.step), (4, 1, k.gen)]
      else s.onDev fun d => d.onSurv fun v => { v with ckpt := some k' }

/-! ## The step log and GO (R514 to R516, R532) -/

/-- A step record: its flags and store generation, and the slot losses given (R516). -/
def Device.stepRecord (d : Device) (step flags gen : Nat) (losses : List (Nat × Nat × W32 × W32)) : List Byte :=
  leBytes 4 step ++ leBytes 2 d.rosterEpoch ++ leBytes 2 (d.curEpoch ⟨0, 0⟩).toNat
    ++ leBytes 1 flags ++ leBytes 1 gen ++ List.replicate 6 (0 : Byte)
    ++ ((List.range 8).flatMap fun n =>
      match losses.find? fun l => decide (l.1 = step) && decide (l.2.1 = n) with
      | some l => leBytes 4 l.2.2.1.toNat ++ leBytes 2 l.2.2.2.toNat
      | none => List.replicate 6 (0 : Byte))

/-- A log record at GO (R516). -/
def Device.logRecord (d : Device) (step : Nat) (ckpt replayed : Bool) (losses : List (Nat × Nat × W32 × W32)) : List Byte :=
  d.stepRecord step (ofBool ckpt + ofBool replayed <<< 2) (if ckpt then d.nextGen else 0) losses

/-- The provisional record of an open step: the slot losses the leader has received before its GO (R516). -/
def Device.provisional (d : Device) (step : Nat) : List Byte := d.stepRecord step 2 0 d.surv.losses

/-- GO for a step is held: the record enters the log, a checkpoint step begins, and a verification that succeeded is over
(R515, R516, R519, R532). -/
def Device.takeGo (d : Device) (rec' : List Byte) : Device :=
  let step := leAt rec' 0 4
  let ckpt := bitAt (leAt rec' 8 1) 0
  let d1 := d.onSurv fun v =>
    { v with log := (slice rec' 0 64 :: v.log).take 1024, go := some step
             losses := v.losses.filter fun l => decide (l.1 ≠ step)
             requests := if ckpt then v.requests.filter fun r => decide (step < r) else v.requests
             ckpt := if ckpt then some ⟨step, leAt rec' 9 1, [], []⟩ else v.ckpt
             fresh := v.fresh && !ckpt }
  if d.survMode = 4 ∧ d.surv.verify = some step then
    (d1.onSurv fun v => { v with verify := none, restoring := none, rolled := false, lost := none, expect := [] }).setMode 0
  else d1

/-- The interval of the table odds (R527). -/
def oddsInterval (o : Nat) : Nat :=
  if o < 256 then 600 else if o < 512 then 300 else if o < 1024 then 150 else if o < 2048 then 60 else 20

/-- The largest odds received from a working or spare seat in the last 3 s (R526). -/
def Device.tableOdds (d : Device) : Nat :=
  (d.surv.odds.filter fun o => d.inRoster o.1 && decide (d.clock ≤ o.2.2 + millis 3000)).foldl (fun a o => Nat.max a o.2.1) 0

/-- A new odds band applies at a GO (R527). -/
def Device.applyBand (d0 : Device) : Device :=
  let d := d0.setRf Reg.odds 31 16 d0.tableOdds
  let t := d.rf Reg.odds 31 16
  if oddsInterval t = d.rf Reg.odds 41 32 then d
  else (d.setRf Reg.odds 41 32 (oddsInterval t)).survEmit 0xB00F .notice [(0, 2, t), (2, 2, oddsInterval t)]

/-- RESTORE's body (R541): P, mode (0 fill, 1 rollback), CURRENT for a rollback. -/
def restoreBody (point mode current : Nat) : List Byte := leBytes 4 point ++ leBytes 1 mode ++ leBytes 2 current

/-- What a replayed step is to show: the losses that its log record, or before its GO its provisional record, holds (R532). -/
def Device.expected (d : Device) (step : Nat) : List (Nat × Nat × Nat) :=
  let r := (d.surv.log.find? fun r => decide (leAt r 0 4 = step)).getD (d.provisional step)
  (List.range 8).filterMap fun n =>
    if leAt r (16 + 6 * n) 6 = 0 then none else some (n, leAt r (16 + 6 * n) 4, leAt r (20 + 6 * n) 2)

/-! ## Commands that firmware posts to the mover (R509, R530, R533, R542) -/

/-- Commands enter the mover's ring while it has room; the rest wait (R542). -/
def State.postMove : List (List Byte) → State → State
  | [], s => s.onDev fun d => d.onSurv fun v => { v with moves := [] }
  | c :: r, s =>
    let d := s.dev
    let n := 4 * 2 ^ d.rf Reg.moveRing 3 1
    let t := d.rf Reg.moveRing 38 32
    if d.rbit Reg.moveRing 0 && decide ((t + 1) % n ≠ d.rf Reg.moveRing 46 40) then
      State.postMove r ((s.store (hubStoreAddr (d.rf Reg.moveRing 25 8 * 256 + 32 * t)) c false).onDev fun d =>
        d.setRf Reg.moveRing 38 32 ((t + 1) % n))
    else s.onDev fun d => d.onSurv fun v => { v with moves := c :: r }

/-- Firmware posts what waits to be posted. -/
def State.postMoves (s : State) : State := State.postMove s.dev.surv.moves s

/-- The mover has nothing to do and firmware nothing to post: every copy this seat makes has completed. -/
def Device.movesDone (d : Device) : Bool :=
  d.surv.moves.isEmpty && decide (d.rf Reg.moveRing 38 32 = d.rf Reg.moveRing 46 40)

/-- The manifest of a slot is read from the last complete generation (R517, R530, R533). -/
def Device.manifestMove (d : Device) (n : Nat) : List Byte :=
  moveCmd 2 0 (d.storeAddr (d.rf Reg.survStat 4 4) n 0) (bufferAddr (2 + n)) 65536

/-- A tensor comes from the last complete generation of a slot, where it stands at an address of the state window (R517, R533). -/
def Device.storeMove (d : Device) (n from' : Nat) (e : RegEntry) : List Byte :=
  moveCmd 2 0 (d.storeAddr (d.rf Reg.survStat 4 4) n (65536 + (from' - d.rf Reg.stateBase 51 21 * 2 ^ 21))) e.base e.bytes

/-- Static tensors of this seat come from the store, with the manifest that gives their CRCs (R530). -/
def Device.staticMoves (d : Device) (n : Nat) (es : List RegEntry) : List (List Byte) :=
  if es.isEmpty then [] else d.manifestMove n :: es.map fun e => d.storeMove n e.base e

/-- The copies that this seat makes when slot n is filled (R530): the promoted seat those of its static tensors, the buddy those of the
shadows it hosts and of its cluster state, and the owner of slot b⁻¹(n) those of the shadows the promoted seat is to host. -/
def Device.fillMoves (d : Device) (n : Nat) : List (List Byte) :=
  let k := d.rf Reg.survCtl 3 1
  match d.slotOf d.seat, d.seatOfSlot n with
  | some own, some t =>
    if own = n then d.staticMoves n (d.ownEntries.filter fun e => decide (e.assigned = 1))
    else
      (if own = (n + k) % d.slots then
        ((d.surv.registry.filter fun e => decide (e.slot = n)).map fun e => moveCmd 0 t e.base (farAddr t e.tensor) e.bytes)
          ++ [moveCmd 0 t (bufferAddr 0) (bufferAddr (16 + t)) 65536]
      else []) ++ (if (own + k) % d.slots = n then d.shadowMoves t else [])
  | _, _ => []

/-- The copies that a rollback starts at this seat: the manifests of its slot and of the owners of the shadows it hosts, and every tensor
of its slot of classes 1 to 3 (R533). -/
def Device.rollbackMoves (d : Device) : List (List Byte) :=
  match d.slotOf d.seat with
  | none => []
  | some own =>
    let slots := (d.surv.registry.map fun e => e.slot).foldl sinsert [own]
    slots.map d.manifestMove ++ (d.ownEntries.filter fun e => decide (e.assigned ≠ 0)).map fun e => d.storeMove own e.base e

/-! ## Restoring (R529 to R535) -/

/-- Registers of a cluster that a checkpoint saves (R521). -/
def savedOffset (off : Nat) : Bool :=
  decide (off = 0x10) || decide (off = 0x18) || decide (off = 0x28) || decide (0x80 ≤ off ∧ off < 0xA0)
    || decide (0x100 ≤ off ∧ off < 0x300) || decide (0x400 ≤ off ∧ off < 0x600) || decide (0x800 ≤ off ∧ off < 0x1800)
    || decide (0x3000 ≤ off ∧ off < 0x5000) || decide (0x6000 ≤ off ∧ off < 0xE000)

/-- A cluster whose registers differ from reset. -/
def Device.clusterUsed (d : Device) (cl : ClusterId) : Bool :=
  d.regs.any fun r => match blockAt r.1 with
    | some (.cluster x c, _) => decide (x = cl.die) && decide (c = cl.cluster)
    | _ => false

/-- The cluster state a checkpoint saves, by address: registers, streak counts and the map areas of valid layers (R521); with CURRENT,
which an install takes from its source (R531). -/
def State.savedState (s : State) : List (Nat × Nat) :=
  let regs := s.dev.regs.filterMap fun r => match blockAt r.1 with
    | some (.cluster _ _, off) => if savedOffset off || decide (off = 0x20) then some (r.1, r.2.toNat) else none
    | _ => none
  let used := allClusters.filter s.dev.clusterUsed
  let streaks := used.flatMap fun cl => ((s.dev.cluster cl).wc.filter fun p => decide (0x100 ≤ p.1) && decide (p.1 < 0x300)).map fun p =>
    (clusterStoreAddr cl.die cl.cluster (0x7F_0000 + 8 * p.1), p.2.toNat)
  let maps := used.flatMap fun cl => (List.range 256).flatMap fun n =>
    if s.dev.layerValid cl 0 n then
      let a := s.dev.mapBase cl 0 n
      let b := s.dev.mapBlocks cl 0 n
      (List.range (candOff b + 4 * b)).map fun i => (a + i, (s.byte (a + i)).toNat)
    else []
  regs ++ streaks ++ maps

/-- A map area that is saved holds poison. -/
def State.stateDirty (s : State) : Bool :=
  (allClusters.filter s.dev.clusterUsed).any fun cl => (List.range 256).any fun n =>
    s.dev.layerValid cl 0 n && s.poisoned (s.dev.mapBase cl 0 n) (candOff (s.dev.mapBlocks cl 0 n) + 4 * s.dev.mapBlocks cl 0 n)

/-- A fill of slot n begins at this seat: the buddy lays its cluster state out in a buffer, and the copies are posted (R530). -/
def State.startFill (s : State) (n : Nat) : State :=
  let s1 := if s.dev.slotOf s.dev.seat = some ((n + s.dev.rf Reg.survCtl 3 1) % s.dev.slots) ∧ s.dev.slotOf s.dev.seat ≠ some n then
      s.store (bufferAddr 0) (slice (Config.stateBytes s.savedState) 0 65536) s.stateDirty
    else s
  (s1.onDev fun d => d.addMoves (d.fillMoves n)).postMoves

/-- RESTORE arrives: STEP_ABANDONED, and a fill or a rollback to the last complete checkpoint begins (R529, R530, R533 to
R535). -/
def State.restore (s : State) (point mode current : Nat) : State :=
  let s1 := s.onDev fun d =>
    (d.onSurv fun v => { v with restoring := some (point, mode), filled := [], expect := d.expected (point + 1), losses := []
                                go := some point, current := current, forced := false, voidLost := false, manifests := []
                                rolled := decide (mode ≠ 0) }).survEmit 0xB00E .notice [(4, 4, point + 1)]
  if mode = 0 then
    match s.dev.surv.lost with
    | some (n, _) =>
      (s1.onDev fun d =>
        let d1 := d.setMode 2
        if d.slotOf d.seat = some n then d1.survEmit 0xB006 .notice [(0, 1, n), (1, 1, d.seat), (4, 4, point)] else d1).startFill n
    | none => s1.onDev fun d => d.setMode 2
  else if s.dev.rbit Reg.survStat 5 = false ∨ s.dev.rbit Reg.ckptStore 0 = false then
    s1.onDev fun d => (d.setMode 1).survEmit 0xB00C .deferred [(0, 1, 2)]
  else
    (s1.onDev fun d =>
      ((d.onSurv fun v => { v with fresh := true, ckpt := none, lostNext := [], moves := d.rollbackMoves }).setMode 3).survEmit 0xB00B
        .deferred [(4, 4, point)]).postMoves

/-- The largest CURRENT of this seat's clusters. -/
def Device.topEpoch (d : Device) : Nat :=
  allClusters.foldl (fun a cl => let e := (d.curEpoch cl).toNat; if epochAfter e a then e else a) (d.curEpoch ⟨0, 0⟩).toNat

/-- The CURRENT a rollback takes: 2 plus the largest of the kept seats; how the leader knows that of the others the manual leaves open (R533,
log 101). -/
def Device.rollbackEpoch (d : Device) : Nat :=
  let own := d.topEpoch
  let far := (Config.keptEpoch d.fresh).toNat
  ((if d.members.all (fun t => decide (t = d.seat)) || !(epochAfter far own) then own else far) + 2) % 65536

/-- The leader sends RESTORE to every kept seat and restores itself (R529). -/
def State.orderRestore (s : State) (point mode : Nat) : State :=
  let e := if mode = 0 then 0 else s.dev.rollbackEpoch
  (s.onDev fun d => d.members.foldl (fun (d : Device) t =>
    if t = d.seat then d else d.firmwareMessage t 0x45 (restoreBody point mode e)) d.takeFresh).restore point mode e

/-- The replayed step's slot losses against the record: 0 equal, 1 unequal with the first such slot, 2 nothing to compare
(R532). -/
def Device.compareLosses (d : Device) (step : Nat) : Nat × Nat × Nat :=
  let got := fun n : Nat => (d.surv.losses.find? fun l => decide (l.1 = step) && decide (l.2.1 = n)).map fun l =>
    (l.2.2.1.toNat, l.2.2.2.toNat % 65536)
  let rows := d.surv.expect.filter fun e => (got e.1).isSome
  match rows.find? fun e => decide (got e.1 ≠ some e.2) with
  | some e => (1, e.1, rows.length)
  | none => if rows.isEmpty then (2, 0, 0) else (0, 0, rows.length)

/-- The leader sends GO for a step (R515). -/
def Device.sendGo (d : Device) (step : Nat) (replayed : Bool) : Device :=
  let d1 := d.applyBand
  let rec' := d1.logRecord step (d1.isCkptStep step) replayed d1.surv.losses
  let d2 := d1.members.foldl (fun (d : Device) s => if s = d.seat then d else d.firmwareMessage s 0x41 rec') d1
  d2.takeGo rec'

/-- The replayed step is verified at its GO: the fill stands, is unchecked, or the table rolls back; after a rollback a mismatch
is fatal and the table stays halted (R532, R534). -/
def State.verifyGo (s : State) (step : Nat) : State :=
  match s.dev.compareLosses step with
  | (0, _, n) => s.onDev fun d => (d.survEmit 0xB008 .notice [(4, 4, step), (8, 1, n)]).sendGo step true
  | (2, _, _) => s.onDev fun d => (d.survEmit 0xB009 .notice [(4, 4, step)]).sendGo step true
  | (_, slot, _) =>
    if s.dev.surv.rolled then s.onDev fun d => (d.survEmit 0xB00A .fatal [(4, 4, step), (8, 1, slot)]).setMode 1
    else (s.onDev fun d => d.survEmit 0xB00A .deferred [(4, 4, step), (8, 1, slot)]).orderRestore (s.dev.rf Reg.survStat 63 32) 1

/-- The leader records a slot loss, and sends GO once every working slot has reported (R515, R516, R535). -/
def State.slotLoss (s : State) (slot step : Nat) (sum crc : W32) : State :=
  let d := s.dev
  if !(d.leads) || (d.seatOfSlot slot).isNone then s
  else
    let s1 := s.onDev fun d => d.onSurv fun v =>
      { v with losses := (v.losses.filter fun l => !(decide (l.1 = step) && decide (l.2.1 = slot))) ++ [(step, slot, sum, crc)] }
    let all := d.servedSlots.all fun n => s1.dev.surv.losses.any fun l => decide (l.1 = step) && decide (l.2.1 = n)
    if !all || decide (d.survMode = 1) || decide (d.survMode = 2) || decide (d.survMode = 3) || decide (d.survMode = 5) then s1
    else if d.survMode = 4 ∧ d.surv.verify = some step then s1.verifyGo step
    else s1.onDev fun d => d.sendGo step false

/-! ## Halt and restore point (R528, R529, R535) -/

/-- Every running launch of pass kind forward or backward ends as a time limit ends one, and none of its parts starts again (R440, R528). -/
def Device.haltLaunches (d : Device) : Device :=
  (d.entries.filter fun e => decide (e.op = 1) && decide (e.phase = .running) && (decide (e.pass = 1) || decide (e.pass = 2))).foldl
    (fun (d : Device) e =>
      let cs := e.cores.filter fun c => d.worksFor c e && (d.core c).run.active
      let again := d.surv.relaunch.filter fun r => decide (r.fn = e.fn ∧ r.queue = e.queue ∧ r.slot = e.slot)
      if cs.isEmpty && again.isEmpty then d
      else ((cs.foldl (fun (d : Device) c => d.cutCore c) d).onSurv fun v =>
        { v with relaunch := v.relaunch.filter fun r => !(again.contains r) }).setEntry { e with limited := true }) d

/-- CORE.PASS_STAT is 0 on every compute core (R528): its reset value. -/
def Device.clearPassStat (d : Device) : Device :=
  { d with regs := d.regs.filter fun r => match blockAt r.1 with
      | some (.core _ _ k, 0x40) => decide (k = 0x22)
      | _ => true }

/-- The hot and candidate maps of a cluster's layers are cleared (R188, R528). -/
def State.clearMaps (s : State) (cl : ClusterId) : State :=
  (List.range 256).foldl (fun (s : State) n =>
    if s.dev.layerValid cl 0 n then
      let b := s.dev.mapBlocks cl 0 n
      s.store (s.dev.mapBase cl 0 n + hotOff b) (List.replicate (candOff b - hotOff b + 4 * b) 0) false
    else s) s

/-- The step that is open: the largest that a cluster of this seat shows (R529). -/
def Device.openStep (d : Device) : Nat := allClusters.foldl (fun a cl => Nat.max a (d.rf (Reg.wcStep cl) 31 0)) 0

/-- The table halts: launches end, scorecards are abandoned, PASS_STAT and maps are cleared, and HALTED goes to the leader
(R528). -/
def State.halt (s : State) (slot : Nat) : State :=
  let s1 := s.onDev fun d => ((d.setMode 1).haltLaunches).onSurv fun v =>
    { v with halted := [], haltAt := d.clock, lost := some (slot, d.openStep), restoring := none }
  let s2 := (allClusters.filter s.dev.clusterUsed).foldl (fun (s : State) cl =>
    (s.onDev fun d => d.writeWcAbandon cl 1).clearMaps cl) s1
  s2.onDev fun d =>
    let d1 := d.clearPassStat
    if d1.leads then d1.onSurv fun v => { v with halted := [d1.seat] }
    else if d1.leaderNow = 0xF then d1
    else d1.firmwareMessage d1.leaderNow 0x44 (leBytes 2 d1.rosterEpoch)

/-- What the lost slot holds: whether a changing tensor, and whether one of shadow class. The seat that serves it now has its registry; how
another learns it the manual leaves open (R529, log 93). -/
def Device.lostHolds (d : Device) (slot : Nat) : Bool × Bool :=
  if d.slotOf d.seat = some slot then
    (d.ownEntries.any fun e => decide (e.assigned = 2), d.ownEntries.any fun e => decide (e.assigned = 3))
  else
    let x := (Config.lostState d.fresh slot).toNat
    (bitAt x 0, bitAt x 1)

/-- The restore is a rollback (R529, R535): the slot holds a changing tensor, as its shadow-class ones are where they shared their buddy's
feed or their shadows are void; or a fill source is missing. -/
def Device.mustRollBack (d : Device) (slot : Nat) : Bool :=
  let buddy := d.seatOfSlot ((slot + d.rf Reg.survCtl 3 1) % d.slots)
  let x := d.lostHolds slot
  d.surv.forced || decide (d.slots ≤ 1) || buddy.isNone || x.1 || (x.2 && d.surv.voidLost)

/-- HALTED from every kept seat: the leader chooses the restore point and the mode (R529). -/
def State.chooseRestore (s : State) : State :=
  let d := s.dev
  match d.surv.lost with
  | none => s
  | some (slot, n) =>
    if !(d.leads) || !(d.members.all fun s => d.surv.halted.contains s) || decide (d.survMode ≠ 1) then s
    else if d.mustRollBack slot then s.orderRestore (d.rf Reg.survStat 63 32) 1
    else s.orderRestore (if d.surv.go = some n then n else (n + 0xFFFF_FFFF) % 2 ^ 32) 0

/-- A seat sent HALTED. -/
def State.seatHalted (s : State) (seat epoch : Nat) : State :=
  if s.dev.leads && decide (epoch = s.dev.rosterEpoch) then
    (s.onDev fun d => d.onSurv fun v => { v with halted := sinsert v.halted seat }).chooseRestore
  else s

/-- The lowest slot that no seat serves. -/
def Device.unserved (d : Device) : Option Nat := (List.range d.slots).find? fun m => (d.seatOfSlot m).isNone

/-- After a halt: with an unserved slot MODE is no spare and NO_SPARE is emitted; else the leader chooses the restore (R529, R535). -/
def State.afterHalt (s : State) : State :=
  match s.dev.unserved with
  | some m => s.onDev fun d => (d.setMode 5).survEmit 0xB00D .deferred [(0, 1, m)]
  | none => s.chooseRestore

/-- The first restore that waits begins (R535). -/
def State.nextLoss (s : State) : State :=
  match s.dev.surv.lostNext with
  | [] => s
  | n :: r => ((s.onDev fun d => d.onSurv fun v => { v with lostNext := r }).halt n).afterHalt

/-- What a commit makes of the restores that are due: slots lost, or served anew, wait for theirs, and so does one whose restore has not
begun; `forced`, `voided`: the restore must be a rollback, or must where shadows count (R529, R535). -/
def Surv.owe (v : Surv) (slots : List Nat) (forced voided : Bool) : Surv :=
  let begun := match v.lost, v.restoring with
    | some (a, _), none => [a]
    | _, _ => []
  { v with lostNext := (begun ++ v.lostNext ++ slots).foldl sinsert [], forced := v.forced || forced, voidLost := v.voidLost || voided }

/-- What survival does at a roster commit: K and correlations follow, the registry is read, the loss of a seat fails the checkpoint, and
that of a working seat halts the table; without a spare the slot is unserved; a loss that does not touch a fill under way waits for its
end; a slot served anew is restored once every slot is served (R508, R509, R513, R522, R528, R535). `lost`: the slots of working seats that
the commit lost; `again`: slots that are served again. -/
def State.survivalCommit (s : State) (old : Device) (lost again : List Nat) : State :=
  let k := old.rf Reg.survCtl 3 1
  let w := old.slots
  let s1 := ((s.onDev Device.buddyUpdate).readRegistry).onDev fun d =>
    if !lost.isEmpty || (List.range 9).any (fun t => old.inRoster t && decide (d.rosterState t = 3)) then d.ckptAbort 2 else d
  if lost.isEmpty ∧ again.isEmpty = true then (s1.onDev fun d => d.setMode d.survMode).postMoves
  else
    let mode := s.dev.survMode
    let touches := match s.dev.surv.lost with
      | some (a, _) => lost.any fun m => decide (m = a) || decide (m = (a + k) % w) || decide (a = (m + k) % w)
      | none => true
    let both := (lost.any fun a => lost.contains ((a + k) % w)) || (decide (mode = 2) && touches) || decide (mode = 3)
    let voided := (lost.any old.correlated) || decide (s1.dev.rf Reg.survCtl 3 1 ≠ k)
    let s2 := (s1.onDev fun d => d.onSurv fun v => v.owe (lost ++ again) both voided).postMoves
    if mode = 2 ∧ both = false then s2.onDev fun d => d.setMode 2
    else if lost.isEmpty ∧ s2.dev.unserved.isSome = true then s2.onDev fun d => d.setMode 5
    else s2.nextLoss

/-! ## Fill and resumption (R531, R532) -/

/-- RESUME arrives: MODE is verifying (R532). -/
def Device.resume (d : Device) (point : Nat) : Device :=
  (d.onSurv fun v => { v with verify := some (point + 1) }).setMode 4

/-- A byte of the streak counts of a cluster, or of the map area of a layer that is valid (R521). -/
def Device.savedByte (d : Device) (a : Nat) : Bool :=
  (match regionOf a with
   | (.clusterStore _ _, o) => decide (0x7F_0800 ≤ o) && decide (o < 0x7F_1800)
   | _ => false)
  || allClusters.any fun cl => (List.range 256).any fun n =>
    let b := d.mapBlocks cl 0 n
    d.layerValid cl 0 n && decide (d.mapBase cl 0 n ≤ a) && decide (a < d.mapBase cl 0 n + candOff b + 4 * b)

/-- Where the install of R531 leaves a cluster beside what was saved: STEP is P + 1, CURRENT that of the source with PRIOR and NEXT on
either side, the next generation a copy of the current one, ENABLE 1, and the open bank empty. -/
def Device.installCluster (d : Device) (point current : Nat) (cl : ClusterId) : Device :=
  let d1 := d.setRegN (Reg.wcEpoch cl) (current % 65536 + ((current + 65535) % 65536) <<< 16 + ((current + 1) % 65536) <<< 32)
  let d2 := ((d1.setRegN (Reg.wcStat cl) 0).nextCopied cl).setRf (Reg.wcCtl cl) 0 0 1
  (d2.setRf (Reg.wcStep cl) 31 0 (point + 1)).writeWcAbandon cl 1

/-- What a checkpoint saves of the clusters is at reset: an install leaves nothing of the seat's own. -/
def Device.clearSaved (d : Device) : Device :=
  { d with
    regs := d.regs.filter fun r => match blockAt r.1 with
      | some (.cluster _ _, off) => !(savedOffset off)
      | _ => true
    clusters := d.clusters.map fun p => (p.1, { p.2 with wc := p.2.wc.filter fun x => decide (x.1 < 0x100) || decide (0x300 ≤ x.1) }) }

/-- The width-control state is installed in every cluster: the registers, streak counts and map areas saved, in a rollback as the manifest
that was read holds them, in a fill as the buddy seat sent them into this seat's buffer, CURRENT with them (R530, R531, R533). -/
def State.install (s : State) (point : Nat) : State :=
  let v := s.dev.surv
  let m := tget v.manifests [] ((s.dev.slotOf s.dev.seat).getD 0)
  let back := decide (v.restoring.map Prod.snd = some 1)
  let saved := Config.savedState
    (if back then slice m (64 + 64 * (leAt m 16 2 + leAt m 18 2)) 65532 else (s.load (bufferAddr 1) 65536).1)
  let s1 := s.onDev fun d => saved.1.foldl (fun (d : Device) w => match blockAt w.1 with
    | some (.cluster _ _, off) => if savedOffset off then d.setRegN w.1 w.2 else d
    | _ => d) d.clearSaved
  let s2 := saved.2.foldl (fun (s : State) b => if s1.dev.savedByte b.1 then s.store b.1 [b.2] false else s) s1
  let current := fun cl => if back then v.current else bitsOf (tget saved.1 0 (Reg.wcEpoch cl)) 15 0
  s2.onDev fun d => allClusters.foldl (fun (d : Device) cl => if clusterPresent cl then d.installCluster point (current cl) cl else d) d

/-- FILL_DONE at the seat that fills: its clusters stand at step P + 1, and it reports (R530, R531). -/
def State.fillOwn (s : State) (slot point : Nat) : State :=
  (s.install point).onDev fun d =>
    let d1 := d.survEmit 0xB007 .notice [(0, 1, slot), (4, 4, point)]
    let d2 := { d1 with host := { d1.host with masks := [] } }
    if d2.leads ∨ d2.leaderNow = 0xF then d2 else d2.firmwareMessage d2.leaderNow 0x46 (leBytes 1 slot ++ leBytes 4 point)

/-- FILL_DONE at the leader: it sends RESUME, after a fill with the promoted seat's, after a rollback with that of every working slot
(R532, R533). -/
def State.fillTaken (s : State) (slot point : Nat) : State :=
  let d := s.dev
  if !(d.leads) || d.surv.restoring.isNone then s
  else
    let filled := sinsert d.surv.filled slot
    let s1 := s.onDev fun d => d.onSurv fun v => { v with filled := filled }
    let done := match d.surv.restoring with
      | some (_, 1) => d.servedSlots.all fun n => filled.contains n
      | _ => true
    if done then
      (s1.onDev fun d => (d.members.foldl (fun (d : Device) t =>
        if t = d.seat then d else d.firmwareMessage t 0x47 (leBytes 4 point)) d).resume point).nextLoss
    else s1

/-- FILL_DONE (R530 to R533); this seat's own comes once every copy that it makes has completed. -/
def State.fillDone (s : State) (slot point : Nat) : State :=
  let own := decide (s.dev.slotOf s.dev.seat = some slot) && (decide (s.dev.survMode = 2) || decide (s.dev.survMode = 3))
  if own && !(s.dev.movesDone) then s else (if own then s.fillOwn slot point else s).fillTaken slot point

/-! ## The odds (R526, R527) -/

/-- seat_odds of R526: the six scores, memory first, and the odds. -/
def seatOdds (mem link parity stretch margin reserve w ref : Nat) : List Nat × Nat :=
  let score := fun c sh : Nat => Nat.min 255 ((256 * c) >>> sh)
  let th := bitsOf ref 27 20
  let ss := [score mem (bitsOf ref 4 0), score link (bitsOf ref 9 5), score parity (bitsOf ref 14 10),
    score stretch (bitsOf ref 19 15), (if th = 0 ∨ th ≤ margin then 0 else Nat.min 255 (256 * (th - margin) / th)),
    Nat.min 255 (128 * reserve)]
  (ss, ((List.range 6).map fun i => bitsOf w (4 * i + 3) (4 * i) * ss.getD i 0).sum)

/-- What the last second added to the counts: the counters are read and cleared (R9, R526). -/
def Device.oddsSample (d : Device) : Device × (Nat × Nat × Nat × Nat) :=
  let chans := (List.range 384).map fun c => Reg.errCnt (c / 48) (c % 48)
  let ports := (List.range 16).map Reg.linkCnt
  let stats := d.chutes.map fun p => p.1 + 8
  let total := fun (os : List Nat) (f : Nat → Nat) => (os.map fun o => if (tfind d.regs o).isSome then f (d.regN o) else 0).sum
  let mem := total chans fun v => bitsOf v 15 0 + bitsOf v 31 16
  let link := total ports fun v => bitsOf v 15 0
  let parity := total stats fun v => bitsOf v 31 16
  let d1 := (chans ++ ports ++ stats).foldl (fun (d : Device) o => if (tfind d.regs o).isSome then d.clearRc o else d) d
  (d1, (mem, link, parity, d.rf (Reg.dbgCnt 4) 47 0))

/-- The largest number of reserve cores in service in a cluster. -/
def Device.reservesUsed (d : Device) : Nat :=
  (d.clusters.map fun p => (p.2.positions.filter fun k => decide (0x20 ≤ k)).length).foldl Nat.max 0

/-- The leader takes a seat's odds: the table odds are the largest of the last 3 s (R526). -/
def Device.takeOdds (d : Device) (seat v : Nat) : Device :=
  if !(d.leads) then d
  else
    let os := (seat, v, d.clock) :: d.surv.odds.filter fun o => decide (o.1 ≠ seat)
    let d1 := d.onSurv fun x => { x with odds := os }
    d1.setRf Reg.odds 31 16 d1.tableOdds

/-- Once a second a seat computes its odds and sends them to the leader (R526). -/
def Device.oddsTimer (d : Device) : Device :=
  let r := d.oddsSample
  let cs := (r.2 :: d.surv.counts).take 60
  let sum := fun f : Nat × Nat × Nat × Nat → Nat => (cs.map f).sum
  let first := (d.surv.counts.getD 59 (0, 0, 0, 0)).2.2.2
  let o := seatOdds (sum fun c => c.1) (sum fun c => c.2.1) (sum fun c => c.2.2.1) (r.2.2.2.2 - first)
    (d.rf Reg.thermStat 31 24) d.reservesUsed (d.regN Reg.oddsW) (d.regN Reg.oddsRef)
  let d1 := (r.1.onSurv fun v => { v with counts := cs }).setRf Reg.odds 15 0 o.2
  if d1.leads then d1.takeOdds d1.seat o.2
  else if d1.rosterEpoch = 0 ∨ d1.leaderNow = 0xF then d1
  else d1.firmwareMessage d1.leaderNow 0x43 (leBytes 2 o.2 ++ o.1.flatMap fun s => leBytes 1 s)

/-! ## Requests for checkpoints (R436, R437, R519) -/

/-- A CHECKPOINT entry is recorded at the leader, or forwarded to it. -/
def Device.recordRequest (d : Device) (step : Nat) : Device :=
  if d.leads ∨ d.rosterEpoch = 0 then d.onSurv fun v => { v with requests := sinsert v.requests step }
  else if d.leaderNow = 0xF then d
  else d.firmwareMessage d.leaderNow 0x48 (leBytes 4 step)

/-- The next step to get its GO. -/
def Device.nextStep (d : Device) : Nat :=
  match d.surv.go with
  | some g => g + 1
  | none => 0

/-- A CHECKPOINT entry completes once its request is recorded; RESULT is the low half of the step chosen (R437, R519). Where that is not
decided yet, at a seat that does not lead or while a checkpoint is incomplete, how far it lies is a free value (log 99). -/
def Device.checkpointEntry (d : Device) (e : Entry) : Device :=
  let asked := e.c % 2 ^ 32
  let first := if asked = 0 then d.nextStep else Nat.max asked d.nextStep
  let open' := d.surv.ckpt.isSome || !(d.leads || decide (d.rosterEpoch = 0))
  let chosen := first + (if open' then Config.ckptDelay d.fresh else 0)
  (d.takeFresh.recordRequest asked).complete e 0 (chosen % 65536) 0

/-! ## The mover (R542) -/

/-- The mover's command at the head of its ring: hub-store offset, 32 bytes and their poison; none: nothing to do. -/
def State.moverHead (s : State) : Option (Nat × List Byte × Bool) :=
  let d := s.dev
  if !(d.rbit Reg.moveRing 0) || decide (d.rf Reg.moveRing 38 32 = d.rf Reg.moveRing 46 40) then none
  else
    let o := d.rf Reg.moveRing 25 8 * 256 + 32 * d.rf Reg.moveRing 46 40
    some (o, s.load (hubStoreAddr o) 32)

/-- The command completes: HEAD advances, and an error counts (R542). -/
def Device.moverNext (d : Device) (bad : Bool) : Device :=
  let n := 4 * 2 ^ d.rf Reg.moveRing 3 1
  let d1 := d.setRf Reg.moveRing 46 40 ((d.rf Reg.moveRing 46 40 + 1) % n)
  if bad then d1.addRf Reg.moveRing 63 48 1 else d1

/-- The mover consumes poisoned data (R36); a command has no operation tag, so each one reports (log 203). -/
def Device.moverConsumed (d : Device) (p : Bool) : Device :=
  if p then d.emit (srcHub 0x3F 0) (Config.poisonCode 0x3F).toNat .deferred true [] else d

/-- A mover command of an OP is carried out; a poisoned one and one with a reserved OP end in error (DESIGN CHOICE, log 197). -/
def State.mover (s0 : State) (op : Nat) (f : State → Nat → List Byte → State) : State :=
  let s := s0.postMoves
  match s.moverHead with
  | none => s
  | some (o, c, p) =>
    if p then s.onDev fun d => (d.moverConsumed true).moverNext true
    else if 3 ≤ leAt c 0 1 then s.onDev fun d => d.moverNext true
    else if leAt c 0 1 ≠ op then s
    else if leAt c 24 8 % 256 ≠ 0 then s.onDev fun d => d.moverNext true
    else (f s o c).postMoves

/-- A write of a block at a seat: a memory request on survival VC hop 0, its inner header naming the memory-controller group of the
address (R354, R359, R365, R469, R542). -/
def Device.seatWrite (d : Device) (t a i : Nat) (bs : List Byte) (p : Bool) : Device :=
  let c := (place a).1
  let h : Header := { messageHdr 0xFF (8 + bs.length) with
    dstDie := .ofNat 4 (c / 48), dstCluster := .ofNat 4 (groupCluster (c % 48 / 4)), dstUnit := 0x21, poison := p, opTag := .ofNat 16 i }
  d.sendToSeat t 3 h (leBytes 8 (a + 1 <<< 52) ++ bs)

/-- The copy of a tensor to a new buddy has completed: it is of shadow class again (R509). -/
def Device.copyDone (d : Device) (a : Nat) : Device :=
  d.onSurv fun v =>
    let es := d.ownEntries.filter fun e => decide (e.base = a) && v.voided.contains e.tensor
    { v with registry := v.registry.map fun e => if es.contains e then { e with cls := e.assigned } else e
             voided := v.voided.filter fun t => !(es.any fun e => decide (e.tensor = t)) }

/-- Seat to seat: the bytes leave in blocks of 256 over both direct ports. -/
def State.moveSeat (s : State) (c : List Byte) : State :=
  let t := leAt c 1 1
  let a := leAt c 8 8
  let b := leAt c 16 8
  let n := leAt c 24 8
  if 9 ≤ t ∨ t = s.dev.seat ∨ (n ≠ 0 ∧ s.presentRange a n = false) then s.onDev fun d => d.moverNext true
  else
    s.onDev fun d => (((List.range (n / 256)).foldl (fun (d : Device) i =>
      let r := s.load (a + 256 * i) 256
      d.seatWrite t (b + 256 * i) i r.1 r.2) (d.moverConsumed (decide (n ≠ 0) && s.poisoned a n))).copyDone a).moverNext false

/-- Device to store: the bytes go to host memory with their poison, and their CRC-32C into the command, poisoned where one of them is
(R35, R542). A write that fails makes the checkpoint fail (R518, R522). -/
def State.moveOut (s : State) (o : Nat) (c : List Byte) (writeError : Bool) : State :=
  let a := leAt c 8 8
  let n := leAt c 24 8
  if n ≠ 0 ∧ s.presentRange a n = false then s.onDev fun d => d.moverNext true
  else
    let r := s.load a n
    let s1 := s.onDev fun d => (d.moverConsumed r.2).writeRuns 0 none (leAt c 16 8) (s.loadRuns a n)
    let s2 := s1.store (hubStoreAddr (o + 4)) (leBytes 4 (crc32c r.1)) r.2
    s2.onDev fun d => if writeError then (d.ckptAbort 0).moverNext true else d.moverNext false

/-- A manifest's CRC stands in its last 4 bytes (R523). -/
def manifestOk (m : List Byte) : Bool := decide (m.length = 65536) && decide (crc32c (m.take 65532) = leAt m 65532 4)

/-- The entry that a manifest holds for a tensor, by its offset; none: it names no such tensor of the slot it is of (R510, R523). -/
def manifestEntry (m : List Byte) (tensor : Nat) : Option Nat :=
  ((List.range (leAt m 16 2)).map fun i => 64 + 64 * i).find? fun o => decide (leAt m o 4 = tensor) && decide (leAt m (o + 4) 1 = leAt m 6 1)

/-- The CRC that the manifest of a tensor's slot gives for it; none: the manifest was not read, or names no such tensor (R530, R533). -/
def Device.manifestCrc (d : Device) (a n : Nat) : Option Nat :=
  match d.surv.registry.find? fun e => decide (e.base = a) && decide (e.bytes = n) with
  | none => none
  | some e =>
    let m := tget d.surv.manifests [] e.slot
    (manifestEntry m e.tensor).map fun o => leAt m (o + 36) 4

/-- The slot whose manifest of the last complete generation stands at a host address (R517). -/
def Device.manifestSlot (d : Device) (x n : Nat) : Option Nat :=
  if n = 65536 then (List.range 8).find? fun k => decide (x = d.storeAddr (d.rf Reg.survStat 4 4) k 0) else none

/-- The manifest of a slot has been read: it is kept, and in a rollback the shadows that this seat hosts of that slot follow from the
owner's place in the store (R533). -/
def State.takeManifest (s : State) (k : Nat) (m : List Byte) : State :=
  (s.onDev fun d =>
    let d1 := d.onSurv fun v => { v with manifests := tput v.manifests k m }
    if d.survMode ≠ 3 ∨ d.slotOf d.seat = some k then d1
    else d1.addMoves ((d.surv.registry.filter fun e => decide (e.slot = k)).filterMap fun e =>
      (manifestEntry m e.tensor).map fun o => d.storeMove k (leAt m (o + 8) 8) e)).postMoves

/-- A fill source fails: a rollback ends with ROLLBACK_FAIL, cause 0 CRC or 1 store read, and a fill becomes a rollback, which the leader
orders; another seat stops its fill and stays halted (R518, R533, R535; log 204). -/
def State.sourceFails (s : State) (cause : Nat) : State :=
  let stop := fun d : Device => (d.onSurv fun v => { v with moves := [], restoring := none }).setMode 1
  if s.dev.survMode = 3 then s.onDev fun d => (stop d).survEmit 0xB00C .deferred [(0, 1, cause)]
  else if s.dev.survMode ≠ 2 then s
  else if s.dev.leads then s.orderRestore (s.dev.rf Reg.survStat 63 32) 1
  else s.onDev stop

/-- Store to device: a read that fails is a lost fill source; in a rollback it ends the rollback (R518, R533, R535). A manifest of the last
complete generation is checked by its own CRC and kept, and a tensor is checked by the CRC that its manifest gives (R530, R533). -/
def State.moveIn (s : State) (c : List Byte) (src : HostRead) : State :=
  let s0 := s.onDev fun d => d.received (hostLength src)
  match src with
  | .data bs q =>
    let p := !q.isEmpty
    let a := leAt c 16 8
    let n := leAt c 24 8
    if n ≠ 0 ∧ s.presentRange a n = false then s0.onDev fun d => d.moverNext true
    else
      let s1 := if p then s0.onDev fun d => d.poisonFromHost 0 0 a else s0
      let got := slice bs 0 n
      let s2 := (s1.store a got p).onDev fun d => d.moverNext false
      match s.dev.manifestSlot (leAt c 8 8) n with
      | some k => if manifestOk got then s2.takeManifest k got else s2.sourceFails 0
      | none => match s.dev.manifestCrc a n with
        | some v => if v = crc32c got then s2 else s2.sourceFails 0
        | none => s2
  | _ => (s0.onDev fun d => d.moverNext true).sourceFails 1

/-! ## This seat's slot loss (R514, R524) -/

/-- The 128 FP32 LOSS fields of layer LOSS_LAYER in the open scorecards of the seat's clusters, in the order 16 × die + cluster. -/
def Device.lossFields (d : Device) : List Nat :=
  allClusters.map fun cl => (d.cluster cl).scGet (d.openBank cl) (d.rf Reg.survCtl 15 8) 28 4

/-- SUM of a slot loss: cfu_dot over the fields (R169, R514). -/
def lossSum (fields : List Nat) : W32 :=
  let e := cfuDot (fields.map fun w => elOf w false)
  BitVec.ofNat 32 (toFp32 .nearest e.neg0 e.v).1

/-- The CRC of a slot loss: over the fields' 512 bytes. -/
def lossCrc (fields : List Nat) : W32 := BitVec.ofNat 32 (crc32c (fields.flatMap fun w => leBytes 4 w))

/-- The registry shows a tensor of this seat's slot as shadow class. -/
def Device.isShadow (d : Device) (tensor : Nat) : Bool :=
  d.surv.registry.any fun e => decide (e.tensor = tensor) && decide (d.slotOf d.seat = some e.slot) && decide (d.classOf e = 3)

/-- An ADD of a shadow-class tensor waits in a wire ring: its sum has not been sent. -/
def State.shadowWaits (s : State) : Bool :=
  allClusters.any fun cl =>
    let d := s.dev
    let n := d.wireDepth cl
    d.rbit (Reg.wireRing cl) 0 && (List.range ((d.rf (Reg.wireTail cl) 6 0 + n - d.wireHeadAt cl) % n)).any fun i =>
      let w : WireCmd := ⟨(s.load (d.wireEntry cl ((d.wireHeadAt cl + i) % n)) 64).1⟩
      decide (w.op = 1) && d.isShadow w.tensor

/-- Firmware takes this seat's slot loss for a step and sends it to the leader, after the sums of the step's shadow-class tensors (R514,
R524, R541; the body's layout is DEDUCED, log 100). -/
def State.ownLoss (s : State) (slot step : Nat) : State :=
  let fields := s.dev.lossFields
  let sum := lossSum fields
  let crc := lossCrc fields
  if s.shadowWaits then s
  else if s.dev.leads then s.slotLoss slot step sum crc
  else s.onDev fun d =>
    if d.leaderNow = 0xF then d
    else d.firmwareMessage d.leaderNow 0x40 (leBytes 4 step ++ leBytes 1 slot ++ leBytes 4 sum.toNat ++ leBytes 4 crc.toNat)

/-- The sum of an ADD of a shadow-class tensor goes through the mover into the buddy's matching wire buffer (R524). Which address that
is the rules leave to firmware. -/
def State.sendSum (s : State) (w : WireCmd) : State :=
  let d := s.dev
  match d.slotOf d.seat with
  | none => s
  | some n => match d.seatOfSlot ((n + d.rf Reg.survCtl 3 1) % d.slots) with
    | none => s
    | some t =>
      if d.isShadow w.tensor = false ∨ t = d.seat then s
      else s.onDev fun d => (List.range (w.count / 32)).foldl (fun (d : Device) i =>
        let r := s.load (w.dst + 256 * i) 256
        d.seatWrite t ((Config.matchingBuffer w.dst).toNat + 256 * i) i r.1 r.2) d

/-- The ADD that the wire engine of a cluster will carry out next; none: there is none, or it is refused. -/
def State.addHead (s : State) (cl : ClusterId) : Option WireCmd :=
  let d := s.dev
  let e := s.load (d.wireEntry cl (d.wireHeadAt cl)) 64
  let w : WireCmd := ⟨e.1⟩
  if clusterPresent cl && d.wireTurn cl && !e.2 && decide (w.op = 1) && (d.wireCause cl w).isNone then some w else none

/-! ## The close of a checkpoint step (R521, R523) -/

/-- The step-log records written since the previous checkpoint, oldest first (R516). -/
def Device.newRecords (d : Device) : List (List Byte) :=
  let last := d.rf Reg.survStat 63 32
  (if d.rbit Reg.survStat 5 then d.surv.log.takeWhile fun r => decide (last < leAt r 0 4) else d.surv.log).reverse

/-- Bytes with one poison mark. -/
def marked (p : Bool) (bs : List Byte) : List (Byte × Bool) := bs.map fun b => (b, p)

/-- The manifest of a slot for a checkpoint, each byte with its poison: 64 KiB, with its CRC in the last 4 bytes (R35, R523). -/
def State.manifest (s : State) (k : CkptRun) (slot : Nat) : List (Byte × Bool) :=
  let d := s.dev
  let base := d.rf Reg.survReg 51 12 * 4096
  let entries := d.surv.registry.zipIdx.flatMap fun p =>
    let raw := s.load (base + 64 * (p.2 + 1)) 64
    let r := s.load p.1.base p.1.bytes
    marked raw.2 (raw.1.take 36) ++ marked (r.2 || raw.2) (leBytes 4 (crc32c r.1)) ++ marked raw.2 (raw.1.drop 40)
  let recs := d.newRecords
  let head := leBytes 4 k.step ++ leBytes 2 d.rosterEpoch ++ leBytes 1 slot ++ leBytes 1 k.gen
    ++ leBytes 8 Config.manifestSerial.toNat ++ leBytes 2 d.surv.registry.length ++ leBytes 2 recs.length
    ++ List.replicate 44 (0 : Byte)
  let body := marked false head ++ entries ++ marked false recs.flatten ++ marked s.stateDirty (Config.stateBytes s.savedState)
  let m := (body ++ marked false (List.replicate 65532 (0 : Byte))).take 65532
  m ++ marked (m.any fun b => b.2) (leBytes 4 (crc32c (m.map Prod.fst)))

/-- The tensors of this seat that the mover copies in a checkpoint step: static ones whose GENS bit for the generation is 0, and changing
ones that no UPD of the step wrote (R521). -/
def State.movedTensors (s : State) (k : CkptRun) (slot : Nat) : List RegEntry :=
  let base := s.dev.rf Reg.survReg 51 12 * 4096
  (s.dev.surv.registry.zipIdx.filter fun p =>
    decide (p.1.slot = slot) && (decide (p.1.cls = 1) && !(bitAt (s.loadN (base + 64 * (p.2 + 1) + 33) 1) k.gen)
      || (decide (p.1.cls = 2) || decide (p.1.cls = 3)) && !(k.written.contains p.1.tensor))).map fun p => p.1

/-- This seat's part of a checkpoint ends after the close of its step: what the update did not write and the manifest go to the store, each
byte with its poison, and CKPT_DONE to the other seats (R35, R521, R523, R541; to whom, DEDUCED, log 100). It needs the store that the host
designates (R517). -/
def State.closeCkpt (s : State) (step slot : Nat) : State :=
  match s.dev.surv.ckpt with
  | none => s
  | some k =>
    let open' := (allClusters.filter s.dev.clusterUsed).any fun cl => decide (s.dev.rf (Reg.wcStep cl) 31 0 ≤ step)
    if k.step ≠ step ∨ open' = true ∨ (tfind k.done slot).isSome ∨ s.dev.rbit Reg.ckptStore 0 = false then s
    else
      let m := s.manifest k slot
      let dirty := m.any fun b => b.2
      let crc := leAt (m.map Prod.fst) 65532 4
      let b := s.dev.rf Reg.stateBase 51 21 * 2 ^ 21
      let s1 := s.onDev fun d =>
        let d1 := (s.movedTensors k slot).foldl (fun (d : Device) e =>
          (d.moverConsumed (s.poisoned e.base e.bytes)).writeRuns 0 none (d.storeAddr k.gen slot (65536 + (e.base - b)))
            (s.loadRuns e.base e.bytes)) d
        let d2 := d1.writeRuns 0 none (d.storeAddr k.gen slot 0) (if dirty then poisonRuns m else [(m.map Prod.fst, false)])
        d.members.foldl (fun (d : Device) t => if t = d.seat then d else d.firmwareSend t 0x42
          (leBytes 4 step ++ leBytes 1 slot ++ leBytes 4 crc) dirty) d2
      s1.ckptDone step slot (BitVec.ofNat 32 crc)

/-! ## Contents lost with a channel (R379, R540) -/

/-- Firmware restores what was lost with a channel as a fill does: the static tensors of this seat that lost a granule come from the last
complete generation of the store. What it needs of other seats the manual gives no message for (log 205). -/
def State.restoreLost (s : State) (before after : List Nat) : State :=
  match s.dev.slotOf s.dev.seat with
  | none => s
  | some n =>
    let hit := fun e : RegEntry => (List.range (e.bytes / 4096 + 1)).any fun i =>
      lostWith (after.getLast?.getD 384) before after (e.base + 4096 * i)
    if s.dev.rbit Reg.survStat 5 && s.dev.rbit Reg.ckptStore 0 then
      (s.onDev fun d => d.addMoves (d.staticMoves n (d.ownEntries.filter fun e => decide (e.assigned = 1) && hit e))).postMoves
    else s

/-- A channel is retired while the module is in service, and what was lost with it is restored (R374, R379, R540). -/
def State.retireInService (s : State) (die j cause : Nat) : State :=
  let t := s.retireChannel die j cause
  let before := s.dev.memsys.retired
  let after := t.dev.memsys.retired
  if before.length = after.length then t else t.restoreLost before after

/-! ## Commands -/

/-- WIRE_ADD: the sum of a shadow-class tensor is sent on (R406, R524). -/
def execWireAdd (cl : ClusterId) (s : State) : Host.Outcome State Fault Refusal :=
  memNext s fun s => match s.addHead cl with
    | some w => (s.wireServe cl 1).sendSum w
    | none => s.wireServe cl 1

/-- SLOT_LOSS: this seat's own is taken and sent, that of another slot is received at the leader (R514, R515). -/
def execSlotLoss (slot step : Nat) (sum crc : W32) (s : State) : Host.Outcome State Fault Refusal :=
  memNext s fun s =>
    if s.dev.slotOf s.dev.seat = some slot then s.ownLoss slot step
    else (s.takeMessage 0x40 ((s.dev.seatOfSlot slot).getD 0xF)).slotLoss slot step sum crc

/-- GO. -/
def execGo (record : List Byte) (s : State) : Host.Outcome State Fault Refusal :=
  memNext s fun s => (s.takeMessage 0x41 s.dev.leaderNow).onDev fun d => d.takeGo record

/-- CKPT_DONE: this seat's own is sent with its manifest, that of another slot is received (R521, R523). -/
def execCkptDone (step slot : Nat) (crc : W32) (s : State) : Host.Outcome State Fault Refusal :=
  memNext s fun s =>
    if s.dev.slotOf s.dev.seat = some slot then s.closeCkpt step slot
    else (s.takeMessage 0x42 ((s.dev.seatOfSlot slot).getD 0xF)).ckptDone step slot crc

/-- A host write of HUB.CKPT_STORE: a checkpoint under way fails (R522). -/
def Device.writeCkptStore (d : Device) (v : W64) : Device := (d.ckptAbort 3).writeFields Reg.ckptStore v

/-- CKPT_STORE_WRITE. -/
def execCkptStoreWrite (v : W64) (s : State) : Host.Outcome State Fault Refusal := devNext s fun d => d.writeCkptStore v

/-- A host write of HUB.SURV_REG: firmware reads the registry (R513). -/
def State.writeSurvReg (s : State) (v : W64) : State := (s.onDev fun d => d.writeFields Reg.survReg v).readRegistry

/-- SURV_REG_WRITE. -/
def execSurvRegWrite (v : W64) (s : State) : Host.Outcome State Fault Refusal := memNext s fun s => s.writeSurvReg v

/-- ODDS_TIMER. -/
def execOddsTimer (s : State) : Host.Outcome State Fault Refusal := devNext s fun d => d.oddsTimer

/-- ODDS. -/
def execOdds (seat odds : Nat) (s : State) : Host.Outcome State Fault Refusal :=
  memNext s fun s => (s.takeMessage 0x43 seat).onDev fun d => d.takeOdds seat odds

/-- HALTED. -/
def execHalted (seat : Nat) (epoch : W16) (s : State) : Host.Outcome State Fault Refusal :=
  memNext s fun s => (s.takeMessage 0x44 seat).seatHalted seat epoch.toNat

/-- HALT_TIMEOUT: 10 ms after the commit, seats that have not sent HALTED are unreachable for the leader's next proposal; a HALTED in
the receive ring has arrived (R40, R528). -/
def execHaltTimeout (s : State) : Host.Outcome State Fault Refusal :=
  devNext s fun d =>
    let missing := d.members.filter fun t =>
      !(d.surv.halted.contains t) && !(s.messageWaits 0x44 t fun a => decide (s.loadN (a + 28) 2 = d.rosterEpoch))
    if d.leads && decide (d.survMode = 1) && !missing.isEmpty && decide (d.surv.haltAt + millis 10 ≤ d.clock) then
      (d.onPeer fun x => { x with unheard := missing.foldl sinsert x.unheard }).propose
    else d

/-- RESTORE. -/
def execRestore (point mode : Nat) (current : W16) (s : State) : Host.Outcome State Fault Refusal :=
  memNext s fun s => (s.takeMessage 0x45 s.dev.leaderNow).restore point mode current.toNat

/-- FILL_DONE. -/
def execFillDone (slot point : Nat) (s : State) : Host.Outcome State Fault Refusal :=
  memNext s fun s => (s.takeMessage 0x46 ((s.dev.seatOfSlot slot).getD 0xF)).fillDone slot point

/-- RESUME. -/
def execResume (point : Nat) (s : State) : Host.Outcome State Fault Refusal :=
  memNext s fun s => ((s.takeMessage 0x47 s.dev.leaderNow).onDev fun d => d.resume point).nextLoss

/-- CKPT_REQ. -/
def execCkptReq (step : Nat) (s : State) : Host.Outcome State Fault Refusal :=
  devNext s fun d => if d.leads then d.onSurv fun v => { v with requests := sinsert v.requests step } else d

/-- CHECKPOINT. -/
def execCheckpoint (fn queue slot : Nat) (s : State) : Host.Outcome State Fault Refusal :=
  memNext s fun s => s.startEntry fn queue slot 6 fun s e => s.onDev fun d => d.checkpointEntry e

/-- SEAT_TO_SEAT. -/
def execSeatToSeat (s : State) : Host.Outcome State Fault Refusal := memNext s fun s => s.mover 0 fun s _ c => s.moveSeat c

/-- DEVICE_TO_STORE. An error completion that comes while the mover holds no such command is that of a write of the tee or of the close: the
checkpoint fails (R518, R522; log 206). -/
def execDeviceToStore (writeError : Bool) (s : State) : Host.Outcome State Fault Refusal :=
  memNext s fun s =>
    let held := match s.moverHead with
      | some (_, c, _) => decide (leAt c 0 1 = 1)
      | none => false
    if writeError && !held then s.onDev fun d => d.ckptAbort 0 else s.mover 1 fun s o c => s.moveOut o c writeError

/-- CHANNEL_RETIRE: MEM.CHAN_CTL is written (R374, R378, R381). -/
def execChannelRetire (die chan : Nat) (v : W64) (s : State) : Host.Outcome State Fault Refusal :=
  memNext s (fun s => if chanPresent die chan && bitAt v.toNat 0 then s.retireInService die chan 0 else s)

/-- CHANNEL_TIMEOUT: a request received no data within 20 µs (R374, R378). -/
def execChannelTimeout (die chan : Nat) (s : State) : Host.Outcome State Fault Refusal :=
  memNext s (fun s => if chanPresent die chan then s.retireInService die chan 2 else s)

/-- STORE_TO_DEVICE. -/
def execStoreToDevice (src : HostRead) (s : State) : Host.Outcome State Fault Refusal :=
  memNext s fun s => s.mover 2 fun s _ c => s.moveIn c src

end Sys2Proof.Machine
end

