-- ==== Sys2Proof/Machine/Peer.lean ====
section
/-!
DEFINITION. The peer unit and the roster (chapter 13): packets between seats in and out (R469 to R472, R491, R500, R501),
steward messages (R492, R493), roster conversations and commits (R488, R494 to R498), and the table clock (R502 to R504, R613).
-/
namespace Sys2Proof.Machine

/-! ## Committing a roster (R488, R495, R506) -/

/-- The nine STATE fields, three bits each (R506). -/
def Device.stateBits (d : Device) : Nat := (List.range 9).foldl (fun a s => a + d.rosterState s <<< (3 * s)) 0

/-- ROSTER and the epochs take the accepted proposal (R488). -/
def Device.copyRoster (d : Device) : Device :=
  let d1 := (List.range 9).foldl (fun (d : Device) s => d.setReg (Reg.roster s) (d.reg (Reg.rosterNext s))) d
  let d2 := ((d1.setRf Reg.rosterCtl 31 16 d.rosterEpoch).setRf Reg.rosterCtl 15 0 (d.rf Reg.rosterCtl 47 32)).setRf
    Reg.rosterCtl 48 48 0
  if d.seated then d2.setRf Reg.tableStat 13 12 (ofBool (d2.inRoster d.seat)) else d2

/-- SEAT_LOST for a seat that was a member: why, and which seat took its slot (R495, R506). The leader knows which seats did not accept;
another seat takes that for the cause where its own route led to the seat (DESIGN CHOICE, log 202). -/
def Device.seatLost (d : Device) (old : Device) (s : Nat) : Device :=
  let slot := old.rf (Reg.roster s) 23 20
  let heir := if old.rosterState s = 1 then (d.seatOfSlot slot).getD 0xF else 0xF
  let mute := if old.leaderNow = old.seat then old.peer.silent.contains s else decide (old.rf (Reg.route s) 1 0 ≠ 3)
  let cause := if d.rosterState s = 4 then 2 else ofBool mute
  d.peerEmit 0 0xA008 .deferred false [(0, 1, s), (1, 1, cause), (2, 1, heir), (4, 2, d.rosterEpoch)]

/-- Ports toward a seat are fenced with cause roster; a seat that left fences all its own (R484, R498). -/
def Device.fenceSeat (d : Device) (s : Nat) : Device :=
  if s = d.seat then (if d.rosterState s = 4 then (List.range 16).foldl (fun (d : Device) p => d.fence p 6) d else d)
  else (d.fence (d.firstPort s) 6).fence (d.firstPort s + 1) 6

/-- Seats that were members and are no more. -/
def Device.gone (d old : Device) : List Nat := (List.range 9).filter fun s => old.inRoster s && !(d.inRoster s)

/-- What a commit makes of the conversations: none is under way, and joiners and leavers that remain start the leader's wait (R498). A
seat of the table that has not stepped its clock steps it at its next TIME answer, and so does one that is out of the table and may
join again; the master does not (R502, R504, R612). A merge that waits starts anew (R221). -/
def Device.settlePeer (d old : Device) : Device :=
  let d1 := d.onPeer fun x =>
    { x with silent := [], unheard := [], left := x.left.filter d.inRoster, proposal := none, proposer := 0xF, waitUntil := none
             joiners := x.joiners.filter fun j => !(d.inRoster j)
             lastLeader := d.rf Reg.tableStat 11 8
             stepDue := if d.inRoster d.seat then x.stepDue && decide (d.rf Reg.tableStat 11 8 ≠ d.seat) else true
             merges := x.merges.map fun m => (m.1, d.clock), mergedFrom := [], mergeHeld := false
             slots := some (if old.rosterEpoch = 0 then old.slotsNow else old.slots) }
  if d1.leads ∧ (d1.peer.left.isEmpty = false ∨ d1.peer.joiners.isEmpty = false) then d1.beginWait else d1

/-- A roster commit (R488): the copy, the routes, the events, what the leader tells the kept seats, fences toward seats that went, and
what survival does. A seat without quorum commits nothing (R496). -/
def State.commitRosterWith (tell : Device → Device) (s : State) : State :=
  if s.dev.noQuorum then s else
  let old := s.dev
  let slotsLost := ((List.range 9).filter fun t => decide (old.rosterState t = 1)).filterMap fun t =>
    let n := old.rf (Reg.roster t) 23 20
    if bitsOf (old.regN (Reg.rosterNext t)) 2 0 = 1 then none else some n
  let s1 := s.onDev fun d =>
    let d2 := (d.copyRoster.redraw.settlePeer old).answerWaiting
    let d3 := tell (d2.peerEmit 0 0xA007 .notice false
      [(0, 2, d2.rosterEpoch), (2, 1, d2.rf Reg.tableStat 11 8), (4, 4, d2.stateBits)])
    let gone := d3.gone old
    gone.foldl Device.fenceSeat (gone.foldl (fun (d : Device) t => d.seatLost old t) d3)
  let again := if old.rosterEpoch = 0 then [] else
    (List.range s1.dev.slots).filter fun n => (old.seatOfSlot n).isNone && (s1.dev.seatOfSlot n).isSome
  s1.survivalCommit old slotsLost again

/-- A roster commit with nothing to tell (R488). -/
def State.commitRoster (s : State) : State := s.commitRosterWith fun d => d

/-! ## Packets in (R491, R500) -/

/-- An inner packet for a steward's ring (R492). -/
def toSteward (h : Header) : Bool := decide (h.dstDie = 8) && decide (h.dstUnit = 0) && decide (h.dstCore.toNat < 4)

/-- Message types that a steward may receive (R492, R541). -/
def messageType (m : Nat) : Bool := rosterType m || decide (m = 0x20) || (decide (0x40 ≤ m) && decide (m ≤ 0x48))

/-- The row of R491 that decides. -/
inductive Judged where
  | security | accepted | commits | discarded
  deriving DecidableEq, Repr

/-- R491, its rows in order; a seat without quorum commits nothing (R496). -/
def Device.judge (d : Device) (p : Nat) (pk : PeerPacket) : Judged :=
  let r := leAt pk.bytes 2 2
  let dst := leAt pk.bytes 0 1 % 16
  let src := leAt pk.bytes 0 1 / 16
  let q := packetParts pk.bytes
  let mtype := leAt q.2.2 0 1
  if r = 0 ∧ dst = 0xF ∧ 1 ≤ mtype ∧ mtype ≤ 3 ∧ pk.vc = 6 then .security
  else if (r = d.rosterEpoch ∨ r = d.rf Reg.rosterCtl 31 16) ∧ d.inRoster src then .accepted
  else if d.rbit Reg.rosterCtl 48 ∧ r = d.rf Reg.rosterCtl 47 32 ∧ d.noQuorum = false then .commits
  else if pk.vc / 2 = 3 ∧ toSteward q.2.1 ∧ rosterType mtype ∧ d.portUp p then .accepted
  else .discarded

/-- The message ring is full: one slot stays empty (R493). -/
def Device.msgFull (d : Device) : Bool := decide ((d.rf Reg.msgRx 25 16 + 1) % 1024 = d.rf Reg.msgRx 9 0)

/-- A received packet can leave the buffer now: a request needs a proxy entry (R471), a message a ring slot (R493); before the port is
up only packets of survival hop 0 flow (R480). -/
def Device.mayTake (d : Device) (p : Nat) (pk : PeerPacket) : Bool :=
  let q := packetParts pk.bytes
  let own := decide (leAt pk.bytes 0 1 % 16 = d.seat)
  let early := decide (pk.vc ≠ 6) && (decide (d.portState p = 2) || decide (d.portState p = 3))
  !early && (decide (d.judge p pk = .discarded) || !own ||
    ((decide (pk.vc / 2 ≠ 0) || decide (d.peer.proxy.length < 4096)) &&
      (decide (pk.vc / 2 ≠ 3) || !(toSteward q.2.1) || !(messageType (leAt q.2.2 0 1)) || !d.msgFull)))

/-- The epochs a seat knows: CURRENT, PENDING, and without a roster those that its partners' HELLO messages name (R491, R498). -/
def Device.knownEpochs (d : Device) : List Nat :=
  (if d.rosterEpoch = 0 then d.partners.filterMap fun t => (d.helloOf t).map fun h => leAt h 56 2 else [d.rosterEpoch])
    ++ (if d.rbit Reg.rosterCtl 48 then [d.rf Reg.rosterCtl 47 32] else [])

/-- An epoch newer than all the seat knows is asked about (R491). -/
def Device.askSync (d : Device) (r : Nat) : Device :=
  if r ≠ 0 ∧ (d.knownEpochs.all fun e => decide (e = 0) || epochAfter r e) = true ∧ d.leaderNow ≠ d.seat ∧ d.leaderNow < 9 then
    d.firmwareMessage d.leaderNow 0x16 []
  else d

/-- A packet is discarded under R491: LINK_CNT.STALE, one fault, and PEER_STALE once per source seat and epoch. -/
def Device.staleP (d : Device) (p : Nat) (pk : PeerPacket) : Device :=
  let r := leAt pk.bytes 2 2
  let src := leAt pk.bytes 0 1 / 16
  let d1 := ((d.addRf (Reg.linkCnt p) 63 48 1).takeFresh).fault p (Config.faultCause d.fresh).toNat 0
  if d.peer.stale.contains (src, r) then d1
  else (d1.onPeer fun x => { x with stale := (src, r) :: x.stale }).peerEmit p 0xA00C .deferred false
      [(0, 1, src), (2, 2, r), (4, 2, d.rosterEpoch)]

/-- A message enters the receive ring, and csr.ipend.PEER of its steward is set (R492). -/
def State.ringMessage (s : State) (pk : PeerPacket) : State :=
  let q := packetParts pk.bytes
  let tail := s.dev.rf Reg.msgRx 25 16
  let slot := headerBytes q.2.1 ++ leBytes 1 (leAt pk.bytes 0 1 / 16) ++ [0] ++ slice pk.bytes 2 2 ++ List.replicate 4 (0 : Byte)
    ++ q.2.2
  let s1 := s.store (hubStoreAddr (0x3F0_0000 + 1024 * tail)) slot q.2.1.poison
  s1.onDev fun d => (d.setRf Reg.msgRx 25 16 ((tail + 1) % 1024)).onCore (steward q.2.1.dstCore.toNat) fun k => k.notify 4

/-- A request of another seat is placed under the peer unit's own name, with a proxy entry (R471). -/
def Device.proxyRequest (d : Device) (src : Nat) (h : Header) (pl : List Byte) : Device :=
  (d.onPeer fun x => { x with proxy := tput x.proxy (freeKey x.proxy) ⟨src, h⟩ }).send
    (.packet ⟨{ h with srcDie := 8, srcCluster := 0, srcCore := 0xFF, srcUnit := 0x31 }, pl⟩)

/-- The ledger entry that a response from a seat answers (R472). -/
def Device.ledgerOf (d : Device) (src : Nat) (h : Header) : Option Nat :=
  (d.peer.ledger.find? fun e => decide (e.2.seat = src) && decide (e.2.hdr.opTag = h.opTag)
    && decide (e.2.hdr.srcDie = h.dstDie) && decide (e.2.hdr.srcCluster = h.dstCluster) && decide (e.2.hdr.srcCore = h.dstCore) && decide (e.2.hdr.srcUnit = h.dstUnit)).map
      Prod.fst

/-- An accepted packet for this seat is placed on its network (R471, R472, R492). -/
def State.deliver (s : State) (pk : PeerPacket) : State :=
  let q := packetParts pk.bytes
  let src := leAt pk.bytes 0 1 / 16
  match pk.vc / 2 with
  | 0 => s.onDev fun d => d.proxyRequest src q.2.1 q.2.2
  | 1 => match s.dev.ledgerOf src q.2.1 with
    | none => s
    | some k => s.onDev fun d => (d.send (.packet ⟨q.2.1, q.2.2⟩)).closeLedger k
  | 3 =>
    if toSteward q.2.1 then (if messageType (leAt q.2.2 0 1) then s.ringMessage pk else s)
    else s.onDev fun d => d.send (.packet ⟨q.2.1, q.2.2⟩)
  | _ => s.onDev fun d => d.send (.packet ⟨q.2.1, q.2.2⟩)

/-- HOP 1 and REPOCH kept: a packet that is forwarded (R500). -/
def forwarded (bs : List Byte) : List Byte := setAt bs 1 1

/-- The port a packet of another seat is forwarded on: the direct route of its seat; a seat without quorum forwards survival messages
only (R496, R500). -/
def Device.forwardPort (d : Device) (dst : Nat) (pk : PeerPacket) : Option Nat :=
  if d.inRoster dst && (!d.noQuorum || decide (pk.vc / 2 = 3)) then d.portToward dst (packetParts pk.bytes).2.1.opTag.toNat else none

/-- A packet judged: committed, forwarded, delivered or discarded; an identity message goes to the security engine with the port it came
on (R483, R491, R500). -/
def State.acceptPacket (s : State) (p : Nat) (pk : PeerPacket) : State :=
  let q := packetParts pk.bytes
  let j := s.dev.judge p pk
  let s0 := s.onDev fun d => if j = .commits then d else d.askSync (leAt pk.bytes 2 2)
  let s1 := if j = .commits then s0.commitRoster else s0
  let dst := leAt pk.bytes 0 1 % 16
  if j = .discarded then s1.onDev fun d => d.staleP p pk
  else if dst = s1.dev.seat then s1.deliver pk
  else if pk.vc % 2 = 1 then s1.onDev fun d => d.staleP p pk
  else if dst = 0xF then s1.onDev fun d => d.send (.identity p ⟨q.2.1, q.2.2⟩)
  else match s1.dev.forwardPort dst pk with
    | none => s1.onDev fun d => d.staleP p pk
    | some e => s1.onDev fun d => d.queuePacket e (pk.vc + 1) (forwarded pk.bytes) none

/-- What a packet goes out on: an on-chip network, or the ports toward another seat. -/
def Device.outputOf (d : Device) (pk : PeerPacket) : Nat × Nat :=
  let dst := leAt pk.bytes 0 1 % 16
  if dst = d.seat ∨ dst = 0xF then (0, pk.vc / 2) else (1, dst)

/-- A packet that has waited longer stands ready at another port for the same output (R505). -/
def Device.olderWaits (d : Device) (p : Nat) (pk : PeerPacket) : Bool :=
  decide (d.judge p pk ≠ .discarded) && (List.range 16).any fun q => decide (q ≠ p) &&
    match pickPacket (d.mayTake q) [] (d.port q).buffer with
    | none => false
    | some (k, _) => decide (d.judge q k ≠ .discarded) && decide (d.outputOf k = d.outputOf pk) && decide (k.since < pk.since)

/-- The oldest packet of a port's buffer that can leave does, unless an older one waits for the same output at another port, and its
credits go back (R478, R505). -/
def State.peerReceive (s : State) (p : Nat) : State :=
  match pickPacket (s.dev.mayTake p) [] (s.dev.port p).buffer with
  | none => s
  | some (pk, rest) =>
    if s.dev.olderWaits p pk then s else
    let s1 := s.onDev fun d => d.onPort p fun x =>
      { x with buffer := rest, returns := bump x.returns pk.vc (flitCount pk.bytes.length) }
    (s1.acceptPacket p pk).onDev fun d => if 2 ≤ d.portState p ∧ d.portState p ≠ 5 then d.respond p else d

/-! ## Packets out (R469, R471, R492) -/

/-- The source of a response is the unit that a request went to. A unit outside the clusters names no cluster, and one outside the cores
no core (R37); a swapped core answers for the one it replaced (R251). -/
def Device.answersFor (d : Device) (q r : Header) : Bool :=
  decide (q.dstDie = r.srcDie) && decide (q.dstUnit = r.srcUnit) && (decide (0x20 ≤ r.srcUnit.toNat) ||
    (decide (q.dstCluster = r.srcCluster) && (decide (0x10 ≤ r.srcUnit.toNat) ||
      decide ((d.cluster ⟨q.dstDie.toNat, q.dstCluster.toNat⟩).deliversTo q.dstCore.toNat = r.srcCore.toNat))))

/-- The proxy entry that a local response answers (R471). -/
def Device.proxyOf (d : Device) (h : Header) : Option (Nat × ProxyEntry) :=
  d.peer.proxy.find? fun e => decide (e.2.hdr.opTag = h.opTag) && d.answersFor e.2.hdr h

/-- The peer unit takes an on-chip packet (R469): a response goes to the seat that asked, with the original source as its
destination (R471); anything else holds the seat word, the inner header and its payload. -/
def Device.peerSend (d : Device) (pk : Packet) : Device :=
  if pk.hdr.dstDie ≠ 8 ∨ pk.hdr.dstUnit ≠ 0x31 then d
  else if pk.hdr.vnet = 1 then
    match d.proxyOf pk.hdr with
    | none => d
    | some (k, e) =>
      (d.onPeer fun x => { x with proxy := tdel x.proxy k }).sendToSeat e.seat 1
        { pk.hdr with dstDie := e.hdr.srcDie, dstCluster := e.hdr.srcCluster, dstCore := e.hdr.srcCore, dstUnit := e.hdr.srcUnit }
        pk.payload
  else d.sendOut pk

/-- A write of MSG_TX (R492): the message leaves the hub store. Reserved fields and message types send nothing, and neither do
the types that the security engine alone forms. -/
def State.sendMsgTx (s : State) (v : Nat) : State :=
  let t := bitsOf v 3 0
  let len := bitsOf v 17 8
  let m := s.load (hubStoreAddr (8 * bitsOf v 42 20)) len
  if 9 ≤ t ∨ len < 4 ∨ 1000 < len ∨ messageType (leAt m.1 0 1) = false then s
  else s.onDev fun d =>
    let stew := bitsOf v 5 4
    let h := { messageHdr stew len with poison := m.2 }
    if rosterType (leAt m.1 0 1) then d.sendMessage t stew m.1 m.2 else d.sendToSeat t 3 h m.1

/-- The response to a ledger entry stands in a receive buffer: it has arrived (R40). -/
def Device.responseArrived (d : Device) (k : Nat) : Bool :=
  (List.range 16).any fun p => (d.port p).buffer.any fun pk =>
    decide (pk.vc / 2 = 1 ∧ leAt pk.bytes 0 1 % 16 = d.seat ∧ d.judge p pk ≠ .discarded)
      && decide (d.ledgerOf (leAt pk.bytes 0 1 / 16) (packetParts pk.bytes).2.1 = some k)

/-- A ledger entry is older than LEDGER_TMO, and its response has not arrived (R40, R472). -/
def Device.ledgerTimeout (d : Device) (k : Nat) : Device :=
  match tfind d.peer.ledger k with
  | none => d
  | some e =>
    if d.clock < e.since + millis (d.rf Reg.tableCtl 63 56) ∨ d.responseArrived k = true then d
    else (d.answerPoisoned e.hdr).closeLedger k

/-! ## Roster conversations (R494 to R498) -/

/-- JOIN at the leader (R498). -/
def Device.takeJoin (d : Device) (seat : Nat) : Device :=
  if d.leads ∧ seat < 9 ∧ d.inRoster seat = false then
    (d.onPeer fun x => { x with joiners := sinsert x.joiners seat }).beginWait
  else d

/-- LEAVE at the leader (R498). -/
def Device.takeLeave (d : Device) (seat : Nat) : Device :=
  if d.leads ∧ d.inRoster seat then (d.onPeer fun x => { x with left := sinsert x.left seat }).beginWait else d

/-- REPORT: the LIVE mask of its sender; a suspect starts a proposal at once (R498). -/
def Device.takeReport (d : Device) (seat live : Nat) (suspect : Bool) : Device :=
  let d1 := if seat < 9 then d.onPeer fun x => { x with live := tput x.live seat (live % 512) } else d
  if !(d.leads) then d1 else if suspect then d1.proposeAs true else d1.beginWait

/-- A proposal may be accepted (R497). With no roster any epoch is newer, and none pending is none. -/
def Device.acceptable (d : Device) (seat epoch : Nat) : Bool :=
  let cur := d.rosterEpoch
  let pend := d.rf Reg.rosterCtl 47 32
  let valid := d.rbit Reg.rosterCtl 48
  let newCur := decide (cur = 0) || epochAfter epoch cur
  let newPend := !valid || epochAfter epoch pend
  decide (epoch ≠ 0) && newCur &&
    ((newPend && decide (seat = d.leaderNow)) || (valid && decide (epoch = pend) && decide (seat < d.peer.proposer))
      || (d.peer.proposal.isSome && decide (seat < d.seat)))

/-- PROPOSE: accepted, and answered (R497). -/
def Device.takePropose (d : Device) (seat epoch : Nat) (es : List W64) : Device :=
  if d.acceptable seat epoch then
    let d1 := (d.acceptRoster epoch es seat).onPeer fun x => { x with proposal := none, waitUntil := none }
    d1.regainQuorum.firmwareMessage seat 0x14 (leBytes 2 epoch ++ leBytes 2 d.liveMask)
  else d

/-- ACCEPT at the leader: when every kept seat has accepted, the leader commits and sends COMMIT (R497). -/
def State.takeAccept (s : State) (seat epoch live : Nat) : State :=
  match s.dev.peer.proposal with
  | none => s
  | some pr =>
    if pr.epoch ≠ epoch ∨ pr.kept.contains seat = false then s
    else
      let acc := sinsert pr.accepted seat
      let s1 := s.onDev fun d => d.onPeer fun x =>
        { x with live := tput x.live seat (live % 512), proposal := some { pr with accepted := acc } }
      if pr.kept.all fun t => acc.contains t then
        s1.commitRosterWith fun d => pr.kept.foldl (fun (d : Device) t =>
          if t = d.seat then d else d.firmwareMessage t 0x15 (rosterBody epoch pr.entries)) d
      else s1

/-- COMMIT: the pending roster, or one newer than CURRENT that the leader answered a SYNC with (R491, R492, R497). -/
def State.takeCommit (s : State) (seat epoch : Nat) (es : List W64) : State :=
  let d := s.dev
  if d.noQuorum then s
  else if d.rbit Reg.rosterCtl 48 ∧ d.rf Reg.rosterCtl 47 32 = epoch then s.commitRoster
  else if epoch ≠ 0 ∧ (d.rosterEpoch = 0 ∨ epochAfter epoch d.rosterEpoch) then
    (s.onDev fun d => d.acceptRoster epoch es seat).commitRoster
  else s

/-- SYNC: the leader answers with COMMIT of the current roster (R492). -/
def Device.takeSync (d : Device) (seat : Nat) : Device :=
  if d.leads ∧ seat < 9 ∧ seat ≠ d.seat then
    d.firmwareMessage seat 0x15 (rosterBody d.rosterEpoch ((List.range 9).map fun t => d.reg (Reg.roster t)))
  else d

/-- The seats of a proposal that have not accepted it; an ACCEPT that stands in the receive ring has arrived (R40, R497). -/
def State.muteSeats (s : State) (pr : Proposal) : List Nat :=
  pr.kept.filter fun t => !(pr.accepted.contains t) && !(s.messageWaits 0x14 t fun a => decide (s.loadN (a + 28) 2 = pr.epoch))

/-- ROSTER_TMO has passed and some seat has not accepted: a new proposal without the silent seats (R497). -/
def State.rosterTimeout (s : State) : State :=
  match s.dev.peer.proposal with
  | none => s
  | some pr =>
    let mute := s.muteSeats pr
    if s.dev.clock < pr.since + micros (s.dev.rf Reg.tableCtl 31 16) ∨ mute.isEmpty = true then s
    else s.onDev fun d =>
      (d.onPeer fun x => { x with silent := mute.foldl sinsert x.silent, proposal := none }).propose

/-- FORM_TMO after the first port came up, a seat without a roster that would lead forms a table (R498). -/
def Device.formTimeout (d : Device) : Device :=
  match d.peer.firstUp with
  | none => d
  | some t =>
    if d.rosterEpoch ≠ 0 ∨ d.leaderNow ≠ d.seat ∨ d.peer.proposal.isSome ∨ d.clock < t + millis (d.rf Reg.tableCtl 47 32) then d
    else d.propose

/-- The leader's wait has run out (R498). -/
def Device.waitExpiry (d : Device) : Device :=
  match d.peer.waitUntil with
  | none => d
  | some t => if t ≤ d.clock ∧ d.leads then d.propose else d

/-- TABLE_CTL.LEAVE: LEAVE goes to the leader (R498). -/
def Device.tableLeave (d : Device) : Device :=
  let d1 := d.setRf Reg.tableCtl 8 8 1
  if d.rosterEpoch = 0 ∨ d.inRoster d.seat = false ∨ 9 ≤ d.leaderNow then d1
  else if d.leaderNow = d.seat then d1.takeLeave d.seat
  else d1.firmwareMessage d.leaderNow 0x11 []

/-- The proposals of a seat have arrived in the merges that wait: every cluster of this seat that has proposed has taken a MERGE of it, or
one stands in the receive ring (R221, R492). -/
def State.mergeArrived (s : State) (seat : Nat) : Bool :=
  (allClusters.all fun c => decide (s.dev.wcState c ≠ 2) || s.dev.peer.mergedFrom.contains (256 * seat + clusterKey c))
    || s.messageWaits 0x20 seat fun a => decide (s.loadN (a + 18) 2 = s.dev.rosterEpoch)

/-- The wait for the proposals of a seat of the roster has run out: it has lasted HUB.WC_MERGE_TMO and they have not arrived, not even at
that instant (R40, R221). -/
def State.mergeOverdue (s : State) (seat : Nat) : Bool :=
  s.dev.inRoster seat && decide (seat ≠ s.dev.seat) && !(s.mergeArrived seat)
    && s.dev.mergesLive.any fun m => decide (m.2 + micros (s.dev.rf Reg.wcMergeTmo 31 0) ≤ s.dev.clock)

/-- A merge wait has run out: MERGE_TIMEOUT, a REPORT that names the missing seat in byte 6, and no cluster commits until the roster is
settled (R221, R498). It names the epoch that the merge waiting longest is to commit: "the epoch being merged" (DESIGN CHOICE, log 214). -/
def Device.mergeTimeout (d : Device) (stew seat : Nat) : Device :=
  let d1 := (d.emit (srcCore (steward stew) 0) 0x4006 .deferred false
    (detail [(0, 2, ((d.mergesLive.getLast?).map fun m => m.1).getD 0), (2, 1, seat)])).onPeer fun x => { x with mergeHeld := true }
  if d.rosterEpoch = 0 ∨ 9 ≤ d.leaderNow then d1
  else if d.leads then d1.takeReport d.seat d.liveMask true
  else d1.firmwareMessage d.leaderNow 0x12 (leBytes 2 d.liveMask ++ leBytes 1 seat)

/-! ## The table clock (R502 to R504, R612, R613) -/

/-- The reference of a seat: that of its roster; a joining seat's is the leader its partners name (R502, R504). -/
def Device.timeRef (d : Device) : Nat :=
  let l := d.leaderNow
  if d.rosterEpoch ≠ 0 then d.refSeat
  else
    let told := match d.helloOf l with
      | some h => decide (leAt h 56 2 ≠ 0)
      | none => false
    if l ≠ d.seat ∧ d.directTo l ∧ told = true then l else 0xF

/-- A TIME flit leaves a port: PHASE in byte 9, T1, T2 and T3 from byte 16 (R503). -/
def Device.sendTime (d : Device) (p phase t1 t2 t3 : Nat) : Device :=
  d.sendControl p 3 (leBytes 7 phase ++ leBytes 8 t1 ++ leBytes 8 t2 ++ leBytes 8 t3)

/-- The table clock steps by an offset in nanoseconds (R504, R613). -/
def Device.stepClock (d : Device) (off : Int) (ref : Nat) : Device :=
  let d1 := { d with clock := ((Int.ofNat d.clock + 10 * off) % (10 * 2 ^ 64)).toNat }
  (d1.onPeer fun x => { x with refAt := d1.clock, steer := 0, asked := none }).peerEmit 0 0xA00B .notice false [(0, 8, wrapInt off 64), (8, 1, ref)]

/-- ((T2 − T1) − (T4 − T3)) / 2 (R503), rounded down to a whole nanosecond (DESIGN CHOICE, log 196). -/
def timeOffset (t1 t2 t3 t4 : Nat) : Int := ((Int.ofNat t2 - Int.ofNat t1) - (Int.ofNat t4 - Int.ofNat t3)) / 2

/-- A received TIME flit (R503, R504). -/
def Device.takeTime (d : Device) (p : Nat) (bs : List Byte) : Device :=
  if leAt bs 9 1 = 0 then d.sendTime p 1 (leAt bs 16 8) d.ns d.ns
  else if d.portSeat p ≠ d.timeRef then d
  else
    let off := timeOffset (leAt bs 16 8) (leAt bs 24 8) (leAt bs 32 8) d.ns
    if !(d.peer.stepDue) then d.onPeer fun x => { x with steer := 10 * off }
    else
      let d2 := (d.onPeer fun x => { x with stepDue := false }).stepClock off (d.portSeat p)
      if d.rosterEpoch = 0 ∨ d.inRoster d.seat = false then d2.firmwareMessage d2.leaderNow 0x10 [] else d2

/-- Once per millisecond a seat asks its reference on the lower-numbered up port toward it (R503). -/
def Device.timeRequest (d : Device) : Device :=
  let r := d.timeRef
  let early := match d.peer.asked with
    | some t => decide (d.clock < t + millis 1)
    | none => false
  if 9 ≤ r ∨ early = true then d
  else
    let p := if d.portUp (d.firstPort r) then d.firstPort r else d.firstPort r + 1
    (d.onPeer fun x => { x with asked := some d.clock }).sendTime p 0 d.ns 0 0

/-- A PTM result: recorded in TIME_STAT; at a master it steers, and the first one of a module outside a table steps when it
exceeds 1 µs (R613). -/
def Device.ptmResult (d : Device) (off : Int) : Device :=
  let sat := if off < -(2 ^ 31) then -(2 ^ 31) else if off > 2 ^ 31 - 1 then 2 ^ 31 - 1 else off
  let d1 := (d.setRf Reg.timeStat 5 5 1).setRf Reg.timeStat 39 8 (wrapInt sat 32)
  let first := d.peer.ptmFirst.isNone
  let master := decide (d.rosterEpoch = 0) || decide (d.rf Reg.tableStat 11 8 = d.seat)
  let jump := first && decide (d.rosterEpoch = 0) && (decide (off > 1000) || decide (off < -1000))
  let d2 := if jump then d1.stepClock off 0xF else d1
  d2.onPeer fun x =>
    { x with ptmAt := some d2.clock, ptmFirst := some (x.ptmFirst.getD d2.clock), steer := if master && !jump then 10 * off else x.steer }

/-! ## Commands -/

/-- PEER_PACKET_SEND. -/
def execPeerPacketSend (pkt : Packet) (s : State) : Host.Outcome State Fault Refusal := devNext s fun d => d.peerSend pkt

/-- PEER_PACKET_RECEIVE. -/
def execPeerPacketReceive (port : Nat) (s : State) : Host.Outcome State Fault Refusal :=
  memNext s fun s => if port < 16 then s.peerReceive port else s

/-- LEDGER_TIMEOUT. -/
def execLedgerTimeout (entry : Nat) (s : State) : Host.Outcome State Fault Refusal := devNext s fun d => d.ledgerTimeout entry

/-- MSG_TX. -/
def execMsgTx (v : W64) (s : State) : Host.Outcome State Fault Refusal := memNext s fun s => s.sendMsgTx v.toNat

/-- JOIN. -/
def execJoin (seat : Nat) (s : State) : Host.Outcome State Fault Refusal :=
  memNext s fun s => (s.takeMessage 0x10 seat).onDev fun d => d.takeJoin seat

/-- LEAVE. -/
def execLeave (seat : Nat) (s : State) : Host.Outcome State Fault Refusal :=
  memNext s fun s => (s.takeMessage 0x11 seat).onDev fun d => d.takeLeave seat

/-- TABLE_LEAVE. -/
def execTableLeave (s : State) : Host.Outcome State Fault Refusal := devNext s Device.tableLeave

/-- REPORT. -/
def execReport (seat live : Nat) (suspect : Option Nat) (s : State) : Host.Outcome State Fault Refusal :=
  memNext s fun s => (s.takeMessage 0x12 seat).onDev fun d => d.takeReport seat live suspect.isSome

/-- PROPOSE. -/
def execPropose (seat : Nat) (epoch : W16) (entries : List RosterEntry) (s : State) : Host.Outcome State Fault Refusal :=
  memNext s fun s => (s.takeMessage 0x13 seat).onDev fun d => d.takePropose seat epoch.toNat entries

/-- ACCEPT. -/
def execAccept (seat : Nat) (epoch : W16) (live : Nat) (s : State) : Host.Outcome State Fault Refusal :=
  memNext s fun s => (s.takeMessage 0x14 seat).takeAccept seat epoch.toNat live

/-- COMMIT_MESSAGE. -/
def execCommitMessage (seat : Nat) (epoch : W16) (entries : List RosterEntry) (s : State) :
    Host.Outcome State Fault Refusal :=
  memNext s fun s => (s.takeMessage 0x15 seat).takeCommit seat epoch.toNat entries

/-- SYNC. -/
def execSync (seat : Nat) (s : State) : Host.Outcome State Fault Refusal :=
  memNext s fun s => (s.takeMessage 0x16 seat).onDev fun d => d.takeSync seat

/-- MERGE. -/
def execMerge (seat cluster : Nat) (words : List (Nat × W64)) (maxima : List (Nat × W32)) (s : State) :
    Host.Outcome State Fault Refusal :=
  memNext s fun s => (s.takeMessage 0x20 seat).mergeWords (clusterOf cluster) seat words maxima

/-- MERGE_TIMEOUT. -/
def execMergeTimeout (st seat : Nat) (s : State) : Host.Outcome State Fault Refusal :=
  devNext s fun d => if st < 4 && s.mergeOverdue seat then d.mergeTimeout st seat else d

/-- ROSTER_TIMEOUT. -/
def execRosterTimeout (s : State) : Host.Outcome State Fault Refusal := memNext s State.rosterTimeout

/-- FORM_TIMEOUT. -/
def execFormTimeout (s : State) : Host.Outcome State Fault Refusal := devNext s Device.formTimeout

/-- LEADER_WAIT_EXPIRY. -/
def execLeaderWaitExpiry (s : State) : Host.Outcome State Fault Refusal := devNext s Device.waitExpiry

/-- ROSTER_COMMIT: COMMIT is written to ROSTER_CTL; ignored while nothing is pending (R488). -/
def execRosterCommit (s : State) : Host.Outcome State Fault Refusal :=
  memNext s fun s => if s.dev.rbit Reg.rosterCtl 48 then s.commitRoster else s

/-- TIME: a TIME flit stands at the head. -/
def execTime (port : Nat) (s : State) : Host.Outcome State Fault Refusal :=
  onPort s port fun d => d.takeFlit port [6] fun d bs _ => d.afterHeader port (leAt bs 0 8) fun d => d.takeTime port bs

/-- TIME_REQUEST_TIMER. -/
def execTimeRequestTimer (s : State) : Host.Outcome State Fault Refusal := devNext s Device.timeRequest

/-- PTM_RESULT. -/
def execPtmResult (offset : Int) (s : State) : Host.Outcome State Fault Refusal := devNext s fun d => d.ptmResult offset

end Sys2Proof.Machine
end

