-- ==== Sys2Proof/Machine/Reset.lean ====
section
/-!
DEFINITION. Cold and warm resets and what they keep (R544 to R556), the option block (R563 to R567), the boot sequence (R570 to
R575), the link reset (R552), the status registers (R576), and live firmware loading (R455 to R458).
-/
namespace Sys2Proof.Machine

/-! ## RST.CAUSE (R547, R576) -/

/-- RST.CAUSE with a cause bit added. `sub`: CRIT_WHICH or WDOG_STEWARD. -/
def causeAdd (v bit sub : Nat) : Nat :=
  let v1 := if bit = 7 then setBits v 11 9 sub else v
  (if bit = 5 then setBits v1 13 12 sub else v1) ||| 1 <<< bit

/-- RST.CAUSE after a reset: a cold one clears it, but for the causes of the resets still held that it merges with; then the cause is set
(R547, R550). -/
def Device.causeAfter (d : Device) (cold : Bool) (bit sub : Nat) : Nat :=
  let old := d.regN Reg.rstCause
  let merged := cold || (d.rst.held && d.rst.cold)
  let base := if cold then (if d.rst.held then d.rst.causes else 0) else old
  setBits (setBits (causeAdd base bit sub) 8 8 (ofBool merged)) 47 32 (if merged then 0 else satBits 16 (bitsOf old 47 32 + 1))

/-! ## What a reset keeps (R550, R555) -/

/-- Registers that a warm reset keeps: RST.CAUSE, MEM.CAP, CHAN_STAT, CORES_STAT, the option shadow, DUMP_STAT and
DUMP_CTL. -/
def keptWarm (o : Nat) : Bool :=
  decide (o = Reg.rstCause) || decide (o = Reg.memCap) || decide (o = Reg.dumpStat) || decide (o = Reg.dumpCtl) ||
    (decide (Reg.optBlock 0 ≤ o) && decide (o < Reg.optStage 0)) ||
    (match blockAt o with
     | some (.cluster _ _, off) => decide (off = 0x78)
     | some (.memGroup _ _, off) => decide (0x1000 ≤ off) && decide (off % 0x1000 = 0)
     | _ => false)

/-- SEAT and FEED as sampled, with STATE 0b11 where they name no seat (R460). -/
def strapWord (seat feed : Nat) : Nat := seat + feed <<< 4 + 0xF <<< 8 + (if 9 ≤ seat then 3 else 0) <<< 12

/-- Registers after a warm reset: those kept, SEAT and FEED, TRIP_TJ, ALERT, which reports hardware, BUSY of a page copy that goes on, and
HOLD_MODE 0b11 of every receive chute (R77, R550). -/
def Device.warmRegs (d : Device) : Device :=
  let d1 := { d with regs := d.regs.filter fun r => keptWarm r.1 }
  let d2 := d1.setRegN Reg.tableStat (strapWord (d.rf Reg.tableStat 3 0) (d.rf Reg.tableStat 5 4))
  let d3 := (d2.setRf Reg.thermStat 47 40 (d.rf Reg.thermStat 47 40)).setRf Reg.thermStat 5 5 (d.rf Reg.thermStat 5 5)
  let d4 := d.regs.foldl (fun (d : Device) r => match blockAt r.1 with
    | some (.memGroup _ _, off) => if 0x1000 ≤ off ∧ off % 0x1000 = 0x20 ∧ bitAt r.2.toNat 63 = true then d.setRf r.1 63 63 1 else d
    | _ => d) d3
  (List.range 16).foldl (fun (d : Device) p => d.setRf (Reg.chuteCtl ⟨.peer p, 0⟩) 17 16 3) d4

/-- The input pins of a port stay as the board drives them. -/
def Port.pins (x : Port) (now : Nat) : Port := { Port.init with hold := x.hold, holdAt := now }

/-- Compute cores after a warm reset: those in service idle, reserve cores in service among them; the others powered down
(R17, R550). -/
def Device.warmCores (d : Device) : Device :=
  d.clusters.foldl (fun d x => (List.range 0x22).foldl (fun (d : Device) k =>
    let c := coreIn (clusterOf x.1) k
    let r : RunState := if x.2.positions.contains k then .idle else .off
    if coreRunInit c = r then d else d.setCore c (Core.init r)) d) { d with cores := [] }

/-- PCIe functions after a warm reset: contexts go; MSI-X tables, PBAs and configuration space stay except after PERST_N. -/
def Function.warm (x : Function) : Function :=
  { Function.empty with msix := x.msix, pba := x.pba, config := x.config }

/-- The module after a warm reset is taken, not yet released (R550, R555). -/
def Device.warm (d : Device) (perst : Bool) : Device :=
  let levels := (List.range 16).map fun p => (p, d.holdOut ⟨.peer p, 0⟩)
  let d1 : Device := d.warmRegs.warmCores
  { d1 with
    fatal := none
    traces := d.traces.map fun t => (t.1, { Trace.empty with bytes := t.2.bytes, spill := t.2.spill })
    chutes := levels.map fun l => (chuteKey ⟨.peer l.1, 0⟩, { Chute.empty with frozen := l.2 })
    routers := []
    channels := d.channels.map fun c => (c.1, { c.2 with corrected := [] })
    fns := if perst then [] else d.fns.map fun f => (f.1, f.2.warm)
    entries := []
    tensors := []
    units := []
    surv := { Surv.init with log := d.surv.log }
    host := { HostUnit.init with
      flash := d.host.flash
      rate := if perst then 0 else d.host.rate
      width := if perst then 0 else d.host.width
      flit := if perst then false else d.host.flit }
    ports := d.ports.map fun p => (p.1, p.2.pins d.clock)
    peer := { PeerUnit.init with ptmFirst := d.peer.ptmFirst, refAt := d.clock }
    power := { PowerUnit.init with
      input := d.power.input, fault := d.power.fault, duty := d.power.duty, hot := d.power.hot, trip := d.power.trip
      thermAt := d.clock, addr := d.power.addr, led := d.power.led } }

/-- The module after a cold reset is taken, not yet released: the option shadow and boot flash stay as they are (R548, R550,
R555). -/
def Device.cold (d : Device) : Device :=
  let d1 : Device := { d with regs := d.regs.filter fun r => decide (Reg.optBlock 0 ≤ r.1) && decide (r.1 < Reg.optStage 0) }
  { Device.reset with
    fresh := d.fresh, out := d.out, regs := d1.regs
    host := { HostUnit.init with flash := d.host.flash }
    ports := d.ports.map fun p => (p.1, p.2.pins 0)
    power := { PowerUnit.init with input := d.power.input, hot := d.power.hot, trip := d.power.trip } }

/-- Device memory after a warm reset: all kept but hub-store bank A (R550). -/
def Memory.warm (m : Memory) : Memory :=
  let bankA := fun a => decide (bankStart 0 ≤ a) && decide (a < bankStart 1)
  { m with cells := m.cells.filter fun c => !(bankA c.1), poison := m.poison.filter fun a => !(bankA a) }

/-- A cold or warm reset is taken (R545, R547). A reset during a programming of boot flash leaves it torn (R458, R566). -/
def State.takeReset (s : State) (cold : Bool) (bit sub : Nat) : State :=
  let d := s.dev
  let perst := decide (bit = 1)
  let d1 := if cold then d.cold else d.warm perst
  let torn := d.rst.flashTorn || decide (d.rf Reg.fwStat 2 0 = 4)
  let r : ResetUnit :=
    { ResetUnit.init with
      held := true
      cold := cold || (d.rst.held && d.rst.cold)
      causes := causeAdd (if d.rst.held then d.rst.causes else 0) bit sub
      perst := d.rst.perst
      byPerst := perst || (d.rst.held && d.rst.byPerst)
      optTorn := d.rst.optTorn || d.rbit Reg.optStat 1
      flashTorn := torn
      optFlash := d.rst.optFlash
      committed := d.rst.committed && !torn }
  { s with
    mem := if cold then ⟨[], [], []⟩ else s.mem.warm
    dev := ({ d1 with rst := r } : Device).setRegN Reg.rstCause (d.causeAfter cold bit sub) }

/-! ## The option block (R563, R564) -/

/-- Bytes of the option block that the layout names. -/
def optNamed (i : Nat) : Bool :=
  decide (i < 6) || (decide (8 ≤ i) && decide (i < 21)) || (decide (24 ≤ i) && decide (i < 40)) || decide (508 ≤ i)

/-- Format: MAGIC, FORMAT, and every reserved byte, bit and encoding (R564). -/
def optFormatOk (bs : List Byte) : Bool :=
  decide (leAt bs 0 4 = 0x4F42_5A51) && decide (leAt bs 4 2 = 1)
    && ((List.range 512).all fun i => optNamed i || decide (leAt bs i 1 = 0))
    && decide (leAt bs 12 1 < 8) && decide (leAt bs 12 1 % 4 ≠ 3) && decide (leAt bs 13 1 < 3) && decide (leAt bs 20 1 < 2)

/-- Why the check of the option block fails, coded as OPT_WHY: 1 CRC, 2 format, 3 flash; 0 it passes (R564, R566). -/
def optWhy (o : Option (List Byte)) (torn : Bool) : Nat :=
  match o with
  | none => 3
  | some bs =>
    if torn then 1
    else if bs.length ≠ 512 then 3
    else if !(optFormatOk bs) then 2
    else if crc32c (bs.take 508) ≠ leAt bs 508 4 then 1 else 0

/-- The Default column (R563). -/
def optDefaults : List Byte :=
  (List.range 512).map fun i =>
    if i = 8 then 0xD4 else if i = 9 then 0x1F else if i = 12 then 0x04
    else if i < 6 ∨ 508 ≤ i then Config.optDefault i else 0

/-- The option load (R564): the shadow is committed from the block or from the defaults. -/
def Device.optionLoad (d : Device) (boot : BootInput) : Device :=
  let block := match boot.option with
    | none => none
    | some bs => some (d.rst.optFlash.getD bs)
  let why := optWhy block d.rst.optTorn
  let bs := if why = 0 then block.getD [] else optDefaults
  let d1 := (List.range 64).foldl (fun (d : Device) k => d.setRegN (Reg.optBlock k) (leAt bs (8 * k) 8)) d
  let d2 := ((d1.setRf Reg.optStat 0 0 1).setRf Reg.rstStat 3 3 (ofBool (decide (why ≠ 0)))).setRf Reg.rstStat 5 4 why
  let d3 := if d.rst.cold then (d2.setRf Reg.memCap 6 5 (leAt bs 12 1)).setRf Reg.memCap 7 7 (leAt bs 12 1 / 4) else d2
  d3.setRf Reg.pwrCap 15 0 (leAt bs 14 2)

/-! ## The image (R570 to R572) -/

/-- Bytes of an image header that the layout names. -/
def imgNamed (i : Nat) : Bool :=
  decide (i < 7) || (decide (8 ≤ i) && decide (i < 24)) || (decide (64 ≤ i) && decide (i < 197))
    || (decide (256 ≤ i) && decide (i < 388))

/-- Format of an image (R571). -/
def imgFormatOk (bs : List Byte) : Bool :=
  let n := leAt bs 12 4
  decide (leAt bs 0 4 = 0x5746_5A51) && decide (leAt bs 4 2 = 1) && decide (leAt bs 6 1 < 4)
    && ((List.range 512).all fun i => imgNamed i || decide (leAt bs i 1 = 0))
    && decide (n % 8 = 0) && decide (8 ≤ n) && decide (n ≤ 32505856) && decide (512 + n ≤ bs.length)
    && decide (leAt bs 16 4 < n) && decide (leAt bs 20 4 < n) && decide (leAt bs 16 4 % 8 = 0) && decide (leAt bs 20 4 % 8 = 0)

/-- The signature check of an image (R571). -/
def imgSignatureOk (bs : List Byte) : Bool :=
  let k := leAt bs 6 1
  let key := slice bs 64 133
  !(bitAt Config.fwRevoke.toNat k) && decide (sha512 key = Config.fwKey k)
    && Config.signatureOk key (sha512 (bs.take 256 ++ slice bs 512 (leAt bs 12 4))) (slice bs 256 132)

/-- Verification (R571), coded as RST.STAT.IMG: 0 verified, 1 signature, 2 format, 3 version. -/
def Device.verify (d : Device) (bs : List Byte) : Nat :=
  if !(imgFormatOk bs) then 2
  else if !(imgSignatureOk bs) then 1
  else if leAt bs 8 4 < Nat.max Config.fwFloor.toNat (d.rf (Reg.optBlock 2) 31 0) then 3 else 0

/-- An image as it runs from a bank (R572). -/
def imageOf (bs : List Byte) (bank : Nat) : Image :=
  ⟨leAt bs 8 4, leAt bs 16 4, leAt bs 20 4, bank, bs.take (512 + leAt bs 12 4)⟩

/-- The body of a verified image enters a bank. -/
def State.loadBody (s : State) (bs : List Byte) (bank : Nat) : State :=
  s.store (bankStart bank) (slice bs 512 (leAt bs 12 4)) false

/-! ## The boot sequence (R572 to R575) -/

/-- The cores of control in the order in which a live load switches them (R456). -/
def switchOrder (k : Nat) : CoreId := if k < 128 then ctrlOf (clusterOf k) else steward (131 - k)

/-- Step 7: every control core starts at its entry. -/
def Device.releaseAll (d : Device) : Device := (List.range 132).foldl (fun (d : Device) k => d.releaseControl (switchOrder k)) d

/-- Recovery: steward 0 stays in the boot ROM (R574, R575). -/
def Device.bootRom (d : Device) : Device :=
  d.setCore (steward 0)
    (let k := releasedCore Config.romEntry (BitVec.ofNat 64 (bankStart 0)) (d.reg Reg.rstCause) d.clock
     { k with csr := { k.csr with evec := Config.romEntry } })

/-- A dump slot's header is complete (R627, R629). -/
def State.slotValid (s : State) (n : Nat) : Bool :=
  let r := s.load (reserveBase + n * 0x6_0000_0000) 4096
  !r.2 && decide (leAt r.1 0 4 = 0x504D_4451) && decide (leAt r.1 4 2 = 1) && decide (leAt r.1 7 1 = 1)
    && decide (crc32c (r.1.take 4092) = leAt r.1 4092 4)

/-- Firmware checks both dump slots at each boot (R629). -/
def State.checkSlots (s : State) : State :=
  if s.dev.rbit Reg.memCap 7 then
    s.onDev fun d => d.setRf Reg.dumpStat 2 1 (ofBool (s.slotValid 0) + 2 * ofBool (s.slotValid 1))
  else s

/-- Readiness: configuration requests complete, READY, FAULT_N released, and after a warm reset other than PERST_N the PF sends
vector 0 (R423, R551, R556). -/
def Device.ready (d : Device) (phase : Nat) : Device :=
  let fns := if phase = 5 then List.range 64 else [0]
  let d1 := fns.foldl (fun (d : Device) f => d.setRf (Reg.fnStat f) 0 0 1) d
  let d2 := ((d1.setRf Reg.rstStat 2 0 phase).setRf (Reg.fnStat 0) 1 1 (ofBool (decide (phase ≠ 5)))).setRf Reg.fwStat 2 0
    (if phase = 5 then 0 else 5)
  let d3 := { d2 with host := { d2.host with ready := true }, power := { d2.power with fault := false } }
  let d4 := d3.onRst fun r => { r with held := false, report := true, stat := d3.reg Reg.rstStat, byPerst := false }
  if !d.rst.cold && !d.rst.byPerst then d4.signal 0 0 else d4

/-- Step 6: a cold boot trains every channel, and retires those that fail; a warm boot keeps training (R573). -/
def State.trainMemory (s : State) (fails : List Nat) : State :=
  if !s.dev.rst.cold then s
  else
    let s1 := s.onDev fun d => (List.range 384).foldl (fun (d : Device) c => d.setRf (Reg.chanStat (c / 48) (c % 48)) 1 0 0) d
    fails.foldl (fun s c => if c < 384 then s.retireChannel (c / 48) (c % 48) 1 else s) s1

/-- The straps are sampled on a cold sequence; a reserved SEAT is reported (R460, R506). -/
def Device.sampleStraps (d : Device) (seat feed : Nat) : Device :=
  let d1 := d.setRegN Reg.tableStat (strapWord seat feed)
  if 9 ≤ seat ∧ seat < 15 then d1.peerEmit 0 0xA001 .deferred false [(0, 1, seat), (1, 1, feed)] else d1

/-- The boot sequence (R547, R564 to R575): straps, options, fuses, image, memory, then the control cores or recovery. -/
def State.boot (s : State) (boot : BootInput) : State :=
  let s1 := s.onDev fun d =>
    (if d.rst.cold then d.sampleStraps boot.seat.toNat boot.feed.toNat else d).optionLoad boot
  let d := s1.dev
  let bs := if d.rst.committed then d.host.flash else boot.image
  let hold := d.rbit (Reg.optBlock 2) 32
  let found := d.verify bs
  let img := if hold ∨ boot.fuseFail then 0
    else if d.rst.flashTorn ∧ found = 0 then 1 + (Config.tornImage d.fresh).toNat % 3 else found
  let good := !hold && !boot.fuseFail && decide (img = 0)
  let s2 := s1.onDev fun d =>
    let d1 := if d.rst.flashTorn then d.takeFresh else d
    ({ d1 with host := { d1.host with flash := bs, image := if good then some (imageOf bs 0) else none },
               power := { d1.power with calib := true } } : Device).setRf Reg.rstStat 7 6 img
  let s3 := (if good then s2.loadBody bs 0 else s2).trainMemory boot.trainFail
  let s4 := s3.onDev fun d =>
    if good then (d.releaseAll.setRf Reg.fwStat 63 32 (leAt bs 8 4)).ready 5
    else d.bootRom.ready (if boot.fuseFail then 7 else 6)
  s4.checkSlots

/-- RESET_RELEASE: the reset is held, PERST_N is high, no thermal trip holds it, and the input is present (R545 to R547,
R592). -/
def State.release (s : State) (boot : BootInput) : State :=
  if s.dev.rst.held ∧ s.dev.rst.perst = false ∧ s.dev.power.trip = false then s.boot boot else s

/-! ## Sources (R545, R549, R552, R553) -/

/-- A write of RST.MODULE_RESET (R553). -/
def State.writeModuleReset (s : State) (w : Writer) (v : Nat) : State :=
  if bitsOf v 15 0 ≠ 0x5A3C then s
  else match w with
  | .host f => if f = 0 ∧ s.dev.host.ready then s.takeReset (bitAt v 16) 3 0 else s
  | .firmware c => if isSteward c ∧ c.core < 4 then s.takeReset (bitAt v 16) 4 0 else s

/-- An error in critical state (R549). -/
def State.critError (s : State) (which : Nat) (correctable : Bool) : State :=
  if 5 ≤ which then s
  else if correctable ∧ which < 3 then
    s.onDev fun d => (d.addRf Reg.rstStat 31 16 1).emit srcReset 0xC005 .corrected false (detail [(0, 1, which)])
  else s.takeReset (decide (which = 0)) 7 which

/-- A PCIe hot reset: every function is reset, the PCIe controller's chutes are flushed, and configuration requests are
answered with RRS until every function is reset, for a time that the manual only bounds (R550, R552). It is received on a link that is up,
also while a warm reset that keeps the link is held (R545, R551). -/
def State.hotReset (s : State) : State :=
  if !s.dev.linkUp then s
  else
    let s1 := s.onDev fun d => (d.setRf Reg.rstCause 2 2 1).onRst fun r => { r with causes := if r.held then r.causes ||| 4 else r.causes }
    let s2 := (List.range 64).foldl (fun s f => s.resetFn f) s1
    s2.onDev fun d =>
      let d1 := (List.range 8).foldl (fun (d : Device) i => d.flushChute ⟨.pci, i⟩ 1 (decide (i < 4)) (decide (4 ≤ i))) d
      ({ d1 with host := { d1.host with
          busyUntil := d1.clock + Nat.min (Config.hotTime d1.fresh) (millis 100), linkReset := d1.anyFlr } } : Device).takeFresh

/-- A steward's watchdog has expired (R545). -/
def State.stewardWatchdog (s : State) (n : Nat) : State :=
  let k := s.dev.core (steward n)
  match k.wdogAt with
  | none => s
  | some t => if 4 ≤ n ∨ s.dev.clock < t ∨ k.run = .held ∨ k.run = .blockReset then s else s.takeReset false 5 n

/-! ## Loading event ring 0 (R577, R629) -/

/-- What steward 0 reports when event ring 0 of the PF is first loaded, and a dump that waits (R577, R629, R632). -/
def State.bootReports (s : State) : State :=
  let s1 := if s.dev.rst.report then s.onDev fun d => (d.onRst fun r => { r with report := false }).emit
      (srcCore (steward 0) 0x00) 0xC001 .notice false (leBytes 8 (d.regN Reg.rstCause) ++ leBytes 8 d.rst.stat.toNat)
    else s
  let valid := s.dev.rf Reg.dumpStat 2 1
  let rel := s.dev.rf Reg.dumpStat 4 3
  let time := fun n => s.loadN (reserveBase + n * 0x6_0000_0000 + 8) 8
  let newer := if valid = 3 then Nat.max (time 0) (time 1) else if valid = 2 then time 1 else time 0
  if s.dev.rst.report ∧ valid &&& (3 - rel) ≠ 0 then
    s1.onDev fun d => d.emit (srcCore (steward 0) 0x00) 0xE003 .notice false (detail [(0, 1, valid), (1, 1, rel), (8, 8, newer)])
  else s1

/-- LOAD of an event ring (R434); the first load of ring 0 of the PF brings the reports of the boot. -/
def State.loadEventRing (s : State) (f idx : Nat) (ctx : HostRead) : State :=
  let before := (s.dev.ring 0 true 0).isSome
  let s1 := s.onDev fun d => d.loadContext f 5 idx ctx
  if !before && (s1.dev.ring 0 true 0).isSome then s1.bootReports else s1

/-! ## Programming the option block (R565, R566) -/

/-- OPT.CTL.PROGRAM: ignored while BUSY. -/
def Device.optProgram (d : Device) : Device := if d.rbit Reg.optStat 1 then d else d.setRf Reg.optStat 1 1 1

/-- The staged bytes stand in boot flash. -/
def Device.optDone (d : Device) : Device :=
  if !(d.rbit Reg.optStat 1) then d
  else
    let bs := (List.range 64).flatMap fun k => leBytes 8 (d.regN (Reg.optStage k))
    ((d.setRf Reg.optStat 1 1 0).setRf Reg.optStat 2 2 1).onRst fun r => { r with optFlash := some bs, optTorn := false }

/-! ## Live firmware loading (R455 to R458) -/

/-- PCI.FW_STAT.STATE. -/
def Device.fwState (d : Device) : Nat := d.rf Reg.fwStat 2 0

/-- A firmware command in a wrong state (R456). -/
def Device.fwSequence (d : Device) (cmd : Nat) : Device := d.pcieEmit 0 0x900D .notice false [(0, 1, cmd), (1, 1, d.fwState)]

/-- LOAD or REVERT begins verification (R456, R458). -/
def Device.fwStart (d : Device) (revert : Bool) : Device :=
  let st := d.fwState
  let ok := if revert then decide (st = 3) else decide (st = 0) || decide (st = 3) || decide (st = 5)
  if !ok then d.fwSequence (if revert then 2 else 0)
  else ({ d with host := { d.host with prior := st, revert := revert } } : Device).setRf Reg.fwStat 2 0 1

/-- Why a loaded image is rejected, coded as IMG: after a fuse failure, and where its bytes are poisoned, the signature fails
(R569, R571); FW_LEN must equal its length (R570). -/
def State.fwVerdict (s : State) (bs : List Byte) (poison : Bool) : Nat :=
  if s.dev.rf Reg.rstStat 2 0 = 7 then 1
  else if !s.dev.host.revert && decide (s.dev.rf Reg.fwLen 25 0 ≠ 512 + leAt bs 12 4) then 2
  else if poison then 1 else s.dev.verify bs

/-- The image verified is poisoned: the security engine consumed it (R36), with an event code the rules leave open (log 170). -/
def Device.imagePoison (d : Device) (poison : Bool) : Device :=
  if poison then d.emit (srcHub 0x32 0) (Config.poisonCode 0x32).toNat .deferred true (detail []) else d

/-- Verification ends (R456, R571): the image is rejected, or it enters the bank not running, in recovery bank A, and switching begins. A
REVERT verifies the image that stands in boot flash; one whose writing a reset cut short fails (R458). -/
def State.fwVerified (s : State) (_flash : List Byte) : State :=
  if s.dev.fwState ≠ 1 then s
  else
    let d := s.dev
    let r := if d.host.revert then (d.host.flash, false)
      else s.load (d.rf Reg.fwAddr 51 12 * 4096) (d.rf Reg.fwLen 25 0)
    let v0 := s.fwVerdict r.1 r.2
    let torn := d.host.revert && d.rst.flashTorn && decide (v0 = 0)
    let v := if torn then 1 + (Config.tornImage d.fresh).toNat % 3 else v0
    if v ≠ 0 then
      s.onDev fun d => (((if torn then d.takeFresh else d).imagePoison r.2).setRf Reg.fwStat 2 0 d.host.prior).pcieEmit 0 0x900A .deferred false
        [(0, 1, if v = 1 then 0 else if v = 2 then 1 else 2), (4, 4, leAt r.1 8 4)]
    else
      let bank := if d.host.prior = 5 then 0 else 1 - (d.host.image.map Image.bank).getD 0
      (s.loadBody r.1 bank).onDev fun d =>
        (({ d with host := { d.host with next := some (imageOf r.1 bank) } } : Device).setRf Reg.fwStat 2 0 2).setRf Reg.fwStat 15 8 0

/-- A cluster's control core is in the middle of a dispatch: it holds an entry that may start, or a launch whose cores are free (R438,
R457; log 211). -/
def Device.dispatching (d : Device) (cl : ClusterId) : Bool :=
  d.entries.any fun e => decide (d.entryCluster e = cl) && match e.phase with
    | .held => d.mayStart e && (decide (e.op ≠ 3)
        || !(d.entries.any fun x => decide (x.fn = e.fn) && decide (x.queue = e.queue) && decide (x.slot ≠ e.slot)))
    | .ready => !(d.launchHeld e) && (d.launchCores e).all fun c => decide ((d.core c).run = .idle) && !(d.core c).parked
    | .running => false

/-- From recovery the rest of the boot sequence takes the place of switching: every control core starts with the new image, which then
runs (R456, R574). -/
def Device.bootSwitch (d : Device) (m : Image) : Device :=
  let d1 := ({ d with host := { d.host with image := some m, next := none } } : Device).setRf Reg.fwStat 2 0 3
  let d2 := (List.range 64).foldl (fun (d : Device) f => d.setRf (Reg.fnStat f) 0 0 1) d1.releaseAll
  let d3 := ((d2.setRf (Reg.fnStat 0) 1 1 0).setRf Reg.rstStat 2 0 5).setRf Reg.fwStat 15 8 132
  (d3.setRf Reg.fwStat 63 32 m.version).pcieEmit 0 0x900B .notice false [(4, 4, m.version)]

/-- Control core k of the order switches once its dispatch is complete: it starts at its entry of the new image, its notifications kept;
after the last the new image runs (R456 to R458). -/
def Device.coreSwitch (d : Device) (k : Nat) : Device :=
  match d.host.next with
  | none => d
  | some m =>
    let c := switchOrder k
    let busy := decide ((d.core c).run = .blockReset) || d.rst.clusters.contains (16 * c.die + c.cluster) && decide (c.die < 8)
    if d.fwState ≠ 2 ∨ 132 ≤ k ∨ d.rf Reg.fwStat 15 8 ≠ k ∨ (k < 128 ∧ d.dispatching (clusterOf k) = true) then d
    else if d.host.prior = 5 then d.bootSwitch m
    else
      let ip := (d.core c).csr.ipend
      let entry := bankStart m.bank + (if c.die = 8 then m.entryHub else m.entryClu)
      let d1 := if busy then d else (d.setCore c (releasedCore (BitVec.ofNat 64 entry) (BitVec.ofNat 64 (bankStart m.bank))
        (d.reg Reg.rstCause) d.clock)).onCore c fun x => { x with csr := { x.csr with ipend := ip } }
      let d2 := d1.setRf Reg.fwStat 15 8 (k + 1)
      if k < 131 then d2
      else
        let d3 := { d2 with host := { d2.host with image := some m, next := none } }
        ((d3.setRf Reg.fwStat 2 0 (if d.host.revert then 0 else 3)).setRf Reg.fwStat 63 32 m.version).pcieEmit 0 0x900B .notice false
          [(4, 4, m.version)]

/-- COMMIT (R458). -/
def Device.fwCommit (d : Device) : Device := if d.fwState = 3 then d.setRf Reg.fwStat 2 0 4 else d.fwSequence 1

/-- The running image stands in boot flash (R458). -/
def Device.fwFlashed (d : Device) : Device :=
  if d.fwState ≠ 4 then d
  else
    let bs := (d.host.image.map Image.bytes).getD []
    let d1 := ({ d with host := { d.host with flash := bs } } : Device).onRst fun r => { r with committed := true, flashTorn := false }
    (d1.setRf Reg.fwStat 2 0 0).pcieEmit 0 0x900C .notice false [(4, 4, d.rf Reg.fwStat 63 32)]

/-! ## Commands -/

/-- POWER_ON_RESET: the input came back, and every rail is in its window (R545, R581). Boot flash is what survives. -/
def execPowerOnReset (seat : BitVec 4) (feed : BitVec 2) (s : State) : Host.Outcome State Fault Refusal :=
  .next (if s.dev.power.input then s
    else { s with
      mem := ⟨[], [], []⟩
      dev := ({ Device.reset with
        fresh := s.dev.fresh, out := s.dev.out
        host := { HostUnit.init with flash := s.dev.host.flash }
        rst := { ResetUnit.init with
          perst := s.dev.rst.perst, optTorn := s.dev.rst.optTorn, flashTorn := s.dev.rst.flashTorn
          optFlash := s.dev.rst.optFlash, committed := s.dev.rst.committed } } : Device).setRegN
            Reg.tableStat (strapWord seat.toNat feed.toNat) })

/-- MODULE_RESET_COLD. -/
def execModuleResetCold (w : Writer) (v : W64) (s : State) : Host.Outcome State Fault Refusal :=
  memNext s fun s => if bitAt v.toNat 16 then s.writeModuleReset w v.toNat else s

/-- MODULE_RESET_WARM. -/
def execModuleResetWarm (w : Writer) (v : W64) (s : State) : Host.Outcome State Fault Refusal :=
  memNext s fun s => if bitAt v.toNat 16 then s else s.writeModuleReset w v.toNat

/-- PERST_ASSERT: PERST_N has stayed low for 2.0 µs (R546). -/
def execPerstAssert (s : State) : Host.Outcome State Fault Refusal :=
  memNext s fun s => if s.dev.rst.perst then s
    else (s.takeReset false 1 0).onDev fun d => d.onRst fun r => { r with perst := true }

/-- PERST_PULSE_FILTERED (R546). -/
def execPerstPulseFiltered (s : State) : Host.Outcome State Fault Refusal := devNext s fun d => d.addRf Reg.rstStat 15 8 1

/-- PERST_RELEASE: PERST_N has stayed high for 2.0 µs (R546). -/
def execPerstRelease (s : State) : Host.Outcome State Fault Refusal :=
  devNext s fun d => d.onRst fun r => { r with perst := false }

/-- WATCHDOG_EXPIRY. -/
def execWatchdogExpiry (st : Nat) (s : State) : Host.Outcome State Fault Refusal := memNext s fun s => s.stewardWatchdog st

/-- CRIT_ERROR. -/
def execCritError (which : Nat) (correctable : Bool) (s : State) : Host.Outcome State Fault Refusal :=
  memNext s fun s => s.critError which correctable

/-- HOT_RESET. -/
def execHotReset (s : State) : Host.Outcome State Fault Refusal := memNext s State.hotReset

/-- RESET_RELEASE. -/
def execResetRelease (boot : BootInput) (s : State) : Host.Outcome State Fault Refusal := memNext s fun s => s.release boot

/-- OPT_PROGRAM. -/
def execOptProgram (s : State) : Host.Outcome State Fault Refusal := devNext s Device.optProgram

/-- OPT_PROGRAM_DONE. -/
def execOptProgramDone (s : State) : Host.Outcome State Fault Refusal := devNext s Device.optDone

/-- OPT_STAT_READ. -/
def execOptStatRead (s : State) : Host.Outcome State Fault Refusal :=
  devNext s fun d => (d.send (.reg Reg.optStat (d.reg Reg.optStat))).clearRc Reg.optStat

/-- RST_STAT_READ. -/
def execRstStatRead (s : State) : Host.Outcome State Fault Refusal :=
  devNext s fun d => (d.send (.reg Reg.rstStat (d.reg Reg.rstStat))).clearRc Reg.rstStat

/-- RST_CAUSE_WRITE: the cause bits are W1C (R576). -/
def execRstCauseWrite (v : W64) (s : State) : Host.Outcome State Fault Refusal :=
  devNext s fun d => d.writeFields Reg.rstCause v

/-- LOAD_EVENT_RING. -/
def execLoadEventRing (fn idx : Nat) (ctx : HostRead) (s : State) : Host.Outcome State Fault Refusal :=
  memNext s fun s => s.loadEventRing fn idx ctx

/-- A write of PCI.FW_CTL takes effect where the PF answers (R455, R551). -/
def Device.whileOpen (d : Device) (f : Device → Device) : Device := if d.barOpen 0 then f d else d

/-- FW_LOAD. -/
def execFwLoad (s : State) : Host.Outcome State Fault Refusal := devNext s fun d => d.whileOpen fun d => d.fwStart false

/-- FW_VERIFY_DONE. -/
def execFwVerifyDone (flash : List Byte) (s : State) : Host.Outcome State Fault Refusal := memNext s fun s => s.fwVerified flash

/-- CORE_SWITCH. -/
def execCoreSwitch (k : Nat) (s : State) : Host.Outcome State Fault Refusal := devNext s fun d => d.coreSwitch k

/-- FW_COMMIT. -/
def execFwCommit (s : State) : Host.Outcome State Fault Refusal := devNext s fun d => d.whileOpen Device.fwCommit

/-- FW_FLASH_DONE. -/
def execFwFlashDone (s : State) : Host.Outcome State Fault Refusal := devNext s Device.fwFlashed

/-- FW_REVERT. -/
def execFwRevert (s : State) : Host.Outcome State Fault Refusal := devNext s fun d => d.whileOpen fun d => d.fwStart true

end Sys2Proof.Machine
end

