-- ==== Sys2Proof/Machine/Power.lean ====
section
/-!
DEFINITION. Power and heat (chapter 16): the power limit and its control (R582 to R585), the thermal handshake (R586, R587),
sensors, alert, throttle and trip (R589 to R593), the cooling demand (R594), the input (R578 to R581) and the I3C target (R599).
-/
namespace Sys2Proof.Machine

/-- A record of the power and thermal controller (R604). -/
def Device.powerEmit (d : Device) (code : Nat) (cls : EvClass) (det : List (Nat × Nat × Nat)) : Device :=
  d.emit (srcHub 0x37 0) code cls false (detail det)

/-- The module with the power controller changed by a function. -/
def Device.onPower (d : Device) (f : PowerUnit → PowerUnit) : Device := { d with power := f d.power }

/-! ## The power limit (R582, R585) -/

/-- The envelope of a cooling class, coded as COOL_CLASS (R582). -/
def envelopeOf (cls : Nat) : Nat := if cls = 1 then 3200 else if cls = 2 then 3000 else 1600

/-- The envelope of the class in force. -/
def Device.envelope (d : Device) : Nat := envelopeOf (d.rf Reg.thermStat 3 2)

/-- LIMIT: the smallest of the cap, the envelope and the thermal limit (R582). -/
def Device.limit (d : Device) : Nat :=
  let e := d.envelope
  Nat.min (if d.power.cap = 0 then e else d.power.cap) (Nat.min e d.power.therm)

/-- PWR_STAT.LIMIT follows. -/
def Device.showLimit (d : Device) : Device := d.setRf Reg.pwrStat 15 0 d.limit

/-! ## The thermal handshake (R586, R587) -/

/-- JRISE from the sums of the 128 readings before and after, in 0.1 K, rounded toward zero; a fall counts as no rise. -/
def jrise (before after : Int) : Nat := ((after - before) * 10 / 128).toNat

/-- The measured class, coded as COOL_CLASS (R586). -/
def measuredClass (j : Nat) : Nat := if j ≤ 40 then 1 else if j ≤ 60 then 2 else 0

/-- The order of the classes: air, immersion, liquid (R587). -/
def classRank (c : Nat) : Nat := if c = 1 then 2 else if c = 2 then 1 else 0

/-- The lower of two classes. -/
def lowerClass (a b : Nat) : Nat := if classRank a ≤ classRank b then a else b

/-- The handshake ends: class, DONE, the cap, LIMIT, COOL_CLASS (R585, R587). A thermal limit at the old envelope is at the new. -/
def Device.calibrated (d : Device) (before after : Int) : Device :=
  if !d.power.calib || d.rst.held then d
  else
    let j := jrise before after
    let meas := measuredClass j
    let recorded := d.rf (Reg.optBlock 1) 41 40
    let cls := lowerClass meas recorded
    let old := d.envelope
    let d1 := (((d.setRf Reg.thermStat 1 0 meas).setRf Reg.thermStat 3 2 cls).setRf Reg.thermStat 4 4 1).setRf
      Reg.thermStat 39 32 (satBits 8 j)
    let d2 := d1.onPower fun x =>
      { x with calib := false, cap := d.rf Reg.pwrCap 15 0, therm := if x.therm = old then envelopeOf cls else x.therm }
    d2.showLimit.powerEmit 0xD001 .notice [(0, 1, recorded), (1, 1, meas), (2, 1, cls), (4, 2, satBits 16 j)]

/-! ## Power control (R583, R584) -/

/-- Compute cores of a cluster that may be parked: idle and not parked. -/
def Device.parkable (d : Device) (cl : Nat) : List CoreId :=
  ((d.cluster (clusterOf cl)).positions.map fun k => coreIn (clusterOf cl) k).filter fun c =>
    decide ((d.core c).run = .idle) && !(d.core c).parked

/-- A compute core is parked: its island stops (R27, R583, R621). -/
def Device.park (d : Device) (c : CoreId) : Device := (d.noteStop c).onCore c fun k => { k with parked := true }

/-- A compute core is unparked: its island restarts. -/
def Device.unpark (d : Device) (c : CoreId) : Device := (d.onCore c fun k => { k with parked := false }).noteStart c

/-- PWR_STAT.PARKED counts the parked cores. -/
def Device.showParked (d : Device) : Device :=
  let n := (d.power.parked.map fun cl => ((List.range 0x22).filter fun k => (d.core (coreIn (clusterOf cl) k)).parked).length).sum
  d.setRf Reg.pwrStat 60 48 n

/-- The next cluster, from the rotating start, that has a core to park. -/
def Device.nextToPark (d : Device) : Option Nat :=
  ((List.range 128).map fun i => (d.power.turn + i) % 128).find? fun cl => !(d.parkable cl).isEmpty

/-- Power is reduced: setpoints first, then one cluster's idle cores (R583). Whether the setpoints have reached their floor is
open. -/
def Device.reducePower (d : Device) : Device :=
  if !d.power.atFloor then (d.onPower fun x => { x with atFloor := Config.atFloor d.fresh }).takeFresh
  else match d.nextToPark with
  | none => d
  | some cl => ((d.parkable cl).foldl Device.park d).onPower fun x =>
      { x with parked := x.parked ++ [cl] }

/-- Power is restored in the reverse order (R583). -/
def Device.restorePower (d : Device) : Device :=
  match d.power.parked.getLast? with
  | some cl => ((List.range 0x22).foldl (fun (d : Device) k =>
      let c := coreIn (clusterOf cl) k
      if (d.core c).parked then d.unpark c else d) d).onPower fun x =>
        { x with parked := x.parked.dropLast }
  | none => d.onPower fun x => { x with atFloor := false }

/-- Every compute core in service is busy, at the clock floor (R584). -/
def Device.allBusy (d : Device) : Bool :=
  d.power.atFloor && (List.range 128).all fun cl => (d.cluster (clusterOf cl)).positions.all fun k =>
    decide ((d.core (coreIn (clusterOf cl) k)).run ≠ .idle)

/-- The bound overSince 10 ms: 1.02 × LIMIT + 20 W; broken for 10 ms, CAP_UNMET is emitted once until LIMIT is met (R584). -/
def Device.checkBound (d : Device) : Device :=
  let ws := d.power.watts
  let sum := ws.sum
  let broken := decide (100 * sum > (102 * d.limit + 2000) * ws.length) && !d.allBusy
  let overSince := if broken then some (d.power.overSince.getD d.clock) else none
  let met := decide (sum ≤ d.limit * ws.length)
  let due := match overSince with
    | some t => decide (t + millis 10 ≤ d.clock)
    | none => false
  let d1 := d.onPower fun x => { x with overSince := overSince, told := if met then false else x.told || due }
  if due ∧ d.power.told = false then d1.powerEmit 0xD004 .notice [(0, 2, d.limit), (2, 2, sum / ws.length)] else d1

/-- Stretch events of islands (R26, R608, R609). -/
def Device.stretch (d : Device) (e : IslandStretch) : Device :=
  let known := match blockAt e.register with
    | some (.cluster _ _, off) => decide (off = 0xA8) || decide (off = 0xB8)
    | some (.core _ _ _, off) => decide (off = 0xC8)
    | some (.steward _, off) => decide (off = 0xC8)
    | some (.peer p, off) => decide (p < 16) && decide (off = 0x30)
    | some (.memGroup _ _, off) => decide (off = 0x08)
    | some (.die _, off) => decide (off = 0x08)
    | some (.hubStop _, off) => decide (off = 0x08)
    | some (.pci, off) => decide (off = 0x08)
    | some (.hubSec, off) => decide (off = 0x08)
    | some (.hubStore, off) => decide (off = 0x08)
    | _ => false
  if known then (d.addRf e.register 31 0 e.events).addRf (Reg.dbgCnt 4) 47 0 e.events else d

/-- Idle cores of parked clusters that a register access unparked are parked again (R607). -/
def Device.parkAgain (d : Device) : Device :=
  d.power.parked.foldl (fun (d : Device) cl =>
    (d.parkable cl).foldl Device.park d) d

/-- A control period of 100 µs (R583 to R585). -/
def Device.controlPeriod (d : Device) (watts millivolts : Nat) (stretched : List IslandStretch) : Device :=
  let d0 := stretched.foldl Device.stretch d
  let d1 := (d0.onPower fun x =>
    { x with cap := if x.calib then x.cap else d.rf Reg.pwrCap 15 0, watts := (watts :: x.watts).take 100 }).showLimit
  let d2 := (d1.setRf Reg.pwrStat 31 16 (satBits 16 watts)).setRf Reg.pwrStat 47 32 (satBits 16 millivolts)
  let d3 := (if watts > d2.limit then d2.reducePower else d2.restorePower).parkAgain
  (d3.onPower fun x => { x with turn := (x.turn + 1) % 128 }).showParked.checkBound

/-! ## Sensors (R589 to R593) -/

/-- A reading that is returned and lies in −40 °C to 150 °C. -/
def goodReading (r : Option Int) : Option Int :=
  match r with
  | some t => if -40 ≤ t ∧ t ≤ 150 then some t else none
  | none => none

/-- What a sensor counts as reading (R593). -/
def Device.sensed (d : Device) (rs : List (Option Int)) (i : Nat) : Int :=
  match goodReading (rs.getD i none) with
  | some t => t
  | none => Int.ofNat (if i < 132 then d.rf Reg.thermCtl 7 0 else d.rf Reg.thermCtl 15 8)

/-- The hottest of some sensors, the lowest index among equals. -/
def hottest (f : Nat → Int) (is : List Nat) : Int × Nat :=
  is.foldl (fun (a : Int × Nat) i => if a.1 < f i then (f i, i) else a) (f (is.headD 0), is.headD 0)

/-- A temperature in a register field of 8 bits; below 0 °C the manual does not say how it shows. -/
def tempByte (t : Int) : Nat := if t < 0 then (Config.coldReading t).toNat else t.toNat

/-- SENSOR_FAIL once for each failing sensor (R593). -/
def Device.failSensors (d : Device) (rs : List (Option Int)) : Device :=
  (List.range 228).foldl (fun (d : Device) i =>
    if (goodReading (rs.getD i none)).isSome || d.power.failed.contains i then d
    else (d.onPower fun x => { x with failed := sinsert x.failed i }).powerEmit 0xD005 .deferred [(0, 2, i)]) d

/-- The duty of COOL_REQ once DUTY has been written (R594). -/
def Device.cool (d : Device) : Device :=
  if !d.power.dutySet then d
  else
    let duty := d.rf Reg.coolReq 7 0
    let auto := 100 - Nat.min 100 (4 * d.rf Reg.thermStat 31 24)
    d.onPower fun x => { x with duty := if d.rbit Reg.coolReq 8 then Nat.max duty auto else duty }

/-- ALERT with its hysteresis (R590). -/
def Device.alertNext (d : Device) (j m : Int) : Bool :=
  let a := Int.ofNat (d.rf Reg.thermCtl 7 0)
  let am := Int.ofNat (d.rf Reg.thermCtl 15 8)
  let h := Int.ofNat (d.rf Reg.thermCtl 19 16)
  if a ≤ j ∨ am ≤ m then true
  else if j ≤ a - h ∧ m ≤ am - h then false else d.rbit Reg.thermStat 5

/-- A reading of all sensors, but for the trip. -/
def Device.readSensors (d0 : Device) (rs : List (Option Int)) : Device :=
  let d := d0.failSensors rs
  let f := d.sensed rs
  let j := hottest f (List.range 132)
  let m := hottest f ((List.range 96).map fun i => 132 + i)
  let a := Int.ofNat (d.rf Reg.thermCtl 7 0)
  let am := Int.ofNat (d.rf Reg.thermCtl 15 8)
  let margin := (min (a - j.1) (am - m.1)).toNat
  let was := d.rbit Reg.thermStat 5
  let now := d.alertNext j.1 m.1
  let d1 := ((d.setRf Reg.thermStat 15 8 (tempByte j.1)).setRf Reg.thermStat 23 16 (tempByte m.1)).setRf Reg.thermStat 31 24 margin
  let d2 := (d1.setRf Reg.thermStat 5 5 (ofBool now)).cool
  let top := if j.1 < m.1 then m else j
  if now = was then d2 else d2.powerEmit 0xD002 .notice [(0, 1, ofBool now), (1, 1, tempByte top.1), (2, 2, top.2)]

/-- The trip condition of one reading; failing sensors never cause it (R592, R593). -/
def tripReading (rs : List (Option Int)) : Bool :=
  (List.range 228).any fun i => match goodReading (rs.getD i none) with
    | some t => decide ((if i < 132 then 110 else 100) ≤ t)
    | none => false

/-- Cool enough to end a trip (R592). -/
def Device.cooled (d : Device) (rs : List (Option Int)) : Bool :=
  (List.range 228).all fun i => decide (d.sensed rs i ≤ (if i < 132 then 90 else 85))

/-- SENSOR_READ: alert and margin; two hot readings in a row trip: FAULT_N, TRIP_TJ and a warm reset held until the module has
cooled (R590, R592). -/
def State.sensorRead (s : State) (rs : List (Option Int)) : State :=
  let hot := tripReading rs
  let s1 := s.onDev fun d => (d.readSensors rs).onPower fun x => { x with hot := hot }
  if s.dev.power.trip then
    (if s.dev.cooled rs then s1.onDev fun d => d.onPower fun x => { x with trip := false } else s1)
  else if hot ∧ s.dev.power.hot = true then
    let top := (hottest (s.dev.sensed rs) (List.range 132)).1
    (s1.onDev fun d => (d.setRf Reg.thermStat 47 40 (tempByte top)).onPower fun x => { x with fault := true, trip := true }).takeReset
      false 6 0
  else s1

/-! ## The thermal limit (R591) -/

/-- A step of the thermal limit: 5 % of the envelope down each 1 ms under ALERT, to 400 W; up each 10 ms after it. -/
def Device.thermStep (d : Device) : Device :=
  let alert := d.rbit Reg.thermStat 5
  let env := d.envelope
  if d.clock < d.power.thermAt + millis (if alert then 1 else 10) then d
  else
    let t := if alert then Nat.max 400 (d.power.therm - env / 20) else Nat.min env (d.power.therm + env / 20)
    let was := d.rbit Reg.thermStat 6
    let now := decide (t < env)
    let d1 := ((d.onPower fun x => { x with therm := t, thermAt := d.clock }).setRf Reg.thermStat 6 6 (ofBool now)).showLimit
    if now = was then d1 else d1.powerEmit 0xD003 .notice [(0, 1, ofBool now), (2, 2, t)]

/-- A write of COOL_REQ by a steward (R594): the pin leaves its reset level at the first write of a legal DUTY. -/
def Device.writeCoolReq (d : Device) (v : W64) : Device :=
  ((d.writeFields Reg.coolReq v).onPower fun x => { x with dutySet := x.dutySet || decide (bitsOf v.toNat 7 0 ≤ 100) }).cool

/-- The input is removed: every piece of state is lost; boot flash and the board's straps and pins are not the module's (R581). -/
def State.removeInput (s : State) : State :=
  { s with
    mem := ⟨[], [], []⟩
    dev := { Device.reset with
      fresh := s.dev.fresh, out := s.dev.out
      host := { HostUnit.init with flash := s.dev.host.flash }
      power := { PowerUnit.init with input := false, fault := false }
      rst := { ResetUnit.init with
        perst := s.dev.rst.perst
        optTorn := s.dev.rst.optTorn || s.dev.rbit Reg.optStat 1
        flashTorn := s.dev.rst.flashTorn || decide (s.dev.rf Reg.fwStat 2 0 = 4)
        optFlash := s.dev.rst.optFlash
        committed := s.dev.rst.committed && !decide (s.dev.rf Reg.fwStat 2 0 = 4) } } }

/-! ## The I3C target (R599) -/

/-- Byte i of the target; offsets that hold no register are open. -/
def Device.i3cByte (d : Device) (i : Nat) : Byte :=
  let fields := leBytes 8 (d.regN Reg.partId) ++ leBytes 2 (d.rf Reg.pwrStat 47 32) ++ leBytes 2 (d.rf Reg.pwrStat 31 16)
    ++ leBytes 1 (d.rf Reg.thermStat 15 8) ++ leBytes 1 (d.rf Reg.thermStat 3 2) ++ leBytes 1 (d.rf Reg.rstStat 2 0)
    ++ leBytes 1 (d.rf Reg.thermStat 5 5 + d.rf Reg.thermStat 6 6 <<< 1 + ofBool d.power.fault <<< 2) ++ slice Config.serial 0 12
  if i < 0x1C then fields.getD i 0 else Config.i3cByte i

/-- The target answers from step 1 of a cold boot on (R555, R599). -/
def Device.i3cAnswers (d : Device) : Bool := !(d.rst.held && d.rst.cold)

/-! ## Commands -/

/-- CALIBRATION_END. -/
def execCalibrationEnd (before after : Int) (s : State) : Host.Outcome State Fault Refusal :=
  devNext s fun d => d.calibrated before after

/-- POWER_CONTROL_PERIOD. -/
def execPowerControlPeriod (watts millivolts : Nat) (stretched : List IslandStretch) (s : State) :
    Host.Outcome State Fault Refusal := devNext s fun d => d.controlPeriod watts millivolts stretched

/-- SENSOR_READ. -/
def execSensorRead (readings : List (Option Int)) (s : State) : Host.Outcome State Fault Refusal :=
  memNext s fun s => s.sensorRead readings

/-- THERMAL_LIMIT_STEP. -/
def execThermalLimitStep (s : State) : Host.Outcome State Fault Refusal := devNext s Device.thermStep

/-- COOL_REQ_WRITE. -/
def execCoolReqWrite (v : W64) (s : State) : Host.Outcome State Fault Refusal := devNext s fun d => d.writeCoolReq v

/-- RAIL_LEAVES_WINDOW: below 30.0 V no behaviour is guaranteed (R28, R578). -/
def execRailLeavesWindow (_s : State) : Host.Outcome State Fault Refusal := .fault .undefinedSupply

/-- INPUT_REMOVED. -/
def execInputRemoved (s : State) : Host.Outcome State Fault Refusal := memNext s State.removeInput

/-- I3C_READ. -/
def execI3cRead (off len : Nat) (s : State) : Host.Outcome State Fault Refusal :=
  devNext s fun d => if d.i3cAnswers then d.send (.i3c ((List.range len).map fun i => d.i3cByte (off + i))) else d

/-- I3C_ADDRESS_ASSIGN: the dynamic address. -/
def execI3cAddressAssign (addr : BitVec 7) (s : State) : Host.Outcome State Fault Refusal :=
  devNext s fun d => if d.i3cAnswers then d.onPower fun x => { x with addr := some addr } else d

end Sys2Proof.Machine
end

