-- ==== Sys2Proof/Machine/Trace.lean ====
section
/-!
DEFINITION. Trace commands (R616, R620, R623, R624) and the fatal dump (R625 to R629).
-/
namespace Sys2Proof.Machine

/-! ## Trace commands (R616, R620, R623, R624) -/

/-- The partitions that PART of DBG.TRACE_CMD names (R623). -/
def partsOf (p : Nat) : List Nat := if p = 0xFF then List.range 132 else if p < 132 then [p] else []

/-- A trace operation on every partition named. -/
def Device.onParts (d : Device) (p : Nat) (f : Device → Nat → Device × List Ev) : Device :=
  (partsOf p).foldl (fun (d : Device) q => Device.traced (f d q)) d

/-- The gathered outcomes of a partition are 1 µs old: they are written (R616). -/
def Device.brFlush (d : Device) (p : Nat) : Device × List Ev :=
  if (d.trace p).outcomes.isEmpty ∨ d.clock < (d.trace p).brSince + micros 1 then (d, []) else d.brWrite p

/-- DBG.TRACE_DATA: the 8 bytes at TRACE_PTR, whose offset then advances within the partition (R624). A partition that does not
exist reads zero. -/
def Device.traceRead (d : Device) : Device × W64 :=
  let p := d.rf Reg.tracePtr 7 0
  let off := d.rf Reg.tracePtr 27 8 / 8 * 8
  if 132 ≤ p then (d, 0)
  else
    let size := traceSram p
    let bytes := (List.range 8).map fun i => tget (d.trace p).bytes 0 ((off + i) % size)
    (d.setRf Reg.tracePtr 27 8 ((off + 8) % size), BitVec.ofNat 64 (leNat bytes))

/-! ## The fatal dump (R625 to R629) -/

/-- The steward that writes the dump: the lowest-numbered one that is not halted (R626). -/
def Device.dumpWriter (d : Device) : Option Nat :=
  (List.range 4).find? fun k => match (d.core (steward k)).run with
    | .halted => false
    | .held => false
    | .blockReset => false
    | _ => true

/-- Device address of a dump slot (R625). -/
def slotAddr (n : Nat) : Nat := reserveBase + n * 0x6_0000_0000

/-- The slot a dump goes to: one that holds no complete unreleased dump, else the one with the older TIME (R625). -/
def State.dumpSlot (s : State) : Nat :=
  let kept := fun n => s.dev.rbit Reg.dumpStat (1 + n) && !(s.dev.rbit Reg.dumpStat (3 + n))
  if !(kept 0) then 0
  else if !(kept 1) then 1
  else if s.loadN (slotAddr 1 + 8) 8 < s.loadN (slotAddr 0 + 8) 8 then 1 else 0

/-- A section: its header, its data, and padding to 64 bytes (R628). -/
def dumpSection (type : Nat) (data : List Byte) : List Byte :=
  let bs := leBytes 2 type ++ leBytes 2 0 ++ leBytes 4 data.length ++ leBytes 4 (crc32c data) ++ leBytes 4 0 ++ data
  bs ++ List.replicate ((64 - bs.length % 64) % 64) 0

/-- CONTROL: 296 bytes for each control core not in block reset (R628). -/
def Device.dumpControl (d : Device) : List Byte :=
  (allControl.filter fun c => decide ((d.core c).run ≠ .blockReset)).flatMap fun c =>
    let k := d.core c
    leBytes 8 (csrCore c) ++ leBytes 8 k.pc.toNat ++ leBytes 8 (1 + 2 * ofBool k.csr.exc + 4 * ofBool k.csr.fpend)
      ++ leBytes 8 k.csr.cause.toNat ++ leBytes 8 k.csr.epc.toNat ++ (List.range 32).flatMap fun i => leBytes 8 (k.getS i).val.toNat

/-- REGS: device address and value of every CHAN_STAT, PORT_STAT and CORES_STAT (R356, R628). Firmware's own list is empty. -/
def Device.dumpRegs (d : Device) : List Byte :=
  let os := ((List.range 384).map fun c => Reg.chanStat (c / 48) (c % 48)) ++ (List.range 16).map Reg.portStat
    ++ allClusters.map Reg.coresStat
  os.flatMap fun o => leBytes 8 (0xF_0000_0000_0000 + o) ++ leBytes 8 (d.regN o)

/-- TRACE: for each partition its registers and its SRAM (R628). -/
def Device.dumpTrace (d : Device) : List Byte :=
  (List.range 132).flatMap fun p =>
    leBytes 8 (d.regN (Reg.traceStat p)) ++ leBytes 8 (d.regN (Reg.traceCtl p))
      ++ (List.range (traceSram p)).map fun i => tget (d.trace p).bytes 0 i

/-- STEPLOG: 1,024 records, oldest first; those not yet written are zero (R516, R628). -/
def Device.dumpLog (d : Device) : List Byte :=
  d.surv.log.reverse.flatten ++ List.replicate (64 * (1024 - d.surv.log.length)) 0

/-- ROSTER: ROSTER_CTL and the nine entries (R628). -/
def Device.dumpRoster (d : Device) : List Byte :=
  leBytes 8 (d.regN Reg.rosterCtl) ++ (List.range 9).flatMap fun t => leBytes 8 (d.regN (Reg.roster t))

/-- The sections of a dump in order, END last (R628). All of them fit a slot, so none is cut. -/
def Device.dumpSections (d : Device) : List Byte :=
  dumpSection 1 (d.log.history.reverse.flatMap EventRec.bytes)
    ++ dumpSection 2 ([Reg.rstCause, Reg.rstStat, Reg.memCap, Reg.survStat, Reg.thermStat].flatMap fun o => leBytes 8 (d.regN o))
    ++ dumpSection 3 d.dumpControl ++ dumpSection 4 d.dumpRegs ++ dumpSection 5 d.dumpTrace ++ dumpSection 6 d.dumpLog
    ++ dumpSection 7 d.dumpRoster ++ (dumpSection 0 []).take 16

/-- The header of a dump slot (R627). -/
def Device.dumpHeader (d : Device) (f : FatalState) (slot writer length : Nat) (complete : Bool) : List Byte :=
  let body := slice (leBytes 4 0x504D_4451 ++ leBytes 2 1 ++ leBytes 1 slot ++ leBytes 1 (ofBool complete) ++ leBytes 8 f.first.time.toNat
    ++ f.first.bytes ++ slice Config.serial 0 12 ++ leBytes 4 ((d.host.image.map Image.version).getD 0)
    ++ leBytes 4 (d.surv.go.getD 0) ++ leBytes 2 d.rosterEpoch ++ leBytes 2 8 ++ leBytes 8 length ++ leBytes 2 f.more
    ++ leBytes 1 writer) 0 4092
  body ++ leBytes 4 (crc32c body)

/-- Firmware requests the warm reset after a fatal event (R626, R556). -/
def State.dumpReset (s : State) : State := s.takeReset false 4 0

/-- FAULT_N is asserted and every trace port stops (R556, R626). -/
def Device.dumpBegin (d : Device) : Device :=
  (d.onPower fun x => { x with fault := true }).onParts 0xFF Device.traceStop

/-- A record of the dump's writer (R632). -/
def Device.dumpEmit (d : Device) (w code : Nat) (cls : EvClass) (det : List (Nat × Nat × Nat)) : Device :=
  d.emit (srcCore (steward w) 0x00) code cls false (detail det)

/-- The dump of the first fatal record (R626): without DUMP_EN none is written; a slot that cannot be written keeps COMPLETE = 0;
a warm reset follows. -/
def State.dump (s : State) (writeError : Bool) : State :=
  match s.dev.fatal, s.dev.dumpWriter with
  | some f, some w =>
    if !(s.dev.rbit Reg.memCap 7) then
      (s.onDev fun d => d.dumpBegin.dumpEmit w 0xE002 .deferred [(0, 1, 0), (1, 1, 0)]).dumpReset
    else
      let n := s.dumpSlot
      let s1 := s.onDev fun d => ((d.dumpBegin.setRf Reg.dumpStat (1 + n) (1 + n) 0).setRf Reg.dumpStat (3 + n) (3 + n) 0).setRf
        Reg.dumpStat 5 5 n
      let sections := s1.dev.dumpSections
      let length := 4096 + sections.length
      if writeError then
        ((s1.store (slotAddr n) (s1.dev.dumpHeader f n w 0 false) false).onDev fun d =>
          d.dumpEmit w 0xE002 .deferred [(0, 1, 1), (1, 1, n)]).dumpReset
      else
        (((s1.store (slotAddr n + 4096) sections false).store (slotAddr n) (s1.dev.dumpHeader f n w length true) false).onDev fun d =>
          (d.setRf Reg.dumpStat (1 + n) (1 + n) 1).dumpEmit w 0xE001 .notice [(0, 1, n), (2, 2, 8), (8, 8, length)]).dumpReset
  | _, _ => s

/-- DBG.DUMP_CTL.RELEASE (R629). -/
def Device.dumpRelease (d : Device) (v : Nat) : Device :=
  (d.setRf Reg.dumpCtl 1 0 (d.rf Reg.dumpCtl 1 0 ||| bitsOf v 1 0)).setRf Reg.dumpStat 4 3 (d.rf Reg.dumpStat 4 3 ||| bitsOf v 1 0)

/-! ## Commands -/

/-- TRACE_START: OP start in DBG.TRACE_CMD. -/
def execTraceStart (part : Nat) (s : State) : Host.Outcome State Fault Refusal :=
  devNext s fun d => d.onParts part Device.traceStart

/-- TRACE_STOP: OP stop. -/
def execTraceStop (part : Nat) (s : State) : Host.Outcome State Fault Refusal :=
  devNext s fun d => d.onParts part Device.traceStop

/-- TRACE_TRIGGER: OP trigger. -/
def execTraceTrigger (part : Nat) (s : State) : Host.Outcome State Fault Refusal :=
  devNext s fun d => d.onParts part fun d p => d.traceTrigger p 1

/-- BR_FLUSH. -/
def execBrFlush (part : Nat) (s : State) : Host.Outcome State Fault Refusal :=
  devNext s fun d => d.onParts part Device.brFlush

/-- TRACE_RESUME. -/
def execTraceResume (part : Nat) (s : State) : Host.Outcome State Fault Refusal :=
  devNext s fun d => d.onParts part Device.traceResume

/-- TRACE_DATA_READ. -/
def execTraceDataRead (s : State) : Host.Outcome State Fault Refusal :=
  devNext s fun d => d.traceRead.1.send (.reg Reg.traceData d.traceRead.2)

/-- DUMP. -/
def execDump (writeError : Bool) (s : State) : Host.Outcome State Fault Refusal := memNext s fun s => s.dump writeError

/-- DUMP_RELEASE. -/
def execDumpRelease (v : W64) (s : State) : Host.Outcome State Fault Refusal := devNext s fun d => d.dumpRelease v.toNat

end Sys2Proof.Machine
end

