-- ==== Sys2Proof/Machine/RegBus.lean ====
section
/-!
DEFINITION. Access to the register region: what each register reads as, what a write of it does and who may write it
(R9 to R12, R357, R427, R605 to R607, R633), REGISTER_WRITE, BAR0_ACCESS (R425 to R427), and the scalar loads and stores
(R238 to R240), which reach registers on control cores.
-/
namespace Sys2Proof.Machine

/-! ## Reads -/

/-- The register's island does not answer: no register stands there, its block is in block reset, or it belongs to a reserve
core not in service (R357, R607). -/
def Device.hidden (d : Device) (o : Nat) : Bool :=
  match blockAt o with
  | none => true
  | some (.core x c k, _) => !(blockPresent (.core x c k)) || d.wrapped (.core x c k) || decide ((d.core ⟨x, c, k⟩).run = .off)
  | some (b, _) => !(blockPresent b) || d.wrapped b

/-- A register access to a parked core unparks it until the power controller's next period (R607). -/
def Device.wake (d : Device) (o : Nat) : Device :=
  match blockAt o with
  | some (.core x c k, _) =>
    if (d.core ⟨x, c, k⟩).parked then (d.unpark ⟨x, c, k⟩).showParked else d
  | _ => d

/-- TIME_STAT.LOCKED: the bounds of R611 hold one second after the clock of a seat, or the master's PTM result, began to
follow its reference. -/
def Device.timeLocked (d : Device) : Bool :=
  let second := micros 1000000
  if d.rosterEpoch = 0 ∨ d.rf Reg.tableStat 11 8 = d.seat then
    match d.peer.ptmFirst with
    | none => true
    | some t => decide (t + second ≤ d.clock)
  else decide (d.peer.refAt + second ≤ d.clock)

/-- HUB.TIME_STAT as read (R613). -/
def Device.timeStatValue (d : Device) : Nat :=
  let age := match d.peer.ptmAt with
    | none => 0xFFFF
    | some t => satBits 16 ((d.clock - t) / millis 1)
  setBits (setBits (d.regN Reg.timeStat) 4 4 (ofBool d.timeLocked)) 55 40 age

/-- The chute register at an offset of a block, where one stands there: the chute, and whether it is CHUTE_CTL. -/
def chuteRegAt (b : Block) (off : Nat) : Option (ChuteId × Bool) :=
  let o := Reg.chuteOff b
  if o ≤ off ∧ (off - o) % 8 = 0 then
    match chuteDepth b ((off - o) / 16) with
    | none => none
    | some _ => some (⟨b, (off - o) / 16⟩, decide ((off - o) % 16 = 0))
  else none

/-- An island's cycle counter stands at an offset of a block (R609). -/
def isIslandCycle (b : Block) (off : Nat) : Bool :=
  match b with
  | .core _ _ _ => decide (off = 0xC0)
  | .steward _ => decide (off = 0xC0)
  | .cluster _ _ => decide (off = 0xA0) || decide (off = 0xB0)
  | .peer _ => decide (off = 0x28)
  | .memGroup _ _ => decide (off = 0)
  | .die _ => decide (off = 0)
  | .hubStop _ => decide (off = 0)
  | .hubSec => decide (off = 0)
  | .hubStore => decide (off = 0)
  | .pci => decide (off = 0)
  | _ => false

/-- What the register at an offset of a block reads as: registers that show the state of their unit are computed. A read of an
island's cycle counter is a free value (R24); one of TRACE_DATA moves TRACE_PTR (R624). -/
def Device.viewIn (d : Device) (b : Block) (off o : Nat) : Device × Nat :=
  match chuteRegAt b off with
  | some (ch, false) => (d, d.chuteStatValue ch)
  | some (_, true) => (d, d.regN o)
  | none =>
    if isIslandCycle b off then (d.takeFresh, (Config.cycles d.fresh).toNat)
    else match b with
    | .hub => (d, if o = Reg.time then d.ns % 2 ^ 64 else if o = Reg.timeStat then d.timeStatValue else d.regN o)
    | .core x c k =>
      (d, if k = 0x22 then d.regN o else d.coreView ⟨x, c, k⟩ off)
    | .cluster x c => (d, if o = Reg.wireStat ⟨x, c⟩ then d.wireStatValue ⟨x, c⟩ else d.regN o)
    | .memGroup x g =>
      (d, if 0x1000 ≤ off ∧ off < 0x5000 ∧ off % 0x1000 = 0 then d.chanStatValue x (4 * g + (off / 0x1000 - 1)) else d.regN o)
    | .peer p => (d, if off = 8 then setBits (d.regN o) 23 16 (satBits 8 (d.faultsNow p).length) else d.regN o)
    | .dbg =>
      if o = Reg.traceData then let r := d.traceRead; (r.1, r.2.toNat)
      else if 0x1000 ≤ off ∧ off % 16 = 0 ∧ d.rbit Reg.memCap 7 = false then (d, setBits (d.regN o) 2 2 0)
      else (d, d.regN o)
    | _ => (d, d.regN o)

/-- A field has a bit among bytes i to i + n − 1 of its register. -/
def fieldTouched (f : RegField) (i n : Nat) : Bool := decide (f.lo < 8 * (i + n)) && decide (8 * i ≤ f.hi)

/-- The RC fields read clear (R9): a read of some bytes of a register clears whole each RC field that has a bit among them, and leaves the
others (DESIGN CHOICE, log 215). -/
def Device.readClears (d : Device) (o i n : Nat) : Device :=
  match fieldsAt o with
  | none => d
  | some fs =>
    let hit := fs.filter fun f => decide (f.ty = .rc) && fieldTouched f i n
    if hit.isEmpty then d else d.setRegN o (fieldsReadClear hit (d.regN o))

/-- A read of n bytes at an offset of the region, within one register word: the bytes, and the module after it (R9, R357,
R607). -/
def Device.regRead (d : Device) (a n : Nat) : Device × List Byte :=
  let o := a / 8 * 8
  if d.hidden o then (d, List.replicate n (0 : Byte))
  else match blockAt o, fieldsAt o with
  | some (b, off), some _ =>
    let r := (d.wake o).viewIn b off o
    (r.1.readClears o (a % 8) n, leBytes n (r.2 >>> (8 * (a % 8))))
  | _, _ => (d, List.replicate n (0 : Byte))

/-! ## Who writes a register -/

/-- The registers that the host writes through the PF's BAR0 (R400, R427, R430, R431, R455, R553, R565, R576, R585, R623, R629,
and the registers of survival that name the host). -/
def hostWrites (o : Nat) : Bool :=
  (decide (Reg.fn 0 0 ≤ o) && decide (o < Reg.fn 64 0))
    || (decide (Reg.fnClmask 0 0 ≤ o) && decide (o < Reg.fnClmask 64 0))
    || (decide (Reg.optStage 0 ≤ o) && decide (o < Reg.optStage 64))
    || (decide (Reg.traceCtl 0 ≤ o) && decide (o < Reg.traceCtl 132))
    || [Reg.fwCtl, Reg.fwAddr, Reg.fwLen, Reg.trainMask, Reg.survReg, Reg.stateBase, Reg.ckptStore, Reg.ckptSize, Reg.resumeCtl,
        Reg.pwrCap, Reg.moduleReset, Reg.rstCause, Reg.optCtl, Reg.dumpCtl, Reg.tableCtl].contains o

/-- The registers that firmware does not write: those that only the host writes. -/
def hostOnly (o : Nat) : Bool :=
  hostWrites o && !((decide (Reg.traceCtl 0 ≤ o) && decide (o < Reg.traceCtl 132))
    || [Reg.trainMask, Reg.pwrCap, Reg.moduleReset, Reg.rstCause, Reg.tableCtl].contains o)

/-- The registers that firmware writes on stewards only. -/
def stewardOnly (o : Nat) : Bool :=
  [Reg.survCtl, Reg.oddsW, Reg.oddsRef, Reg.moveRing, Reg.trainMask, Reg.pwrCap, Reg.thermCtl, Reg.coolReq, Reg.rosterCtl,
    Reg.moduleReset].contains o || (decide (Reg.rosterNext 0 ≤ o) && decide (o < Reg.rosterNext 9))

/-- The host's writes that operate in recovery mode: the PF's function page and the firmware-loading registers (R424). -/
def recoveryWrites (o : Nat) : Bool :=
  (decide (Reg.fn 0 0 ≤ o) && decide (o < Reg.fn 0 0x1000)) || [Reg.fwCtl, Reg.fwAddr, Reg.fwLen].contains o

/-- The writer may write the register. A VF writes its own function page only (R425, R430). -/
def mayWrite (w : Writer) (o : Nat) : Bool :=
  match w with
  | .host f => if f = 0 then hostWrites o else decide (Reg.fn f 0 ≤ o) && decide (o < Reg.fn f 0x1000)
  | .firmware c => isControl c && !(hostOnly o) && (isSteward c || !(stewardOnly o))

/-! ## Writes -/

/-- A write of PCI.FN_CMD: a reserved command starts nothing (R633), and a write while BUSY is ignored. Stops take effect, loads
wait for their context (R430, R434). -/
def Device.writeFnCmd (d : Device) (f v : Nat) : Device :=
  let op := bitsOf v 2 0
  let idx := bitsOf v 27 16
  if op = 0 ∨ op = 7 ∨ d.rbit (Reg.fnCmd f) 63 = true ∨ d.flrBusy f = true then d
  else if op = 2 then d.stopQueue f idx
  else if op = 4 then d.stopRing f idx false
  else if op = 6 then d.stopRing f idx true
  else (d.setFn f { d.fn f with command := some (op, idx) }).setRf (Reg.fnCmd f) 63 62 2

/-- A write of a register of the function page of function f (R428, R430, R434). -/
def Device.writeFnPage (d : Device) (f off : Nat) (v : W64) : Device :=
  let x := d.fn f
  let o := Reg.fn f off
  if off = 0x10 then d.writeFnCmd f v.toNat
  else if (off = 0x18 ∧ x.queues.isEmpty = false) ∨ (off = 0x20 ∧ x.crings.isEmpty = false) ∨ (off = 0x28 ∧ x.erings.isEmpty = false)
  then d
  else if off = 0x30 then
    let d1 := d.writeFields o v
    if d1.rf o 51 36 = d.rf o 51 36 then d1 else d1.setFn f { x with apErrors := [] }
  else d.writeFields o v

/-- A write of PCI.FW_CTL (R455). -/
def Device.writeFwCtl (d : Device) (v : Nat) : Device :=
  let d1 := if bitAt v 0 then d.fwStart false else d
  let d2 := if bitAt v 1 then d1.fwCommit else d1
  if bitAt v 2 then d2.fwStart true else d2

/-- A write of PEER.PORT_CTL: the settings, ENABLE, FENCE and UNFENCE (R480, R484). -/
def Device.writePortCtl (d : Device) (p : Nat) (v : W64) : Device :=
  let o := Reg.portCtl p
  let kept := ofBool (d.rbit o 0)
  let d1 := d.writeFields o (BitVec.ofNat 64 (setBits v.toNat 0 0 kept))
  let d2 := if bitAt v.toNat 0 = d.rbit o 0 then d1 else d1.enablePort p (bitAt v.toNat 0)
  let d3 := if bitAt v.toNat 1 then d2.fence p 1 else d2
  if bitAt v.toNat 2 then d3.unfencePort p else d3

/-- A write of PEER.VC_CREDIT: ignored unless the port is disabled; a sum above 256 is reserved (R474). -/
def Device.writeVcCredit (d : Device) (p : Nat) (v : W64) : Device :=
  let sum := ((List.range 8).map fun i => bitsOf v.toNat (8 * i + 7) (8 * i)).sum
  if d.portState p ≠ 0 ∨ 256 < sum then d else d.writeFields (Reg.vcCredit p) v

/-- A write of PEER.TABLE_CTL: the host's writes only LEAVE (R498). -/
def Device.writeTableCtl (d : Device) (host : Bool) (v : W64) : Device :=
  let d1 := if host then d else d.writeFields Reg.tableCtl (BitVec.ofNat 64 (setBits v.toNat 8 8 0))
  if bitAt v.toNat 8 then d1.tableLeave else d1

/-- A write of PEER.ROSTER_CTL: COMMIT copies a proposal that PEND_VALID marks (R488). -/
def State.writeRosterCtl (s : State) (v : W64) : State :=
  let s1 := s.onDev fun d => d.writeFields Reg.rosterCtl v
  if bitAt v.toNat 49 ∧ s1.dev.rbit Reg.rosterCtl 48 = true then s1.commitRoster else s1

/-- A write of a register of a peer port's block. -/
def State.writePeer (s : State) (host : Bool) (p off o : Nat) (v : W64) : State :=
  if off = 0 then s.onDev fun d => d.writePortCtl p v
  else if off = 0x20 then s.onDev fun d => d.writeVcCredit p v
  else if o = Reg.tableCtl then s.onDev fun d => d.writeTableCtl host v
  else if o = Reg.rosterCtl then s.writeRosterCtl v
  else if o = Reg.msgTx then s.sendMsgTx v.toNat
  else if Reg.roster 0 ≤ o ∧ o < Reg.roster 9 then s
  else s.onDev fun d => d.writeFields o v

/-- A write of DBG.TRACE_CMD (R623); a reserved PART or OP starts nothing (R633). -/
def Device.writeTraceCmd (d : Device) (v : Nat) : Device :=
  let p := bitsOf v 7 0
  match bitsOf v 9 8 with
  | 0 => d.onParts p Device.traceStart
  | 1 => d.onParts p Device.traceStop
  | 2 => d.onParts p fun d q => d.traceTrigger q 1
  | _ => d

/-- A write of a debug register (R608, R623, R624, R629). -/
def Device.writeDbg (d : Device) (off o : Nat) (v : W64) : Device :=
  if o = Reg.traceCmd then d.writeTraceCmd v.toNat
  else if o = Reg.dumpCtl then d.dumpRelease v.toNat
  else if 0x1000 ≤ off ∧ off % 16 = 0 then (if d.rbit (o + 8) 0 then d else d.writeFields o v)
  else d.writeFields o v

/-- A write of a register of a memory channel (R371, R374). -/
def State.writeChan (s : State) (die g off o : Nat) (v : W64) : State :=
  let j := 4 * g + (off / 0x1000 - 1)
  if off < 0x1000 then s.onDev fun d => d.writeFields o v
  else if off % 0x1000 = 0x18 then (if bitAt v.toNat 0 then s.retireInService die j 0 else s)
  else if off % 0x1000 = 0x20 then s.onDev fun d => d.writePageReq die j v.toNat
  else s.onDev fun d => d.writeFields o v

/-- The entries of CLU.CB_ENTRY whose bytes a write covers (R92, R93). -/
def Device.writeCbWord (d : Device) (cl : ClusterId) (off i n : Nat) (v : W64) : Device :=
  let slot := (off - 0x6000) / 512
  let k := (off - 0x6000) % 512 / 2
  (List.range 4).foldl (fun (d : Device) j =>
    if 2 * j < i + n ∧ i < 2 * j + 2 then d.writeCbEntry cl slot (k + j) (BitVec.ofNat 16 (v.toNat >>> (16 * j))) else d) d

/-- A write of a register of a cluster (R93, R183, R185, R200, R214, R216, R219, R403, R543). -/
def Device.writeClu (d : Device) (cl : ClusterId) (off i n : Nat) (v : W64) : Device :=
  if off = 0 then d.writeWcCtl cl v
  else if off = 0x10 then d.writeWcStep cl false v
  else if off = 0x18 then d.writeWcStep cl true v
  else if off = 0x28 then d.writeWcLadder cl v
  else if off = 0x30 then d.writeWcAbandon cl v
  else if off = 0x60 then d.writeWireRing cl v
  else if off = 0x68 then d.writeWireTail cl v
  else if 0x100 ≤ off ∧ off < 0x200 then d.writeWcRule cl ((off - 0x100) / 8) false v
  else if 0x200 ≤ off ∧ off < 0x300 then d.writeWcRule cl ((off - 0x200) / 8) true v
  else if 0x400 ≤ off ∧ off < 0x600 then d.writeCbDesc cl ((off - 0x400) / 8) v
  else if 0x800 ≤ off ∧ off < 0x1000 then d.writeTscaleEnt cl ((off - 0x800) / 8) v
  else if 0x1800 ≤ off ∧ off < 0x2000 then d.writeTscaleNext cl ((off - 0x1800) / 8) v
  else if 0x3000 ≤ off ∧ off < 0x4000 then d.writeLayerDesc cl ((off - 0x3000) / 16) (off / 8 % 2) v
  else if 0x5000 ≤ off ∧ off < 0x6000 then d.writeLayerNext cl ((off - 0x5000) / 16) (off / 8 % 2) v
  else if 0x6000 ≤ off ∧ off < 0xE000 then d.writeCbWord cl off i n v
  else d.writeFields (Reg.clu cl off) v

/-- A write of a hub register (R400, R513, R522, R594). -/
def State.writeHub (s : State) (o : Nat) (v : W64) : State :=
  if o = Reg.trainMask then (s.onDev fun d => d.writeFields o v).checkMasks (s.dev.rf (Reg.wcStep ⟨0, 0⟩) 31 0)
  else if o = Reg.survReg then s.writeSurvReg v
  else if o = Reg.ckptStore then s.onDev fun d => d.writeCkptStore v
  else if o = Reg.coolReq then s.onDev fun d => d.writeCoolReq v
  else s.onDev fun d => d.writeFields o v

/-- A write of a register of the reset controller: the host commands no block reset (R553, R557, R576). -/
def State.writeRst (s : State) (w : Writer) (o : Nat) (v : W64) : State :=
  if o = Reg.moduleReset then s.writeModuleReset w v.toNat
  else if o = Reg.blockCmd then
    match w with
    | .firmware c => s.onDev fun d => d.blockCommand c v.toNat
    | .host _ => s
  else s.onDev fun d => d.writeFields o v

/-- A write of an option register: ignored at OPT.STAGE while BUSY; PROGRAM starts programming (R565, R566). -/
def Device.writeOpt (d : Device) (o : Nat) (v : W64) : Device :=
  if o = Reg.optCtl then (if bitAt v.toNat 0 then d.optProgram else d)
  else if d.rbit Reg.optStat 1 then d
  else d.writeFields o v

/-- A write of a register of the PCIe controller. -/
def Device.writePci (d : Device) (off o : Nat) (v : W64) : Device :=
  if 0x1_0000 ≤ off ∧ off < 0x5_0000 then d.writeFnPage ((off - 0x1_0000) / 0x1000) ((off - 0x1_0000) % 0x1000) v
  else if o = Reg.fwCtl then d.writeFwCtl v.toNat
  else d.writeFields o v

/-- A write of CHUTE_CTL; flits that the transmit chute of a peer port held off leave where it holds no more (R66). -/
def Device.writeChuteReg (d : Device) (ch : ChuteId) (v : Nat) : Device :=
  match ch.block with
  | .peer p => if ch.index = 1 then ((d.writeChuteCtl ch v).sendUnsent p).pump p else d.writeChuteCtl ch v
  | _ => d.writeChuteCtl ch v

/-- A write of the whole register at an offset, of which bytes i to i + n − 1 were given. -/
def State.writeWord (s : State) (w : Writer) (o i n : Nat) (v : W64) : State :=
  let host := match w with
    | .host _ => true
    | .firmware _ => false
  match blockAt o with
  | none => s
  | some (b, off) =>
    match chuteRegAt b off with
    | some (ch, true) => s.onDev fun d => d.writeChuteReg ch v.toNat
    | some (_, false) => s
    | none =>
      match b with
      | .hub => s.writeHub o v
      | .rst => s.writeRst w o v
      | .opt => s.onDev fun d => d.writeOpt o v
      | .pci => s.onDev fun d => d.writePci off o v
      | .peer p => s.writePeer host p off o v
      | .dbg => s.onDev fun d => d.writeDbg off o v
      | .memHub => s.onDev fun d => if o = Reg.xlatInv then d.writeXlatInv v.toNat else d.writeFields o v
      | .memGroup x g => s.writeChan x g off o v
      | .cluster x c => s.onDev fun d => d.writeClu ⟨x, c⟩ off i n v
      | _ => s.onDev fun d => d.writeFields o v

/-- The word that a write of bytes i to i + n − 1 gives: RW fields keep the bits of other bytes, and no action is asked for
there. -/
def mergeWord (fs : List RegField) (old i n v : Nat) : Nat :=
  let kept := fs.foldl (fun a f => if f.ty = .rw then setBits a f.hi f.lo (bitsOf old f.hi f.lo) else a) 0
  setBits kept (8 * (i + n) - 1) (8 * i) v

/-- The writer may write the register now: in recovery mode most of the host's writes take no effect (R424). -/
def Device.mayWriteNow (d : Device) (w : Writer) (o : Nat) : Bool :=
  mayWrite w o && match w with
    | .host _ => !d.recovery || recoveryWrites o
    | .firmware _ => true

/-- A write of n bytes at an offset of the region, within one register word. A write whose bytes hold no field that can be written
changes nothing; a register that does not answer, and one that the writer may not write, ignore it (R12, R357, R427, R607,
R633). -/
def State.regWrite (s : State) (w : Writer) (a n v : Nat) : State :=
  let o := a / 8 * 8
  if s.dev.hidden o || !(s.dev.mayWriteNow w o) then s
  else match fieldsAt o with
  | none => s
  | some fs =>
    let acts := fs.any fun f => !(decide (f.ty = .ro) || decide (f.ty = .rc)) && fieldTouched f (a % 8) n
    if !acts || fs.any (fun f => decide (f.ty = .wo) && !(fieldLegal f (bitsOf (mergeWord fs (s.dev.regN o) (a % 8) n v) f.hi f.lo)))
    then s.onDev fun d => d.wake o
    else (s.onDev fun d => d.wake o).writeWord w o (a % 8) n (BitVec.ofNat 64 (mergeWord fs (s.dev.regN o) (a % 8) n v))

/-- REGISTER_WRITE: a write of the whole register at an offset of the region (R9, R12). -/
def execRegisterWrite (w : Writer) (reg : Nat) (v : W64) (s : State) : Host.Outcome State Fault Refusal :=
  memNext s fun s =>
    let ok := match w with
      | .host f => s.dev.barOpen f
      | .firmware c => corePresent c && isControl c
    if ok = true ∧ reg % 8 = 0 then s.regWrite w reg 8 v.toNat else s

/-! ## BAR0 (R425 to R427) -/

/-- Where BAR0 of a function places the MSI-X table and the PBA (R425, R426). -/
def msixAt (f : Nat) : Nat × Nat := if f = 0 then (0x18_0000, 0x18_8000) else (0x4000, 0xC000)

/-- The bytes of MSI-X table entry i: address, data, vector control. -/
def Function.msixBytes (x : Function) (i : Nat) : List Byte :=
  let e := tget x.msix ⟨0, 0, true⟩ i
  leBytes 8 e.addr ++ leBytes 4 e.data ++ leBytes 4 (ofBool e.masked)

/-- An MSI-X table entry from its bytes: the two low address bits are zero. -/
def msixOf (bs : List Byte) : MsixEntry := ⟨leAt bs 0 8 / 4 * 4, leAt bs 8 4, bitAt (leAt bs 12 4) 0⟩

/-- A write of bytes into the MSI-X table. -/
def Device.msixWrite (d : Device) (f off : Nat) (bs : List Byte) : Device :=
  let x := d.fn f
  let old := x.msixBytes (off / 16)
  let new := old.take (off % 16) ++ bs ++ old.drop (off % 16 + bs.length)
  (d.setFn f { x with msix := tput x.msix (off / 16) (msixOf new) }).flushPending f (off / 16)

/-- Eight bytes of the PBA from vector 64 × k. -/
def Function.pbaWord (x : Function) (k : Nat) : Nat :=
  x.pba.foldl (fun a i => if i / 64 = k then a + 1 <<< (i % 64) else a) 0

/-- What a BAR0 offset of a function leads to. -/
inductive BarPlace where
  | reg (o : Nat)
  | msix (o : Nat)
  | pba (o : Nat)
  | none
  deriving DecidableEq, Repr

/-- BAR0 of the PF is the register region with the MSI-X table and PBA; that of a VF holds its function page, the table and the PBA
(R425, R426). -/
def barPlace (f off : Nat) : BarPlace :=
  let p := msixAt f
  if p.1 ≤ off ∧ off < p.1 + 0x8000 then .msix (off - p.1)
  else if p.2 ≤ off ∧ off < p.2 + 256 then .pba (off - p.2)
  else if f = 0 then (if off < 0x400_0000 then .reg off else .none)
  else if off < 0x1000 then .reg (Reg.fn f off)
  else .none

/-- A BAR0 access of 4 or 8 bytes, naturally aligned (R427). -/
def barSized (off size : Nat) : Bool := (decide (size = 4) || decide (size = 8)) && decide (off % size = 0)

/-- A BAR0 read: every register answers; another size or alignment reads zero (R427). -/
def Device.barRead (d : Device) (f off size : Nat) : Device :=
  let zero := List.replicate size (0 : Byte)
  let r := if !(barSized off size) then (d, zero) else
    match barPlace f off with
    | .reg o => d.regRead o size
    | .msix o => (d, slice ((d.fn f).msixBytes (o / 16)) (o % 16) size)
    | .pba o => (d, leBytes size ((d.fn f).pbaWord (o / 8) >>> (8 * (o % 8))))
    | .none => (d, zero)
  r.1.send (.read f r.2 false)

/-- A BAR0 write (R427). A TLP marked poisoned takes effect at no register and emits POISON_FROM_HOST. -/
def State.barWrite (s : State) (f off size v : Nat) (poison : Bool) : State :=
  if poison then s.onDev fun d => d.poisonFromHost f 0 (match barPlace f off with
    | .reg o => 0xF_0000_0000_0000 + o
    | _ => if f = 0 then 0xF_0000_0000_0000 + off else 0)
  else if !(barSized off size) then s
  else match barPlace f off with
  | .reg o => s.regWrite (.host f) o size v
  | .msix o => s.onDev fun d => d.msixWrite f o (leBytes size v)
  | .pba _ => s
  | .none => s

/-- BAR0_ACCESS. -/
def execBar0Access (fn : Nat) (write : Bool) (off size : Nat) (v : W64) (poison : Bool) (s : State) :
    Host.Outcome State Fault Refusal :=
  memNext s fun s =>
    if !(s.dev.barOpen fn) then (if write then s else s.onDev fun d => d.turnAway fn)
    else if write then (s.onDev fun d => d.received size).barWrite fn off size v.toNat poison
    else s.onDev fun d => d.barRead fn off size

/-! ## Loads and stores (R238 to R240) -/

/-- The device address falls in the register region. -/
def inRegs (a : Nat) : Bool := decide ((regionOf a).1 = .regs)

/-- Bytes delivered to a load of a core at a device address, with their poison. -/
def State.loadFor (s : State) (c : CoreId) (a n : Nat) : State × List Byte × Bool :=
  match mirrorOffset c a with
  | some o =>
    let r := s.dev.regRead o n
    ({ s with dev := r.1 }, r.2, false)
  | none => (s, s.load a n)

/-- A load of n bytes, sign-extended or not (R238 to R240). -/
def loadIns (opc n : Nat) (signed : Bool) (c : CoreId) (w : Ins) (s : State) : Host.Outcome State Fault Refusal :=
  memNext s fun s => s.runIns c opc w fun s =>
    let k := s.dev.core c
    let ea := ((k.getS w.a.toNat).val + immVal w).toNat
    let give := fun (s : State) (bs : List Byte) (p : Bool) =>
      let v := if signed then wrapInt (sext (leNat bs) (8 * n)) 64 else leNat bs
      Act.done ((s.onDev fun d => d.scalarPoison c ea (p && decide (w.d ≠ 0))).putS c w.d.toNat ⟨BitVec.ofNat 64 v, p⟩)
    needClean k [w.a.toNat]
      (if ea % n ≠ 0 then .raise (excMisaligned ea)
       else if isControl c && inRegs ea then
         let r := s.dev.regRead (regionOf ea).2 n
         give { s with dev := r.1 } r.2 false
       else match s.coreAddr c ea n ⟨true, false⟩ with
       | none => .raise (excAccess ea)
       | some a =>
         let r := s.loadFor c a n
         give r.1 r.2.1 r.2.2)

/-- A store of the n low bytes of sb (R238 to R240). A store to a register needs clean data (R254). -/
def storeIns (opc n : Nat) (c : CoreId) (w : Ins) (s : State) : Host.Outcome State Fault Refusal :=
  memNext s fun s => s.runIns c opc w fun s =>
    let k := s.dev.core c
    let ea := ((k.getS w.a.toNat).val + immVal w).toNat
    let x := k.getS w.b.toNat
    let reg := isControl c && inRegs ea
    needClean k (w.a.toNat :: (if reg then [w.b.toNat] else []))
      (if ea % n ≠ 0 then .raise (excMisaligned ea)
       else if reg then .done (s.regWrite (.firmware c) (regionOf ea).2 n (x.val.toNat % 2 ^ (8 * n)))
       else match s.coreAddr c ea n ⟨false, true⟩ with
       | none => .raise (excAccess ea)
       | some a => .done (s.store a (leBytes n x.val.toNat) x.poison))

/-- LD.B. -/
def execLdB (c : CoreId) (w : Ins) (s : State) : Host.Outcome State Fault Refusal := loadIns 0x40 1 true c w s
/-- LD.BU. -/
def execLdBu (c : CoreId) (w : Ins) (s : State) : Host.Outcome State Fault Refusal := loadIns 0x41 1 false c w s
/-- LD.H. -/
def execLdH (c : CoreId) (w : Ins) (s : State) : Host.Outcome State Fault Refusal := loadIns 0x42 2 true c w s
/-- LD.HU. -/
def execLdHu (c : CoreId) (w : Ins) (s : State) : Host.Outcome State Fault Refusal := loadIns 0x43 2 false c w s
/-- LD.W. -/
def execLdW (c : CoreId) (w : Ins) (s : State) : Host.Outcome State Fault Refusal := loadIns 0x44 4 true c w s
/-- LD.WU. -/
def execLdWu (c : CoreId) (w : Ins) (s : State) : Host.Outcome State Fault Refusal := loadIns 0x45 4 false c w s
/-- LD.D. -/
def execLdD (c : CoreId) (w : Ins) (s : State) : Host.Outcome State Fault Refusal := loadIns 0x46 8 false c w s
/-- ST.B. -/
def execStB (c : CoreId) (w : Ins) (s : State) : Host.Outcome State Fault Refusal := storeIns 0x48 1 c w s
/-- ST.H. -/
def execStH (c : CoreId) (w : Ins) (s : State) : Host.Outcome State Fault Refusal := storeIns 0x49 2 c w s
/-- ST.W. -/
def execStW (c : CoreId) (w : Ins) (s : State) : Host.Outcome State Fault Refusal := storeIns 0x4A 4 c w s
/-- ST.D. -/
def execStD (c : CoreId) (w : Ins) (s : State) : Host.Outcome State Fault Refusal := storeIns 0x4B 8 c w s

end Sys2Proof.Machine
end

