-- ==== Sys2Proof/Machine/Dispatch.lean ====
section
/-!
DEFINITION. Which meaning each command has: one arm per row of the table.
-/
namespace Sys2Proof.Machine

/-- The effect of one command on everything but the queue. -/
def exec (i : Instr) (s : State) : Host.Outcome State Fault Refusal :=
  match i with
  | .registerWrite w reg v => Sys2Proof.Machine.execRegisterWrite w reg v s
  | .routePacket r port net upsets => Sys2Proof.Machine.execRoutePacket r port net upsets s
  | .chuteWrite ch word => Sys2Proof.Machine.execChuteWrite ch word s
  | .packetTakeStart ch => Sys2Proof.Machine.execPacketTakeStart ch s
  | .chuteRead ch upsets => Sys2Proof.Machine.execChuteRead ch upsets s
  | .peerHoldInAssert port => Sys2Proof.Machine.execPeerHoldInAssert port s
  | .peerHoldInRelease port => Sys2Proof.Machine.execPeerHoldInRelease port s
  | .flush ch => Sys2Proof.Machine.execFlush ch s
  | .chuteStatRead ch => Sys2Proof.Machine.execChuteStatRead ch s
  | .cbDescWrite cl n v => Sys2Proof.Machine.execCbDescWrite cl n v s
  | .cbEntryWrite cl n k v => Sys2Proof.Machine.execCbEntryWrite cl n k v s
  | .tscaleEntWrite cl idx v => Sys2Proof.Machine.execTscaleEntWrite cl idx v s
  | .tscaleNextWrite cl idx v => Sys2Proof.Machine.execTscaleNextWrite cl idx v s
  | .layerDescWrite cl n word v => Sys2Proof.Machine.execLayerDescWrite cl n word v s
  | .layerNextWrite cl n word v => Sys2Proof.Machine.execLayerNextWrite cl n word v s
  | .wcLadderWrite cl v => Sys2Proof.Machine.execWcLadderWrite cl v s
  | .wcRuleWrite cl k threshold v => Sys2Proof.Machine.execWcRuleWrite cl k threshold v s
  | .wcStepWrite cl seed v => Sys2Proof.Machine.execWcStepWrite cl seed v s
  | .wcEnable cl enable => Sys2Proof.Machine.execWcEnable cl enable s
  | .close cl => Sys2Proof.Machine.execClose cl s
  | .closeBankSwap cl => Sys2Proof.Machine.execCloseBankSwap cl s
  | .commit cl => Sys2Proof.Machine.execCommit cl s
  | .generationSwap cl => Sys2Proof.Machine.execGenerationSwap cl s
  | .nextCopyDone cl => Sys2Proof.Machine.execNextCopyDone cl s
  | .wcAbandon cl => Sys2Proof.Machine.execWcAbandon cl s
  | .agreementSample cl weights => Sys2Proof.Machine.execAgreementSample cl weights s
  | .mergeTimeout steward seat => Sys2Proof.Machine.execMergeTimeout steward seat s
  | .add c w => Sys2Proof.Machine.execAdd c w s
  | .sub c w => Sys2Proof.Machine.execSub c w s
  | .mul c w => Sys2Proof.Machine.execMul c w s
  | .mulh c w => Sys2Proof.Machine.execMulh c w s
  | .mulhu c w => Sys2Proof.Machine.execMulhu c w s
  | .div c w => Sys2Proof.Machine.execDiv c w s
  | .divu c w => Sys2Proof.Machine.execDivu c w s
  | .rem c w => Sys2Proof.Machine.execRem c w s
  | .remu c w => Sys2Proof.Machine.execRemu c w s
  | .and c w => Sys2Proof.Machine.execAnd c w s
  | .or c w => Sys2Proof.Machine.execOr c w s
  | .xor c w => Sys2Proof.Machine.execXor c w s
  | .shl c w => Sys2Proof.Machine.execShl c w s
  | .shr c w => Sys2Proof.Machine.execShr c w s
  | .sra c w => Sys2Proof.Machine.execSra c w s
  | .min c w => Sys2Proof.Machine.execMin c w s
  | .max c w => Sys2Proof.Machine.execMax c w s
  | .minu c w => Sys2Proof.Machine.execMinu c w s
  | .maxu c w => Sys2Proof.Machine.execMaxu c w s
  | .sel c w => Sys2Proof.Machine.execSel c w s
  | .clz c w => Sys2Proof.Machine.execClz c w s
  | .popc c w => Sys2Proof.Machine.execPopc c w s
  | .madd c w => Sys2Proof.Machine.execMadd c w s
  | .addi c w => Sys2Proof.Machine.execAddi c w s
  | .andi c w => Sys2Proof.Machine.execAndi c w s
  | .ori c w => Sys2Proof.Machine.execOri c w s
  | .xori c w => Sys2Proof.Machine.execXori c w s
  | .shli c w => Sys2Proof.Machine.execShli c w s
  | .shri c w => Sys2Proof.Machine.execShri c w s
  | .srai c w => Sys2Proof.Machine.execSrai c w s
  | .li c w => Sys2Proof.Machine.execLi c w s
  | .lih c w => Sys2Proof.Machine.execLih c w s
  | .addpc c w => Sys2Proof.Machine.execAddpc c w s
  | .cmp c w => Sys2Proof.Machine.execCmp c w s
  | .cmpi c w => Sys2Proof.Machine.execCmpi c w s
  | .plog c w => Sys2Proof.Machine.execPlog c w s
  | .ldB c w => Sys2Proof.Machine.execLdB c w s
  | .ldBu c w => Sys2Proof.Machine.execLdBu c w s
  | .ldH c w => Sys2Proof.Machine.execLdH c w s
  | .ldHu c w => Sys2Proof.Machine.execLdHu c w s
  | .ldW c w => Sys2Proof.Machine.execLdW c w s
  | .ldWu c w => Sys2Proof.Machine.execLdWu c w s
  | .ldD c w => Sys2Proof.Machine.execLdD c w s
  | .stB c w => Sys2Proof.Machine.execStB c w s
  | .stH c w => Sys2Proof.Machine.execStH c w s
  | .stW c w => Sys2Proof.Machine.execStW c w s
  | .stD c w => Sys2Proof.Machine.execStD c w s
  | .bra c w => Sys2Proof.Machine.execBra c w s
  | .call c w => Sys2Proof.Machine.execCall c w s
  | .jmp c w => Sys2Proof.Machine.execJmp c w s
  | .jal c w => Sys2Proof.Machine.execJal c w s
  | .endProgram c w => Sys2Proof.Machine.execEndProgram c w s
  | .programEnd c => Sys2Proof.Machine.execProgramEnd c s
  | .trap c w => Sys2Proof.Machine.execTrap c w s
  | .nop c w => Sys2Proof.Machine.execNop c w s
  | .csrr c w => Sys2Proof.Machine.execCsrr c w s
  | .csrw c w => Sys2Proof.Machine.execCsrw c w s
  | .semAdd c w => Sys2Proof.Machine.execSemAdd c w s
  | .semCas c w => Sys2Proof.Machine.execSemCas c w s
  | .semSet c w => Sys2Proof.Machine.execSemSet c w s
  | .wait c w => Sys2Proof.Machine.execWait c w s
  | .waitSuccess c => Sys2Proof.Machine.execWaitSuccess c s
  | .waitTimeout c => Sys2Proof.Machine.execWaitTimeout c s
  | .fence c w => Sys2Proof.Machine.execFence c w s
  | .fenceComplete c => Sys2Proof.Machine.execFenceComplete c s
  | .eret c w => Sys2Proof.Machine.execEret c w s
  | .cswap c w => Sys2Proof.Machine.execCswap c w s
  | .trace c w => Sys2Proof.Machine.execTrace c w s
  | .wcommit c w => Sys2Proof.Machine.execWcommit c w s
  | .wdog c w => Sys2Proof.Machine.execWdog c w s
  | .idle c w => Sys2Proof.Machine.execIdle c w s
  | .idleWake c => Sys2Proof.Machine.execIdleWake c s
  | .idleTimeout c => Sys2Proof.Machine.execIdleTimeout c s
  | .timerExpiry c => Sys2Proof.Machine.execTimerExpiry c s
  | .exceptionEnd c => Sys2Proof.Machine.execExceptionEnd c s
  | .sarm c w => Sys2Proof.Machine.execSarm c w s
  | .streamArmed c h => Sys2Proof.Machine.execStreamArmed c h s
  | .srearm c w => Sys2Proof.Machine.execSrearm c w s
  | .rearmTakeEffect c h => Sys2Proof.Machine.execRearmTakeEffect c h s
  | .slink c w => Sys2Proof.Machine.execSlink c w s
  | .sdrain c w => Sys2Proof.Machine.execSdrain c w s
  | .spos c w => Sys2Proof.Machine.execSpos c w s
  | .lload c w => Sys2Proof.Machine.execLload c w s
  | .loadDone c => Sys2Proof.Machine.execLoadDone c s
  | .lswap c w => Sys2Proof.Machine.execLswap c w s
  | .swapTakeEffect c => Sys2Proof.Machine.execSwapTakeEffect c s
  | .lrun c w => Sys2Proof.Machine.execLrun c w s
  | .runStart c => Sys2Proof.Machine.execRunStart c s
  | .anchorFixed c => Sys2Proof.Machine.execAnchorFixed c s
  | .passBroadcast c => Sys2Proof.Machine.execPassBroadcast c s
  | .tallyUpdate c => Sys2Proof.Machine.execTallyUpdate c s
  | .outlierProduct c => Sys2Proof.Machine.execOutlierProduct c s
  | .runEnd c => Sys2Proof.Machine.execRunEnd c s
  | .ldrain c w => Sys2Proof.Machine.execLdrain c w s
  | .drainTile c => Sys2Proof.Machine.execDrainTile c s
  | .cvt c w => Sys2Proof.Machine.execCvt c w s
  | .cvtin c w => Sys2Proof.Machine.execCvtin c w s
  | .cvtout c w => Sys2Proof.Machine.execCvtout c w s
  | .conversionExecute c => Sys2Proof.Machine.execConversionExecute c s
  | .vld c w => Sys2Proof.Machine.execVld c w s
  | .vst c w => Sys2Proof.Machine.execVst c w s
  | .vget c w => Sys2Proof.Machine.execVget c w s
  | .vput c w => Sys2Proof.Machine.execVput c w s
  | .vbcast c w => Sys2Proof.Machine.execVbcast c w s
  | .vext c w => Sys2Proof.Machine.execVext c w s
  | .vins c w => Sys2Proof.Machine.execVins c w s
  | .vmov c w => Sys2Proof.Machine.execVmov c w s
  | .vcvt c w => Sys2Proof.Machine.execVcvt c w s
  | .vadd c w => Sys2Proof.Machine.execVadd c w s
  | .vsub c w => Sys2Proof.Machine.execVsub c w s
  | .vmul c w => Sys2Proof.Machine.execVmul c w s
  | .vfma c w => Sys2Proof.Machine.execVfma c w s
  | .vmin c w => Sys2Proof.Machine.execVmin c w s
  | .vmax c w => Sys2Proof.Machine.execVmax c w s
  | .vabs c w => Sys2Proof.Machine.execVabs c w s
  | .vneg c w => Sys2Proof.Machine.execVneg c w s
  | .vrcp c w => Sys2Proof.Machine.execVrcp c w s
  | .vrsqrt c w => Sys2Proof.Machine.execVrsqrt c w s
  | .vexp2 c w => Sys2Proof.Machine.execVexp2 c w s
  | .vlog2 c w => Sys2Proof.Machine.execVlog2 c w s
  | .vcmp c w => Sys2Proof.Machine.execVcmp c w s
  | .vsel c w => Sys2Proof.Machine.execVsel c w s
  | .vred c w => Sys2Proof.Machine.execVred c w s
  | .vdiv c w => Sys2Proof.Machine.execVdiv c w s
  | .bsave c w => Sys2Proof.Machine.execBsave c w s
  | .saveExecute c => Sys2Proof.Machine.execSaveExecute c s
  | .brest c w => Sys2Proof.Machine.execBrest c w s
  | .restoreExecute c => Sys2Proof.Machine.execRestoreExecute c s
  | .upd c w => Sys2Proof.Machine.execUpd c w s
  | .updateProgram cl => Sys2Proof.Machine.execUpdateProgram cl s
  | .tileRequest c h => Sys2Proof.Machine.execTileRequest c h s
  | .tileStaged c h tile => Sys2Proof.Machine.execTileStaged c h tile s
  | .feederRefill c feeder => Sys2Proof.Machine.execFeederRefill c feeder s
  | .tileTaken c h => Sys2Proof.Machine.execTileTaken c h s
  | .streamWriteTile c h => Sys2Proof.Machine.execStreamWriteTile c h s
  | .writeBufferFree c h => Sys2Proof.Machine.execWriteBufferFree c h s
  | .chainGrant c h => Sys2Proof.Machine.execChainGrant c h s
  | .chainTileSend c h => Sys2Proof.Machine.execChainTileSend c h s
  | .chainItemReceive c h => Sys2Proof.Machine.execChainItemReceive c h s
  | .orbitCopy c h => Sys2Proof.Machine.execOrbitCopy c h s
  | .orbitReady c h => Sys2Proof.Machine.execOrbitReady c h s
  | .memRead src ctl rlen => Sys2Proof.Machine.execMemRead src ctl rlen s
  | .memWrite src ctl bytes => Sys2Proof.Machine.execMemWrite src ctl bytes s
  | .setBitWrite src ctl bytes => Sys2Proof.Machine.execSetBitWrite src ctl bytes s
  | .blockArrival addr fetches => Sys2Proof.Machine.execBlockArrival addr fetches s
  | .patrolRead die chan loc blk fetches => Sys2Proof.Machine.execPatrolRead die chan loc blk fetches s
  | .pageReq die chan v => Sys2Proof.Machine.execPageReq die chan v s
  | .pageRetire die chan => Sys2Proof.Machine.execPageRetire die chan s
  | .pageCopyEnd die page => Sys2Proof.Machine.execPageCopyEnd die page s
  | .channelRetire die chan v => Sys2Proof.Machine.execChannelRetire die chan v s
  | .channelTimeout die chan => Sys2Proof.Machine.execChannelTimeout die chan s
  | .channelRemapped die chan => Sys2Proof.Machine.execChannelRemapped die chan s
  | .xlatInv v => Sys2Proof.Machine.execXlatInv v s
  | .xlatInvDone => Sys2Proof.Machine.execXlatInvDone s
  | .errCntRead die chan => Sys2Proof.Machine.execErrCntRead die chan s
  | .pack cl => Sys2Proof.Machine.execPack cl s
  | .wireAdd cl => Sys2Proof.Machine.execWireAdd cl s
  | .unpack cl => Sys2Proof.Machine.execUnpack cl s
  | .wireRingWrite cl v => Sys2Proof.Machine.execWireRingWrite cl v s
  | .wireStatRead cl => Sys2Proof.Machine.execWireStatRead cl s
  | .configRequest fn write off size v => Sys2Proof.Machine.execConfigRequest fn write off size v s
  | .bar0Access fn write off size v poison => Sys2Proof.Machine.execBar0Access fn write off size v poison s
  | .apertureRead fn off size => Sys2Proof.Machine.execApertureRead fn off size s
  | .apertureWrite fn off bytes poison => Sys2Proof.Machine.execApertureWrite fn off bytes poison s
  | .fnStatRead fn => Sys2Proof.Machine.execFnStatRead fn s
  | .loadQueue fn idx ctx => Sys2Proof.Machine.execLoadQueue fn idx ctx s
  | .stopQueue fn idx => Sys2Proof.Machine.execStopQueue fn idx s
  | .stopQueueDone fn => Sys2Proof.Machine.execStopQueueDone fn s
  | .loadCompletionRing fn idx ctx => Sys2Proof.Machine.execLoadCompletionRing fn idx ctx s
  | .stopCompletionRing fn idx => Sys2Proof.Machine.execStopCompletionRing fn idx s
  | .loadEventRing fn idx ctx => Sys2Proof.Machine.execLoadEventRing fn idx ctx s
  | .stopEventRing fn idx => Sys2Proof.Machine.execStopEventRing fn idx s
  | .sqDoorbell fn idx size v poison => Sys2Proof.Machine.execSqDoorbell fn idx size v poison s
  | .cqDoorbell fn idx size v poison => Sys2Proof.Machine.execCqDoorbell fn idx size v poison s
  | .eqDoorbell fn idx size v poison => Sys2Proof.Machine.execEqDoorbell fn idx size v poison s
  | .entryFetch cl heads => Sys2Proof.Machine.execEntryFetch cl heads s
  | .launch fn queue slot => Sys2Proof.Machine.execLaunch fn queue slot s
  | .launchStart fn queue slot => Sys2Proof.Machine.execLaunchStart fn queue slot s
  | .launchTimeLimit fn queue slot => Sys2Proof.Machine.execLaunchTimeLimit fn queue slot s
  | .launchComplete fn queue slot => Sys2Proof.Machine.execLaunchComplete fn queue slot s
  | .copy fn queue slot => Sys2Proof.Machine.execCopy fn queue slot s
  | .copyComplete fn queue slot src => Sys2Proof.Machine.execCopyComplete fn queue slot src s
  | .fenceEntry fn queue slot => Sys2Proof.Machine.execFenceEntry fn queue slot s
  | .signal fn queue slot => Sys2Proof.Machine.execSignal fn queue slot s
  | .waitEntry fn queue slot => Sys2Proof.Machine.execWaitEntry fn queue slot s
  | .checkpoint fn queue slot => Sys2Proof.Machine.execCheckpoint fn queue slot s
  | .barrier fn queue slot => Sys2Proof.Machine.execBarrier fn queue slot s
  | .barrierTimeout fn queue slot => Sys2Proof.Machine.execBarrierTimeout fn queue slot s
  | .interruptModeration fn event ring => Sys2Proof.Machine.execInterruptModeration fn event ring s
  | .ringStall fn ring => Sys2Proof.Machine.execRingStall fn ring s
  | .functionLevelReset fn => Sys2Proof.Machine.execFunctionLevelReset fn s
  | .linkRetrain rate width flit => Sys2Proof.Machine.execLinkRetrain rate width flit s
  | .fwLoad => Sys2Proof.Machine.execFwLoad s
  | .fwVerifyDone flash => Sys2Proof.Machine.execFwVerifyDone flash s
  | .coreSwitch k => Sys2Proof.Machine.execCoreSwitch k s
  | .fwCommit => Sys2Proof.Machine.execFwCommit s
  | .fwFlashDone => Sys2Proof.Machine.execFwFlashDone s
  | .fwRevert => Sys2Proof.Machine.execFwRevert s
  | .portEnable port enable => Sys2Proof.Machine.execPortEnable port enable s
  | .portFence port => Sys2Proof.Machine.execPortFence port s
  | .unfence port => Sys2Proof.Machine.execUnfence port s
  | .codeword port symbolErrors pair pcount bytes => Sys2Proof.Machine.execCodeword port symbolErrors pair pcount bytes s
  | .dataFlit port => Sys2Proof.Machine.execDataFlit port s
  | .idleFlit port => Sys2Proof.Machine.execIdleFlit port s
  | .nak port => Sys2Proof.Machine.execNak port s
  | .credit port => Sys2Proof.Machine.execCredit port s
  | .time port => Sys2Proof.Machine.execTime port s
  | .fenceFlit port => Sys2Proof.Machine.execFenceFlit port s
  | .resendTimeout port => Sys2Proof.Machine.execResendTimeout port s
  | .starveTimeout port => Sys2Proof.Machine.execStarveTimeout port s
  | .hello port msg => Sys2Proof.Machine.execHello port msg s
  | .cert port msg => Sys2Proof.Machine.execCert port msg s
  | .proof port msg verdict => Sys2Proof.Machine.execProof port msg verdict s
  | .identTimeout port => Sys2Proof.Machine.execIdentTimeout port s
  | .peerPacketSend pkt => Sys2Proof.Machine.execPeerPacketSend pkt s
  | .peerPacketReceive port => Sys2Proof.Machine.execPeerPacketReceive port s
  | .ledgerTimeout entry => Sys2Proof.Machine.execLedgerTimeout entry s
  | .msgTx v => Sys2Proof.Machine.execMsgTx v s
  | .join seat => Sys2Proof.Machine.execJoin seat s
  | .leave seat => Sys2Proof.Machine.execLeave seat s
  | .tableLeave => Sys2Proof.Machine.execTableLeave s
  | .report seat live suspect => Sys2Proof.Machine.execReport seat live suspect s
  | .propose seat epoch entries => Sys2Proof.Machine.execPropose seat epoch entries s
  | .accept seat epoch live => Sys2Proof.Machine.execAccept seat epoch live s
  | .commitMessage seat epoch entries => Sys2Proof.Machine.execCommitMessage seat epoch entries s
  | .sync seat => Sys2Proof.Machine.execSync seat s
  | .merge seat cluster words maxima => Sys2Proof.Machine.execMerge seat cluster words maxima s
  | .rosterTimeout => Sys2Proof.Machine.execRosterTimeout s
  | .formTimeout => Sys2Proof.Machine.execFormTimeout s
  | .rosterCommit => Sys2Proof.Machine.execRosterCommit s
  | .timeRequestTimer => Sys2Proof.Machine.execTimeRequestTimer s
  | .ptmResult offset => Sys2Proof.Machine.execPtmResult offset s
  | .linkCntRead port fec => Sys2Proof.Machine.execLinkCntRead port fec s
  | .slotLoss slot step sum crc => Sys2Proof.Machine.execSlotLoss slot step sum crc s
  | .go record => Sys2Proof.Machine.execGo record s
  | .ckptDone step slot crc => Sys2Proof.Machine.execCkptDone step slot crc s
  | .ckptStoreWrite v => Sys2Proof.Machine.execCkptStoreWrite v s
  | .survRegWrite v => Sys2Proof.Machine.execSurvRegWrite v s
  | .oddsTimer => Sys2Proof.Machine.execOddsTimer s
  | .odds seat odds => Sys2Proof.Machine.execOdds seat odds s
  | .halted seat epoch => Sys2Proof.Machine.execHalted seat epoch s
  | .haltTimeout => Sys2Proof.Machine.execHaltTimeout s
  | .restore point mode current => Sys2Proof.Machine.execRestore point mode current s
  | .fillDone slot point => Sys2Proof.Machine.execFillDone slot point s
  | .resume point => Sys2Proof.Machine.execResume point s
  | .ckptReq step => Sys2Proof.Machine.execCkptReq step s
  | .seatToSeat => Sys2Proof.Machine.execSeatToSeat s
  | .deviceToStore writeError => Sys2Proof.Machine.execDeviceToStore writeError s
  | .storeToDevice src => Sys2Proof.Machine.execStoreToDevice src s
  | .coreProbeTimeout c => Sys2Proof.Machine.execCoreProbeTimeout c s
  | .coreRelaunch c => Sys2Proof.Machine.execCoreRelaunch c s
  | .powerOnReset seat feed => Sys2Proof.Machine.execPowerOnReset seat feed s
  | .moduleResetCold w v => Sys2Proof.Machine.execModuleResetCold w v s
  | .moduleResetWarm w v => Sys2Proof.Machine.execModuleResetWarm w v s
  | .perstAssert => Sys2Proof.Machine.execPerstAssert s
  | .perstPulseFiltered => Sys2Proof.Machine.execPerstPulseFiltered s
  | .perstRelease => Sys2Proof.Machine.execPerstRelease s
  | .watchdogExpiry steward => Sys2Proof.Machine.execWatchdogExpiry steward s
  | .watchdog cl => Sys2Proof.Machine.execWatchdog cl s
  | .critError which correctable => Sys2Proof.Machine.execCritError which correctable s
  | .hotReset => Sys2Proof.Machine.execHotReset s
  | .resetRelease boot => Sys2Proof.Machine.execResetRelease boot s
  | .blockResetAssert w v => Sys2Proof.Machine.execBlockResetAssert w v s
  | .blockResetRelease w v => Sys2Proof.Machine.execBlockResetRelease w v s
  | .wrapperAnswer b t => Sys2Proof.Machine.execWrapperAnswer b t s
  | .optProgram => Sys2Proof.Machine.execOptProgram s
  | .optProgramDone => Sys2Proof.Machine.execOptProgramDone s
  | .optStatRead => Sys2Proof.Machine.execOptStatRead s
  | .rstStatRead => Sys2Proof.Machine.execRstStatRead s
  | .rstCauseWrite v => Sys2Proof.Machine.execRstCauseWrite v s
  | .calibrationEnd before after => Sys2Proof.Machine.execCalibrationEnd before after s
  | .powerControlPeriod watts millivolts stretched => Sys2Proof.Machine.execPowerControlPeriod watts millivolts stretched s
  | .sensorRead readings => Sys2Proof.Machine.execSensorRead readings s
  | .thermalLimitStep => Sys2Proof.Machine.execThermalLimitStep s
  | .coolReqWrite v => Sys2Proof.Machine.execCoolReqWrite v s
  | .railLeavesWindow => Sys2Proof.Machine.execRailLeavesWindow s
  | .inputRemoved => Sys2Proof.Machine.execInputRemoved s
  | .i3cRead off len => Sys2Proof.Machine.execI3cRead off len s
  | .i3cAddressAssign addr => Sys2Proof.Machine.execI3cAddressAssign addr s
  | .traceStart part => Sys2Proof.Machine.execTraceStart part s
  | .traceStop part => Sys2Proof.Machine.execTraceStop part s
  | .traceTrigger part => Sys2Proof.Machine.execTraceTrigger part s
  | .brFlush part => Sys2Proof.Machine.execBrFlush part s
  | .traceResume part => Sys2Proof.Machine.execTraceResume part s
  | .traceDataRead => Sys2Proof.Machine.execTraceDataRead s
  | .dump writeError => Sys2Proof.Machine.execDump writeError s
  | .dumpRelease v => Sys2Proof.Machine.execDumpRelease v s
  | .leaderWaitExpiry => Sys2Proof.Machine.execLeaderWaitExpiry s
  | .waitEntryTimeout fn queue slot => Sys2Proof.Machine.execWaitEntryTimeout fn queue slot s
  | .completionTimeout fn queue slot addr => Sys2Proof.Machine.execCompletionTimeout fn queue slot addr s
  | .spdmRequest version secured request => Sys2Proof.Machine.execSpdmRequest version secured request s
  | .atsInvalidateRequest fn addr size itag => Sys2Proof.Machine.execAtsInvalidateRequest fn addr size itag s

end Sys2Proof.Machine
end

