-- ==== Sys2Proof/Machine/Step.lean ====
section
/-!
DEFINITION. One step of the module: the command at the front of the queue, or one reference cycle of the table clock
where none waits.
-/
namespace Sys2Proof.Machine

/-- One cycle of the 156.25 MHz reference: the table clock advances by 6.4 ns (R610), a little more or less while it steers
(R503). The queue is empty: the block idles otherwise (DESIGN CHOICE, log 6). -/
def idleCycle (s : State) : State := s.onDev Device.cycle

/-- The step: the front command runs with the queue's rest; an empty queue is one idle reference cycle. -/
def step (s : State) : Host.Outcome State Fault Refusal :=
  match s.pending with
  | [] => .next (idleCycle s)
  | c :: rest => exec c { s with pending := rest }

/-- No row of the table gives bits (Decode.lean), so no word spells a command and nothing is put into the queue. -/
def State.withFetchWord (s : State) (nbits w : Nat) : State :=
  match Sys2Proof.decodeTableWord nbits w with
  | none => s
  | some c => { s with pending := c :: s.pending }

end Sys2Proof.Machine
end

