-- ==== Sys2Proof/Safety.lean ====
section
/-!
DEFINITION. What counts as a safe state and a safe run, in the terms that statements use: device memory in its canonical form
(R355, R367), and a run that stops at no fault and no refusal.
-/
namespace Sys2Proof.Machine

/-- Device memory is in its canonical form: equal memories are equal data. -/
def State.safe (s : State) : Prop := s.mem.wf = true

/-- A step that answers a next state. -/
def goesOn (o : Host.Outcome State Fault Refusal) : Bool :=
  match o with
  | .next _ => true
  | .fault _ => false
  | .refused _ => false

/-! ## When an instruction has its own effect -/

/-- An instruction given to a core has its own effect now: the input is present (R581), the core runs, its word can be
fetched unpoisoned (R243, R254), the word is legal (R232), its guard is true and unpoisoned (R232), no exception stands before its effect (R234, R242, R258), and none of its
s registers waits for a late write (R264). -/
def State.executes (s : State) (c : CoreId) (opc : Nat) (w : Ins) : Bool :=
  s.dev.power.input && s.dev.canRun c && (s.fetchFault c).isNone && insLegal opc w
    && decide (guardOf (s.dev.core c) w = ⟨true, false⟩) && (s.dev.preExc c opc w).isNone
    && !((sRegs opc w).any fun r => (s.dev.core c).pendingS.contains r)

/-- An instruction that retires counts in csr.instret and the next one stands at an address (R229). -/
def Core.retiredTo (k : Core) (next : W64) : Core := { k with pc := next, csr := { k.csr with instret := k.csr.instret + 1 } }

/-- An instruction that retires and is followed by the next word. -/
def Core.retired (k : Core) : Core := k.retiredTo (k.pc + 8)

/-- The state with one core changed and nothing else. -/
def State.onCore (s : State) (c : CoreId) (f : Core → Core) : State := s.onDev fun d => d.onCore c f

/-- Where an instruction has its own effect, the command that executes it answers the state in which sd holds a value (s0
discards it), the instruction has retired, and nothing else differs: no other register, no flag, no register of the
register region, no byte of memory. -/
def State.writesS (s : State) (c : CoreId) (opc : Nat) (w : Ins) (i : Instr) (v : PVal) : Prop :=
  s.executes c opc w = true → exec i s = .next (s.onCore c fun k => (k.setS w.d.toNat v).retired)

/-- The same for an instruction that writes pd (p0 discards it). -/
def State.writesP (s : State) (c : CoreId) (opc : Nat) (w : Ins) (i : Instr) (v : PBit) : Prop :=
  s.executes c opc w = true → exec i s = .next (s.onCore c fun k => (k.setP w.d.toNat v).retired)

/-- The instruction that a command executes, where it executes one: the core, the OPC its entry of the instruction tables gives it
(R235, R238, R242, R245, R250, R275, R278, R285, R291, R296, R634), and the fields of the word. -/
def instructionOf (i : Instr) : Option (CoreId × Nat × Ins) :=
  match i with
  | .add c w => some (c, 0x01, w)
  | .sub c w => some (c, 0x02, w)
  | .mul c w => some (c, 0x03, w)
  | .mulh c w => some (c, 0x04, w)
  | .mulhu c w => some (c, 0x05, w)
  | .div c w => some (c, 0x06, w)
  | .divu c w => some (c, 0x07, w)
  | .rem c w => some (c, 0x08, w)
  | .remu c w => some (c, 0x09, w)
  | .and c w => some (c, 0x0A, w)
  | .or c w => some (c, 0x0B, w)
  | .xor c w => some (c, 0x0C, w)
  | .shl c w => some (c, 0x0D, w)
  | .shr c w => some (c, 0x0E, w)
  | .sra c w => some (c, 0x0F, w)
  | .min c w => some (c, 0x10, w)
  | .max c w => some (c, 0x11, w)
  | .minu c w => some (c, 0x12, w)
  | .maxu c w => some (c, 0x13, w)
  | .sel c w => some (c, 0x14, w)
  | .clz c w => some (c, 0x15, w)
  | .popc c w => some (c, 0x16, w)
  | .madd c w => some (c, 0x17, w)
  | .addi c w => some (c, 0x21, w)
  | .andi c w => some (c, 0x2A, w)
  | .ori c w => some (c, 0x2B, w)
  | .xori c w => some (c, 0x2C, w)
  | .shli c w => some (c, 0x2D, w)
  | .shri c w => some (c, 0x2E, w)
  | .srai c w => some (c, 0x2F, w)
  | .li c w => some (c, 0x30, w)
  | .lih c w => some (c, 0x31, w)
  | .addpc c w => some (c, 0x32, w)
  | .cmp c w => some (c, 0x38, w)
  | .cmpi c w => some (c, 0x39, w)
  | .plog c w => some (c, 0x3A, w)
  | .ldB c w => some (c, 0x40, w)
  | .ldBu c w => some (c, 0x41, w)
  | .ldH c w => some (c, 0x42, w)
  | .ldHu c w => some (c, 0x43, w)
  | .ldW c w => some (c, 0x44, w)
  | .ldWu c w => some (c, 0x45, w)
  | .ldD c w => some (c, 0x46, w)
  | .stB c w => some (c, 0x48, w)
  | .stH c w => some (c, 0x49, w)
  | .stW c w => some (c, 0x4A, w)
  | .stD c w => some (c, 0x4B, w)
  | .bra c w => some (c, 0x50, w)
  | .call c w => some (c, 0x51, w)
  | .jmp c w => some (c, 0x52, w)
  | .jal c w => some (c, 0x53, w)
  | .endProgram c w => some (c, 0x58, w)
  | .trap c w => some (c, 0x59, w)
  | .nop c w => some (c, 0x5A, w)
  | .csrr c w => some (c, 0x70, w)
  | .csrw c w => some (c, 0x71, w)
  | .semAdd c w => some (c, 0x60, w)
  | .semCas c w => some (c, 0x61, w)
  | .semSet c w => some (c, 0x62, w)
  | .wait c w => some (c, 0x63, w)
  | .fence c w => some (c, 0x64, w)
  | .eret c w => some (c, 0xE0, w)
  | .cswap c w => some (c, 0xE1, w)
  | .trace c w => some (c, 0xE2, w)
  | .wcommit c w => some (c, 0xE3, w)
  | .wdog c w => some (c, 0xE4, w)
  | .idle c w => some (c, 0xE5, w)
  | .sarm c w => some (c, 0x80, w)
  | .srearm c w => some (c, 0x81, w)
  | .slink c w => some (c, 0x82, w)
  | .sdrain c w => some (c, 0x83, w)
  | .spos c w => some (c, 0x84, w)
  | .lload c w => some (c, 0x90, w)
  | .lswap c w => some (c, 0x91, w)
  | .lrun c w => some (c, 0x92, w)
  | .ldrain c w => some (c, 0x93, w)
  | .cvt c w => some (c, 0xC8, w)
  | .cvtin c w => some (c, 0xC9, w)
  | .cvtout c w => some (c, 0xCA, w)
  | .vld c w => some (c, 0xA0, w)
  | .vst c w => some (c, 0xA1, w)
  | .vget c w => some (c, 0xA2, w)
  | .vput c w => some (c, 0xA3, w)
  | .vbcast c w => some (c, 0xA4, w)
  | .vext c w => some (c, 0xA5, w)
  | .vins c w => some (c, 0xA6, w)
  | .vmov c w => some (c, 0xA7, w)
  | .vcvt c w => some (c, 0xA8, w)
  | .vadd c w => some (c, 0xB0, w)
  | .vsub c w => some (c, 0xB1, w)
  | .vmul c w => some (c, 0xB2, w)
  | .vfma c w => some (c, 0xB3, w)
  | .vmin c w => some (c, 0xB4, w)
  | .vmax c w => some (c, 0xB5, w)
  | .vabs c w => some (c, 0xB6, w)
  | .vneg c w => some (c, 0xB7, w)
  | .vrcp c w => some (c, 0xB8, w)
  | .vrsqrt c w => some (c, 0xB9, w)
  | .vexp2 c w => some (c, 0xBA, w)
  | .vlog2 c w => some (c, 0xBB, w)
  | .vcmp c w => some (c, 0xBC, w)
  | .vsel c w => some (c, 0xBD, w)
  | .vred c w => some (c, 0xBE, w)
  | .vdiv c w => some (c, 0xBF, w)
  | .bsave c w => some (c, 0xD8, w)
  | .brest c w => some (c, 0xD9, w)
  | .upd c w => some (c, 0xD0, w)
  | _ => none

/-- A core is at an instruction: the input is present (R581) and the core runs and is not parked. -/
def State.ready (s : State) (c : CoreId) : Bool := s.dev.power.input && s.dev.canRun c

/-- The command that executes an instruction raises an exception with an event code (R253, R255, R256, R260): memory, the s and p
registers and csr.instret are as before. A compute core stops in the state that waits for its tensor operations, with the record
it will emit: DETAIL begins with the address of the instruction and csr.optag. A control core outside a handler goes to csr.evec
with csr.epc and csr.cause set and EXC = 1; one inside a handler halts. -/
def State.raises (s : State) (c : CoreId) (code : Nat) (i : Instr) : Prop :=
  ∃ t, exec i s = .next t ∧ t.mem = s.mem ∧
    let k := s.dev.core c
    let k' := t.dev.core c
    (∀ r, k'.getS r = k.getS r) ∧ (∀ r, k'.getP r = k.getP r) ∧ k'.csr.instret = k.csr.instret ∧
    (isCompute c = true → ∃ cls poison det, t = s.onCore c (fun k => { k with run := .raising code cls poison det }) ∧
      det.take 10 = leBytes 8 k.pc.toNat ++ leBytes 2 k.csr.optag.toNat) ∧
    (isCompute c = false → k.csr.exc = false → k'.run = .running ∧ k'.pc = k.csr.evec ∧ k'.csr.epc = k.pc ∧
      k'.csr.cause = BitVec.ofNat 64 code ∧ k'.csr.exc = true) ∧
    (isCompute c = false → k.csr.exc = true → k'.run = .halted ∧ k'.pc = k.pc)

/-! ## Engines with nothing else to do -/

/-- A compute core has no tensor operation outstanding. -/
def State.enginesEmpty (s : State) (c : CoreId) : Bool := (s.dev.tensor c).ops.isEmpty

/-- A tensor instruction has its own effect now: it executes, the s registers it reads are clean (R270), and its core has no tensor operation outstanding. -/
def State.issues (s : State) (c : CoreId) (opc : Nat) (w : Ins) : Bool :=
  s.executes c opc w && s.enginesEmpty c && (sReads opc w).all fun r => !((s.dev.core c).getS r).poison

/-- A vector instruction of a core with nothing outstanding takes effect as it issues: it answers the state in which v register vd
holds a value, every other v register is as before, the core has retired the instruction, and device memory is unchanged. -/
def State.writesV (s : State) (c : CoreId) (opc : Nat) (w : Ins) (i : Instr) (v : VReg) : Prop :=
  s.issues c opc w = true → ∃ t, exec i s = .next t ∧ t.mem = s.mem ∧ t.dev.core c = (s.dev.core c).retired ∧
    ∀ r, (t.dev.tensor c).vreg r = if r = w.d.toNat then v else (s.dev.tensor c).vreg r

/-- The engines of a present compute core have no vector operation and no stream instruction queued, so that an event of theirs is all that happens. -/
def State.calm (s : State) (c : CoreId) : Bool :=
  s.dev.power.input && corePresent c && isCompute c && (s.dev.tensor c).vectorQ.isEmpty && (s.dev.tensor c).streamQ.isEmpty

/-- No partition of the trace ports is writing (R618). -/
def Device.untraced (d : Device) : Prop := ∀ p < 132, d.rbit (Reg.traceStat p) 0 = false

/-- The code of the newest event record of the history (R628). -/
def Device.newest (d : Device) : Option Nat := d.log.history.head?.map fun r => r.code

end Sys2Proof.Machine
end

