-- ==== Sys2Proof/Certificates/Slice0/Obligations.lean ====
section
/-!
DEFINITION. The statements for the provers, one definition each, by chapter of the manual.
-/
open Sys2Proof Sys2Proof.Machine

/-! ## The machine as a whole -/

/-- A step takes the command at the front of the queue and runs it with the queue's rest. -/
def Obligations.StepRunsTheFrontCommand : Prop :=
  ∀ (s : State) (c : Instr) (rest : List Instr),
    step { s with pending := c :: rest } = exec c { s with pending := rest }

/-- On an empty queue a step is one reference cycle: the table clock goes on by 6.4 ns and nothing else changes; while the clock
is steered (R503), it goes on by at most a tenth of a nanosecond more or less, and each tenth leaves the offset that is still to
steer (the model's choice, log 6; the cycle of R610). -/
def Obligations.EmptyQueueIdles : Prop :=
  ∀ s : State, s.pending = [] →
    (s.dev.peer.steer = 0 → step s = .next { s with dev := { s.dev with clock := s.dev.clock + 64 } }) ∧
    ∃ (n : Int) (m : Nat), -1 ≤ n ∧ n ≤ 1 ∧ (0 < s.dev.peer.steer → 0 ≤ n) ∧ (s.dev.peer.steer < 0 → n ≤ 0) ∧
      step s = .next { s with dev := { s.dev with
        clock := (Int.ofNat s.dev.clock + 64 + n).toNat
        peer := { s.dev.peer with slew := m, steer := s.dev.peer.steer - n } } }

/-- Every command but RAIL_LEAVES_WINDOW answers a next state, whatever the state and its operands, and leaves the commands that
wait as they are; RAIL_LEAVES_WINDOW stops with its fault, since outside the operating range nothing is defined (R28). -/
def Obligations.OnlyTheSupplyStopsTheMachine : Prop :=
  (∀ (c : Instr) (s : State), c ≠ .railLeavesWindow → ∃ t, exec c s = .next t ∧ t.pending = s.pending) ∧
  ∀ s : State, exec .railLeavesWindow s = .fault .undefinedSupply

/-! ## Natos scalar instructions -/

/-- ADD to MAXU (R235 to R237): on a core where the instruction has its own effect, sd takes the result, poisoned where an
operand is (R226). -/
def Obligations.RegisterArithmeticResults : Prop :=
  ∀ (s : State) (c : CoreId) (w : Ins),
    let x := (s.dev.core c).getS w.a.toNat
    let y := (s.dev.core c).getS w.b.toNat
    let a := x.val
    let b := y.val
    let gives := fun (opc : Nat) (i : Instr) (v : W64) => s.writesS c opc w i ⟨v, x.poison || y.poison⟩
    gives 0x01 (.add c w) (a + b) ∧
    gives 0x02 (.sub c w) (a - b) ∧
    gives 0x03 (.mul c w) (a * b) ∧
    gives 0x04 (.mulh c w) (((a.signExtend 128 * b.signExtend 128) >>> 64).setWidth 64) ∧
    gives 0x05 (.mulhu c w) (((a.setWidth 128 * b.setWidth 128) >>> 64).setWidth 64) ∧
    gives 0x06 (.div c w) (if b = 0 then 0xFFFF_FFFF_FFFF_FFFF else BitVec.ofInt 64 (a.toInt.tdiv b.toInt)) ∧
    gives 0x07 (.divu c w) (if b = 0 then 0xFFFF_FFFF_FFFF_FFFF else BitVec.ofNat 64 (a.toNat / b.toNat)) ∧
    gives 0x08 (.rem c w) (if b = 0 then a else BitVec.ofInt 64 (a.toInt.tmod b.toInt)) ∧
    gives 0x09 (.remu c w) (if b = 0 then a else BitVec.ofNat 64 (a.toNat % b.toNat)) ∧
    gives 0x0A (.and c w) (a &&& b) ∧
    gives 0x0B (.or c w) (a ||| b) ∧
    gives 0x0C (.xor c w) (a ^^^ b) ∧
    gives 0x0D (.shl c w) (BitVec.ofNat 64 (a.toNat * 2 ^ (b.toNat % 64))) ∧
    gives 0x0E (.shr c w) (BitVec.ofNat 64 (a.toNat / 2 ^ (b.toNat % 64))) ∧
    gives 0x0F (.sra c w) (BitVec.ofInt 64 (a.toInt / 2 ^ (b.toNat % 64))) ∧
    gives 0x10 (.min c w) (BitVec.ofInt 64 (if a.toInt ≤ b.toInt then a.toInt else b.toInt)) ∧
    gives 0x11 (.max c w) (BitVec.ofInt 64 (if a.toInt ≤ b.toInt then b.toInt else a.toInt)) ∧
    gives 0x12 (.minu c w) (BitVec.ofNat 64 (Nat.min a.toNat b.toNat)) ∧
    gives 0x13 (.maxu c w) (BitVec.ofNat 64 (Nat.max a.toNat b.toNat))

/-- SEL to ADDPC (R231, R235). SEL is poisoned where its predicate or the source it selects is; LIH keeps the poison of sd; LI
and ADDPC deliver clean values. -/
def Obligations.SelectCountAndImmediateResults : Prop :=
  ∀ (s : State) (c : CoreId) (w : Ins),
    let k := s.dev.core c
    let x := k.getS w.a.toNat
    let y := k.getS w.b.toNat
    let z := k.getS w.c.toNat
    let imm : W64 := w.imm.signExtend 64
    let q := k.getP w.c.toNat
    s.writesS c 0x14 w (.sel c w) (if q.val then ⟨x.val, x.poison || q.poison⟩ else ⟨y.val, y.poison || q.poison⟩) ∧
    (s.executes c 0x15 w = true → ∃ n : Nat, n ≤ 64 ∧ x.val.toNat < 2 ^ (64 - n) ∧ (n < 64 → 2 ^ (63 - n) ≤ x.val.toNat) ∧
      exec (.clz c w) s = .next (s.onCore c fun k => (k.setS w.d.toNat ⟨BitVec.ofNat 64 n, x.poison⟩).retired)) ∧
    s.writesS c 0x16 w (.popc c w)
      ⟨BitVec.ofNat 64 ((List.range 64).countP fun i => x.val.getLsbD i), x.poison⟩ ∧
    s.writesS c 0x17 w (.madd c w) ⟨x.val * y.val + z.val, x.poison || y.poison || z.poison⟩ ∧
    s.writesS c 0x21 w (.addi c w) ⟨x.val + imm, x.poison⟩ ∧
    s.writesS c 0x2A w (.andi c w) ⟨x.val &&& imm, x.poison⟩ ∧
    s.writesS c 0x2B w (.ori c w) ⟨x.val ||| imm, x.poison⟩ ∧
    s.writesS c 0x2C w (.xori c w) ⟨x.val ^^^ imm, x.poison⟩ ∧
    s.writesS c 0x2D w (.shli c w) ⟨BitVec.ofNat 64 (x.val.toNat * 2 ^ w.imm.toNat), x.poison⟩ ∧
    s.writesS c 0x2E w (.shri c w) ⟨BitVec.ofNat 64 (x.val.toNat / 2 ^ w.imm.toNat), x.poison⟩ ∧
    s.writesS c 0x2F w (.srai c w) ⟨BitVec.ofInt 64 (x.val.toInt / 2 ^ w.imm.toNat), x.poison⟩ ∧
    s.writesS c 0x30 w (.li c w) ⟨(w.a ++ w.b ++ w.c ++ w.imm).signExtend 64, false⟩ ∧
    s.writesS c 0x31 w (.lih c w)
      ⟨w.imm ++ (k.getS w.d.toNat).val.setWidth 32, (k.getS w.d.toNat).poison⟩ ∧
    s.writesS c 0x32 w (.addpc c w) ⟨k.pc + 8 * imm, false⟩

/-- CMP, CMPI and PLOG (R235, R236): pd takes the condition, poisoned where an operand is (R226). -/
def Obligations.CompareAndPredicateResults : Prop :=
  ∀ (s : State) (c : CoreId) (w : Ins),
    let k := s.dev.core c
    let x := k.getS w.a.toNat
    let y := k.getS w.b.toNat
    let imm : W64 := w.imm.signExtend 64
    let cond := fun (n : Nat) (a b : W64) =>
      if n = 0 then decide (a = b) else if n = 1 then decide (a ≠ b) else if n = 2 then decide (a.toInt < b.toInt)
      else if n = 3 then decide (a.toNat < b.toNat) else if n = 4 then decide (b.toInt ≤ a.toInt)
      else decide (b.toNat ≤ a.toNat)
    let p := k.getP w.a.toNat
    let q := k.getP w.b.toNat
    let op := fun (n : Nat) (a b : Bool) =>
      if n = 0 then a && b else if n = 1 then a || b else if n = 2 then xor a b else a && !b
    s.writesP c 0x38 w (.cmp c w) ⟨cond w.c.toNat x.val y.val, x.poison || y.poison⟩ ∧
    s.writesP c 0x39 w (.cmpi c w) ⟨cond w.b.toNat x.val imm, x.poison⟩ ∧
    s.writesP c 0x3A w (.plog c w) ⟨op w.c.toNat p.val q.val, p.poison || q.poison⟩ ∧
    (s.ready c = true → s.fetchFault c = none → (6 ≤ w.c.toNat → s.raises c 0x5001 (.cmp c w)) ∧
      (6 ≤ w.b.toNat → s.raises c 0x5001 (.cmpi c w)) ∧ (4 ≤ w.c.toNat → s.raises c 0x5001 (.plog c w)))

/-- BRA, CALL, JMP, JAL, TRAP and NOP (R242, R243, R253, R256). TRAP's own effect is its exception: a compute core waits for its
tensor operations with the record it will emit, a control core goes to csr.evec, and one inside a handler halts. Where no packet of the trace port is due (compute cores, and branches guarded by
p0) the state differs in the core alone. -/
def Obligations.BranchesAndJumpsGoToTheirTargets : Prop :=
  ∀ (s : State) (c : CoreId) (w : Ins),
    let k := s.dev.core c
    let x := k.getS w.a.toNat
    let imm : W64 := w.imm.signExtend 64
    let near := k.pc + 8 * imm
    let far := x.val + imm
    let link : PVal := ⟨k.pc + 8, false⟩
    (isCompute c = true ∨ w.gp = 0 →
      (s.executes c 0x50 w = true → exec (.bra c w) s = .next (s.onCore c fun k => k.retiredTo near)) ∧
      (s.executes c 0x51 w = true →
        exec (.call c w) s = .next (s.onCore c fun k => (k.setS w.d.toNat link).retiredTo near))) ∧
    (isCompute c = true → x.poison = false → far.toNat % 8 = 0 →
      (s.executes c 0x52 w = true → exec (.jmp c w) s = .next (s.onCore c fun k => k.retiredTo far)) ∧
      (s.executes c 0x53 w = true →
        exec (.jal c w) s = .next (s.onCore c fun k => (k.setS w.d.toNat link).retiredTo far))) ∧
    (isCompute c = false → x.poison = false → far.toNat % 8 = 0 →
      (s.executes c 0x52 w = true → ∃ t, exec (.jmp c w) s = .next t ∧ t.mem = s.mem ∧ (t.dev.core c).pc = far) ∧
      (s.executes c 0x53 w = true → ∃ t, exec (.jal c w) s = .next t ∧ t.mem = s.mem ∧ (t.dev.core c).pc = far ∧
        (w.d ≠ 0 → (t.dev.core c).getS w.d.toNat = link))) ∧
    (s.executes c 0x52 w = true → x.poison = false → far.toNat % 8 ≠ 0 → s.raises c 0x5003 (.jmp c w)) ∧
    (s.executes c 0x53 w = true → x.poison = false → far.toNat % 8 ≠ 0 → s.raises c 0x5003 (.jal c w)) ∧
    (s.executes c 0x59 w = true →
      (isCompute c = true → exec (.trap c w) s = .next (s.onCore c fun k => { k with
        run := .raising 0x5007 .notice false (detail [(0, 8, k.pc.toNat), (8, 2, k.csr.optag.toNat), (10, 2, w.imm.toNat)]) })) ∧
      (isCompute c = false → k.csr.exc = false → ∃ t, exec (.trap c w) s = .next t ∧ t.mem = s.mem ∧
        (t.dev.core c).run = .running ∧ (t.dev.core c).pc = k.csr.evec ∧ (t.dev.core c).csr.epc = k.pc ∧
        (t.dev.core c).csr.cause = 0x5007 ∧ (t.dev.core c).csr.exc = true) ∧
      (isCompute c = false → k.csr.exc = true → ∃ t, exec (.trap c w) s = .next t ∧ t.mem = s.mem ∧
        (t.dev.core c).run = .halted ∧ (t.dev.core c).pc = k.pc)) ∧
    (s.executes c 0x5A w = true → exec (.nop c w) s = .next (s.onCore c Core.retired))

/-- An instruction whose guard is false retires with no effect (R229, R232): csr.instret counts it, the next word follows, and
nothing else changes (a guarded branch of a control core that records outcomes apart, R616). -/
def Obligations.FalseGuardsRetireWithoutEffect : Prop :=
  ∀ (i : Instr) (c : CoreId) (opc : Nat) (w : Ins) (s : State),
    instructionOf i = some (c, opc, w) → s.ready c = true → s.fetchFault c = none → insLegal opc w = true →
    guardOf (s.dev.core c) w = ⟨false, false⟩ → (isCompute c = true ∨ (opc ≠ 0x50 ∧ opc ≠ 0x51)) →
    exec i s = .next (s.onCore c Core.retired)

/-- A core that does not run, or is parked, executes nothing (R224, R256): the command that would execute an instruction on it
leaves the state as it is. -/
def Obligations.CoresThatDoNotRunExecuteNothing : Prop :=
  ∀ (i : Instr) (c : CoreId) (opc : Nat) (w : Ins) (s : State),
    instructionOf i = some (c, opc, w) → s.ready c = false → exec i s = .next s

/-- Exceptions that stand before an instruction's own effect, in the order of R254: FETCH, ILLEGAL by the word (R232) or by the
kind of core (R234, R242), PRIVILEGE, and a poisoned guard; and TRAP. What raising is, R253, R255 and R256 say. -/
def Obligations.ExceptionsStandInTheirOrder : Prop :=
  ∀ (i : Instr) (c : CoreId) (opc : Nat) (w : Ins) (s : State),
    instructionOf i = some (c, opc, w) → s.ready c = true →
    (s.fetchFault c ≠ none → s.raises c 0x5006 i) ∧
    (s.fetchFault c = none → insLegal opc w = false → s.raises c 0x5001 i) ∧
    (s.fetchFault c = none → insLegal opc w = true →
      ((guardOf (s.dev.core c) w).val = true ∨ (guardOf (s.dev.core c) w).poison = true) →
      (isCompute c = false → (0x80 ≤ opc ∧ opc ≤ 0xDF) ∨ opc = 0x58 → s.raises c 0x5001 i) ∧
      (isCompute c = true → 0xE0 ≤ opc → s.raises c 0x5002 i) ∧
      (isCompute c = true → opc < 0x60 → (guardOf (s.dev.core c) w).poison = true → s.raises c 0x5005 i)) ∧
    (s.executes c 0x59 w = true → s.raises c 0x5007 (.trap c w) ∧
      (isCompute c = true → ∃ t det, exec (.trap c w) s = .next t ∧ (t.dev.core c).run = .raising 0x5007 .notice false det ∧
        (det.drop 10).take 2 = leBytes 2 w.imm.toNat))

/-- Loads from memory (R238 to R240, R226): an access of n bytes at sa + imm, aligned, that the core may make, delivers its bytes
to sd, sign-extended or not, poisoned where they are; device memory is unchanged. A clean load changes the core alone. A load
that breaks the alignment, or names no address the core may read, raises MISALIGNED or ACCESS. -/
def Obligations.LoadsDeliverTheBytesAtTheirAddress : Prop :=
  ∀ (s : State) (c : CoreId) (w : Ins) (opc n : Nat) (signed : Bool) (i : Instr),
    (opc, n, signed, i) ∈ [(0x40, 1, true, .ldB c w), (0x41, 1, false, .ldBu c w), (0x42, 2, true, .ldH c w),
      (0x43, 2, false, .ldHu c w), (0x44, 4, true, .ldW c w), (0x45, 4, false, .ldWu c w), (0x46, 8, false, .ldD c w)] →
    s.executes c opc w = true →
    let x := (s.dev.core c).getS w.a.toNat
    let ea := (x.val + w.imm.signExtend 64).toNat
    x.poison = false →
    (ea % n ≠ 0 → s.raises c 0x5003 i) ∧
    (ea % n = 0 → (isCompute c = true ∨ inRegs ea = false) →
      (s.coreAddr c ea n ⟨true, false⟩ = none → s.raises c 0x5004 i) ∧
      ∀ a, s.coreAddr c ea n ⟨true, false⟩ = some a → mirrorOffset c a = none →
        let v : W64 := if signed then (BitVec.ofNat (8 * n) (s.loadN a n)).signExtend 64 else BitVec.ofNat 64 (s.loadN a n)
        (s.poisoned a n = false → exec i s = .next (s.onCore c fun k => (k.setS w.d.toNat ⟨v, false⟩).retired)) ∧
        (s.poisoned a n = true → ∃ t, exec i s = .next t ∧ t.mem = s.mem ∧ (t.dev.core c).pc = (s.dev.core c).pc + 8 ∧
          (w.d ≠ 0 → (t.dev.core c).getS w.d.toNat = ⟨v, true⟩)))

/-- Stores to memory (R238 to R240, R35): the n low bytes of sb are stored at the device address that the access reaches, with the
poison of sb, and the instruction retires; nothing else changes, and no byte outside the n bytes reads differently. -/
def Obligations.StoresWriteTheirBytesAndNoOthers : Prop :=
  ∀ (s : State) (c : CoreId) (w : Ins) (opc n : Nat) (i : Instr),
    (opc, n, i) ∈ [(0x48, 1, .stB c w), (0x49, 2, .stH c w), (0x4A, 4, .stW c w), (0x4B, 8, .stD c w)] →
    s.executes c opc w = true →
    let x := (s.dev.core c).getS w.a.toNat
    let y := (s.dev.core c).getS w.b.toNat
    let ea := (x.val + w.imm.signExtend 64).toNat
    x.poison = false →
    (ea % n ≠ 0 → (isCompute c = true ∨ inRegs ea = false) → s.raises c 0x5003 i) ∧
    (ea % n = 0 → (isCompute c = true ∨ inRegs ea = false) →
      (s.coreAddr c ea n ⟨false, true⟩ = none → s.raises c 0x5004 i) ∧
      ∀ a, s.coreAddr c ea n ⟨false, true⟩ = some a →
        exec i s = .next ((s.store a (leBytes n y.val.toNat) y.poison).onCore c Core.retired) ∧
        (s.mem.wf = true → ∀ b, b < a ∨ a + n ≤ b →
          (s.store a (leBytes n y.val.toNat) y.poison).byte b = s.byte b)) ∧
    (isCompute c = false → inRegs ea = true → y.poison = true → s.raises c 0x5005 i)

/-- Bytes stored on device memory are read back, clean or poisoned (R35, R241, R367): a store of bytes to a core store, or to a
cluster store below its width-controller region, whose block is not in block reset. -/
def Obligations.StoredBytesAreReadBack : Prop :=
  ∀ (s : State) (a i : Nat) (bs : List Byte) (p : Bool),
    s.mem.wf = true → s.behindWrapper a = false → i < bs.length →
    (match regionOf a, regionOf (a + i) with
      | (.coreStore _ _ _, _), (.coreStore _ _ _, _) => True
      | (.clusterStore _ _, o), (.clusterStore _ _, q) => o < 0x7F_0000 ∧ q < 0x7F_0000
      | _, _ => False) →
    (s.store a bs p).byte (a + i) = bs.getD i 0 ∧ (p = true → (s.store a bs p).poisoned a bs.length = true) ∧
      (p = false → a % 8 = 0 → bs.length % 8 = 0 → (s.store a bs p).poisoned a bs.length = false)

/-- CSRR and CSRW (R228, R229, R634), where the core may make the access: CSRR delivers the register's value, clean; CSRW writes the
register's writable bits and nothing else. csr.status takes only EXC; csr.evec reads its low three bits zero; csr.ipend clears
the bits written 1; a reserved watchdog period leaves csr.wdog as it is. The value of csr.cycle is free (log 2). -/
def Obligations.ControlRegistersAreReadAndWritten : Prop :=
  ∀ (s : State) (c : CoreId) (w : Ins),
    let k := s.dev.core c
    let r := k.csr
    let n := w.imm.toNat
    let x := k.getS w.a.toNat
    let reads := fun (m : Nat) (v : W64) =>
      n = m → exec (.csrr c w) s = .next (s.onCore c fun k => (k.setS w.d.toNat ⟨v, false⟩).retired)
    let writes := fun (m : Nat) (r' : Csr) =>
      n = m → exec (.csrw c w) s = .next (s.onCore c fun k => { k with csr := r' }.retired)
    (s.executes c 0x70 w = true →
      reads 0x000 (BitVec.ofNat 64 ((if isCompute c then 0 else 1) + (if r.exc then 2 else 0) + (if r.fpend then 4 else 0))) ∧
      reads 0x001 r.cause ∧ reads 0x002 r.epc ∧ reads 0x003 r.evec ∧ reads 0x004 r.scratch ∧ reads 0x008 r.faultTag ∧
      reads 0x010 (r.optag.setWidth 64) ∧ reads 0x011 (r.epoch.setWidth 64) ∧
      reads 0x020 (BitVec.ofNat 64 (c.core + 2 ^ 8 * c.cluster + 2 ^ 12 * c.die + (if isCompute c then 0 else 2 ^ 16))) ∧
      reads 0x021 r.launch ∧ reads 0x031 (BitVec.ofNat 64 (s.dev.clock / 10)) ∧ reads 0x032 r.instret ∧ reads 0x040 r.wdog ∧
      reads 0x042 r.ienable ∧ reads 0x043 r.timer ∧
      (n = 0x041 → ∃ v : W64, exec (.csrr c w) s = .next (s.onCore c fun k => (k.setS w.d.toNat ⟨v, false⟩).retired) ∧
        v.getLsbD 0 = decide (r.timer.toNat ≤ s.dev.clock / 10) ∧ ∀ j, 0 < j → v.getLsbD j = r.ipend.getLsbD j) ∧
      (n = 0x030 → ∃ v : W64, exec (.csrr c w) s =
        .next ((s.onCore c fun k => (k.setS w.d.toNat ⟨v, false⟩).retired).onDev Device.takeFresh))) ∧
    (s.executes c 0x71 w = true → x.poison = false →
      writes 0x000 { r with exc := x.val.getLsbD 1 } ∧ writes 0x002 { r with epc := x.val } ∧
      writes 0x003 { r with evec := x.val &&& 0xFFFF_FFFF_FFFF_FFF8 } ∧ writes 0x004 { r with scratch := x.val } ∧
      writes 0x010 { r with optag := x.val.setWidth 16 } ∧
      writes 0x040 (if x.val.setWidth 32 = 0 then r else { r with wdog := (x.val.setWidth 32).setWidth 64 }) ∧
      writes 0x041 { r with ipend := r.ipend &&& ~~~(x.val &&& 0x3E) } ∧
      writes 0x042 { r with ienable := x.val &&& 0x3F } ∧ writes 0x043 { r with timer := x.val })

/-- Accesses to control registers that R228 refuses: a number of no register, or of the other kind of core, is ILLEGAL; a
register shown as none for a user is PRIVILEGE; a write of a register shown as read only is ILLEGAL. -/
def Obligations.RefusedControlRegistersRaise : Prop :=
  ∀ (s : State) (c : CoreId) (w : Ins),
    s.ready c = true → s.fetchFault c = none → (guardOf (s.dev.core c) w).val = true →
    (insLegal 0x70 w = true → isCompute c = true → w.imm.toNat ∈ [0x001, 0x002, 0x003, 0x004, 0x040, 0x041, 0x042, 0x043] →
      s.raises c 0x5002 (.csrr c w)) ∧
    (insLegal 0x70 w = true → isCompute c = false → w.imm.toNat ∈ [0x008, 0x011, 0x021] → s.raises c 0x5001 (.csrr c w)) ∧
    (insLegal 0x70 w = true → w.imm.toNat ∈ [0x005, 0x012, 0x033, 0x044, 0xFFF] → s.raises c 0x5001 (.csrr c w)) ∧
    (insLegal 0x71 w = true → w.imm.toNat ∈ [0x020, 0x030, 0x031, 0x032] → s.raises c 0x5001 (.csrw c w)) ∧
    (insLegal 0x71 w = true → isCompute c = true → w.imm.toNat = 0x000 → s.raises c 0x5001 (.csrw c w))

/-- SEM.ADD, SEM.CAS and SEM.SET (R245, R246): on an aligned word of a cluster store that the core may reach, the word takes its new
value, poisoned where the word or an operand that R246 names was, and sd takes the old value. An address that is no multiple of 8
raises MISALIGNED; one that falls outside a cluster store raises ACCESS. -/
def Obligations.SemaphoresUpdateTheirWord : Prop :=
  ∀ (s : State) (c : CoreId) (w : Ins) (opc : Nat) (i : Instr),
    (opc, i) ∈ [(0x60, .semAdd c w), (0x61, .semCas c w), (0x62, .semSet c w)] →
    s.executes c opc w = true →
    let x := (s.dev.core c).getS w.a.toNat
    let y := (s.dev.core c).getS w.b.toNat
    let z := (s.dev.core c).getS w.c.toNat
    let ea := x.val.toNat
    x.poison = false →
    (ea % 8 ≠ 0 → s.raises c 0x5003 i) ∧
    (ea % 8 = 0 → s.semAddr c ea true = none → s.raises c 0x5004 i) ∧
    ∀ a, ea % 8 = 0 → s.semAddr c ea true = some a →
      (inClusterStore a = false → s.raises c 0x5004 i) ∧
      (inClusterStore a = true →
        let old : PVal := ⟨BitVec.ofNat 64 (s.loadN a 8), s.poisoned a 8⟩
        let new : PVal :=
          if opc = 0x60 then ⟨old.val + y.val, old.poison || y.poison⟩
          else if opc = 0x61 then
            ⟨if old.val = y.val then z.val else old.val, old.poison || y.poison || z.poison⟩
          else ⟨y.val, old.poison || y.poison⟩
        let stored := s.store a (leBytes 8 new.val.toNat) new.poison
        (opc = 0x62 → exec i s = .next (stored.onCore c Core.retired)) ∧
        (opc ≠ 0x62 → old.poison = false →
          exec i s = .next (stored.onCore c fun k => (k.setS w.d.toNat old).retired)) ∧
        (opc ≠ 0x62 → old.poison = true → ∃ t, exec i s = .next t ∧ t.mem = stored.mem ∧
          (w.d ≠ 0 → (t.dev.core c).getS w.d.toNat = old)))

/-- WAIT, WAIT_SUCCESS and WAIT_TIMEOUT (R247, R40, R254). A WAIT whose condition holds completes with pd = 1, with DEC after its
subtraction; one with timeout 0 completes with pd = 0; another waits. A waiting core completes when the condition holds, also in
the cycle in which its timeout expires, and with pd = 0 and memory unchanged when the timeout expires without it. A poisoned word
raises POISON_USE. -/
def Obligations.WaitsEndBySuccessOrTimeout : Prop :=
  let holds := fun (n : Nat) (m b : W64) =>
    if n = 0 then decide (m = b) else if n = 1 then decide (m ≠ b) else if n = 2 then decide (b.toNat ≤ m.toNat)
    else decide (m.toNat < b.toNat)
  ∀ (s : State) (c : CoreId),
    let k := s.dev.core c
    let word := fun (a : Nat) => (BitVec.ofNat 64 (s.loadN a 8) : W64)
    let taken := fun (a : Nat) (dec : Bool) (b : W64) =>
      if dec then s.store a (leBytes 8 (word a - b).toNat) false else s
    (∀ (w : Ins) (a : Nat),
      let b := k.getS w.b.toNat
      let t := k.getS w.c.toNat
      let x := k.getS w.a.toNat
      let n := w.imm.toNat % 8
      let dec := w.imm.getLsbD 3
      s.executes c 0x63 w = true → x.poison = false → b.poison = false → t.poison = false → x.val.toNat % 8 = 0 →
      s.semAddr c x.val.toNat dec = some a → inClusterStore a = true →
      (s.poisoned a 8 = true → s.raises c 0x5005 (.wait c w)) ∧
      (s.poisoned a 8 = false → holds n (word a) b.val = true →
        exec (.wait c w) s = .next ((taken a dec b.val).onCore c fun k => (k.setP w.d.toNat ⟨true, false⟩).retired)) ∧
      (s.poisoned a 8 = false → holds n (word a) b.val = false → t.val = 0 →
        exec (.wait c w) s = .next (s.onCore c fun k => (k.setP w.d.toNat ⟨false, false⟩).retired)) ∧
      (s.poisoned a 8 = false → holds n (word a) b.val = false → t.val ≠ 0 →
        let expiry := if t.val = 0xFFFF_FFFF_FFFF_FFFF then none else some ((s.dev.clock / 10 + t.val.toNat) * 10)
        exec (.wait c w) s = .next (s.onCore c fun k => { k with run := .waiting a n dec b.val w.d.toNat expiry }))) ∧
    (∀ (a n pd : Nat) (dec : Bool) (b : W64) (e : Option Nat),
      s.dev.power.input = true → k.run = .waiting a n dec b pd e → n < 4 → s.poisoned a 8 = false →
      let ended := fun (v : Bool) => (fun k : Core => ({ (k.setP pd ⟨v, false⟩) with run := .running } : Core).retired)
      (holds n (word a) b = true → exec (.waitSuccess c) s = .next ((taken a dec b).onCore c (ended true))) ∧
      (holds n (word a) b = false → exec (.waitSuccess c) s = .next s) ∧
      (∀ x, e = some x → x ≤ s.dev.clock → holds n (word a) b = true →
        exec (.waitTimeout c) s = .next ((taken a dec b).onCore c (ended true))) ∧
      (∀ x, e = some x → x ≤ s.dev.clock → holds n (word a) b = false →
        exec (.waitTimeout c) s = .next (s.onCore c (ended false))) ∧
      (∀ x, e = some x → s.dev.clock < x → exec (.waitTimeout c) s = .next s))

/-- FENCE and FENCE_COMPLETE (R249, R258): the core issues nothing while it is fencing; with T = 1 the FENCE waits until its tensor
operations have completed, an LDRAIN with no run among them, and reports a pending fault as TENSOR_FAULT, then a poisoned guard. -/
def Obligations.FencesHoldUntilComplete : Prop :=
  ∀ (s : State) (c : CoreId),
    (∀ w, s.executes c 0x64 w = true →
      exec (.fence c w) s = .next (s.onCore c fun k => { k with run := .fencing w.imm.toNat none })) ∧
    ∀ i p, s.dev.power.input = true → (s.dev.core c).run = .fencing i p →
      let done := s.dev.tensorQuiet c = true ∧ (s.dev.tensor c).drainQ = []
      (i.testBit 2 = true → ¬ done → exec (.fenceComplete c) s = .next s) ∧
      ((i.testBit 2 = true → done ∧ (s.dev.core c).csr.fpend = false ∧ p = none) →
        exec (.fenceComplete c) s = .next (s.onCore c fun k => ({ k with run := .running } : Core).retired)) ∧
      (i.testBit 2 = true → done → (s.dev.core c).csr.fpend = true → isCompute c = true →
        ∃ t cls det, exec (.fenceComplete c) s = .next t ∧ (t.dev.core c).run = .raising 0x5008 cls false det) ∧
      (i.testBit 2 = true → done → (s.dev.core c).csr.fpend = false → p ≠ none → isCompute c = true →
        ∃ t cls det, exec (.fenceComplete c) s = .next t ∧ (t.dev.core c).run = .raising 0x5005 cls true det)

/-- END, PROGRAM_END and EXCEPTION_END (R244, R255, R258, R269): END takes its status; the program ends when the tensor operations
are done, with the status where no fault is pending, and its launch's entry takes note; a core that raised an exception ends with
the exception's code. The core is then free for the next launch. Where nothing can go on before the drains that have no run are
ended, the end ends those first (R269). -/
def Obligations.ProgramsEnd : Prop :=
  ∀ (s : State) (c : CoreId),
    let k := s.dev.core c
    let free := fun (t : State) => (t.dev.core c).run = .idle ∧ (t.dev.core c).launch = none
    let mine := fun (e : Entry) => k.launch = some (e.fn, e.queue, e.slot)
    let undrained := fun (i : Instr) => ∃ t, exec i s = .next t ∧ t.mem = s.mem ∧ (t.dev.core c).run = k.run ∧
      (t.dev.tensor c).drainQ = []
    (∀ w, s.executes c 0x58 w = true →
      let bad := if (k.getS w.a.toNat).poison then some (w.a.toNat, 0) else none
      exec (.endProgram c w) s =
        .next (s.onCore c fun k => { k with run := .ending ((k.getS w.a.toNat).val.toNat % 65536) bad })) ∧
    (s.dev.power.input = true → c.core < 64 ∧ c.cluster < 16 →
      (∀ n p, k.run = .ending n p → s.dev.tensorQuiet c = false →
        (s.dev.endStuck c = false → exec (.programEnd c) s = .next s) ∧
        (s.dev.endStuck c = true → undrained (.programEnd c))) ∧
      (∀ n, k.run = .ending n none → s.dev.tensorQuiet c = true → k.csr.fpend = false →
        (s.dev.tensor c).drainQ = [] → (s.dev.tensor c).outs = [] →
        ∃ t, exec (.programEnd c) s = .next t ∧ free t ∧ t.mem = s.mem ∧
          (t.dev.core c).csr.instret = k.csr.instret + 1 ∧
          ∀ e ∈ s.dev.entries, mine e → { e with statuses := e.statuses ++ [n] } ∈ t.dev.entries) ∧
      (∀ code cls p det, k.run = .raising code cls p det → s.dev.tensorQuiet c = false →
        (s.dev.endStuck c = false → exec (.exceptionEnd c) s = .next s) ∧
        (s.dev.endStuck c = true → undrained (.exceptionEnd c))) ∧
      (∀ code cls p det, k.run = .raising code cls p det → s.dev.tensorQuiet c = true →
        (s.dev.tensor c).drainQ = [] → (s.dev.tensor c).outs = [] →
        ∃ t, exec (.exceptionEnd c) s = .next t ∧ free t ∧ t.mem = s.mem ∧
          (s.dev.untraced → (∀ f, s.dev.flrBusy f = false) → t.dev.newest = some code) ∧
          ∀ e ∈ s.dev.entries, mine e → { e with exceptions := e.exceptions ++ [(coreKey c, code)] } ∈ t.dev.entries))

/-- ERET, WDOG, TRACE and IDLE with its ends (R229, R250). IDLE completes with pd = 1 while an enabled notification is pending, and
with pd = 0 when its timeout expires without one; csr.ipend.TIMER is 1 while csr.time ≥ csr.timer. -/
def Obligations.StewardInstructionsTakeEffect : Prop :=
  ∀ (s : State) (c : CoreId),
    let k := s.dev.core c
    let ended := fun (pd : Nat) (v : Bool) => (fun k : Core => ({ (k.setP pd ⟨v, false⟩) with run := .running } : Core).retired)
    (∀ w, s.executes c 0xE0 w = true → ∃ t, exec (.eret c w) s = .next t ∧ t.mem = s.mem ∧ (t.dev.core c).pc = k.csr.epc ∧
      (t.dev.core c).csr.exc = false ∧ ∀ r, (t.dev.core c).getS r = k.getS r) ∧
    (∀ w, s.executes c 0xE4 w = true → exec (.wdog c w) s = .next (s.onCore c fun k =>
      ({ k with wdogAt := some (s.dev.clock + k.csr.wdog.toNat % 2 ^ 32 * 10000) } : Core).retired)) ∧
    (∀ w, s.executes c 0xE2 w = true → ∃ t, exec (.trace c w) s = .next t ∧ t.mem = s.mem ∧
      (t.dev.core c).pc = k.pc + 8 ∧ (w.imm = 0 → t.dev.rbit (Reg.traceStat (partOf c)) 0 = true) ∧
      (w.imm = 1 → t.dev.rbit (Reg.traceStat (partOf c)) 0 = false)) ∧
    (∀ w, s.executes c 0xE5 w = true → (k.getS w.a.toNat).poison = false →
      (s.dev.notified c = true →
        exec (.idle c w) s = .next (s.onCore c fun k => (k.setP w.d.toNat ⟨true, false⟩).retired)) ∧
      (s.dev.notified c = false → (k.getS w.a.toNat).val = 0 →
        exec (.idle c w) s = .next (s.onCore c fun k => (k.setP w.d.toNat ⟨false, false⟩).retired)) ∧
      (s.dev.notified c = false → (k.getS w.a.toNat).val ≠ 0 → ∃ e,
        exec (.idle c w) s = .next (s.onCore c fun k => { k with run := .idling w.d.toNat e }))) ∧
    (∀ pd e, s.dev.power.input = true → k.run = .idling pd e →
      (s.dev.notified c = true → exec (.idleWake c) s = .next (s.onCore c (ended pd true))) ∧
      (s.dev.notified c = false → exec (.idleWake c) s = .next s) ∧
      (∀ x, e = some x → x ≤ s.dev.clock → s.dev.notified c = false →
        exec (.idleTimeout c) s = .next (s.onCore c (ended pd false))) ∧
      (∀ x, e = some x → s.dev.clock < x → exec (.idleTimeout c) s = .next s) ∧
      (k.csr.timer.toNat ≤ s.dev.clock / 10 → k.csr.ienable.getLsbD 0 = true →
        exec (.timerExpiry c) s = .next (s.onCore c (ended pd true))))

/-- CSWAP and WCOMMIT (R251, R252): a CSWAP that R251 turns away, and a WCOMMIT that names no cluster, complete with pd = 0 and
change nothing else; a CSWAP that takes place puts the core it retires into block reset and the reserve core into its position;
a WCOMMIT that the cluster accepts moves STATE on and completes with pd = 1. -/
def Obligations.ReserveSwapsAndStepControl : Prop :=
  ∀ (s : State) (c : CoreId) (w : Ins),
    let k := s.dev.core c
    let x := k.getS w.a.toNat
    let y := k.getS w.b.toNat
    let a := x.val.toNat
    let b := y.val.toNat
    let fails := s.onCore c fun k => (k.setP w.d.toNat ⟨false, false⟩).retired
    (s.executes c 0xE1 w = true → x.poison = false → y.poison = false →
      let cl : ClusterId := ⟨a / 4096 % 16, a / 256 % 16⟩
      let old := a % 256
      let new := b % 256
      let z := s.dev.cluster cl
      let fits := a < 65536 ∧ b < 256 ∧ old ≤ 0x21 ∧ new ≤ 0x21 ∧ cl.die < 8 ∧ (c.die = 8 ∨ cl = ⟨c.die, c.cluster⟩) ∧
        old ∈ z.positions ∧ new ∉ z.positions ∧ new ∉ z.failed
      (¬ fits → exec (.cswap c w) s = .next fails) ∧
      (fits → ∃ t, exec (.cswap c w) s = .next t ∧ (t.dev.core ⟨cl.die, cl.cluster, old⟩).run = .blockReset ∧
        (t.dev.core ⟨cl.die, cl.cluster, new⟩).run = .idle ∧
        (t.dev.cluster cl).positions = z.positions.map (fun j => if j = old then new else j) ∧
        (w.d ≠ 0 → (t.dev.core c).getP w.d.toNat = ⟨true, false⟩))) ∧
    (s.executes c 0xE3 w = true → x.poison = false →
      let own := a % 256 = 0xFF
      let cl : ClusterId := if a % 256 = 0xFF then ⟨c.die, c.cluster⟩ else ⟨a / 16 % 16, a % 16⟩
      (a ≥ 256 ∨ (own ∧ c.die = 8) ∨ (¬ own ∧ cl.die ≥ 8) → exec (.wcommit c w) s = .next fails) ∧
      (a < 256 → ¬ (own ∧ c.die = 8) → cl.die < 8 → s.dev.wcOn cl = true →
        (w.imm = 1 → s.dev.wcState cl = 0 → ∃ t, exec (.wcommit c w) s = .next t ∧ t.dev.wcState cl = 1 ∧
          (w.d ≠ 0 → (t.dev.core c).getP w.d.toNat = ⟨true, false⟩)) ∧
        (w.imm = 2 → s.dev.wcState cl = 2 → s.dev.rf (Reg.wcEpoch cl) 47 32 = (s.dev.curEpoch cl + 1).toNat →
          ∃ t, exec (.wcommit c w) s = .next t ∧ t.dev.wcState cl = 3 ∧
          (w.d ≠ 0 → (t.dev.core c).getP w.d.toNat = ⟨true, false⟩)) ∧
        (w.imm = 1 → s.dev.wcState cl ≠ 0 → ∃ t, exec (.wcommit c w) s = .next t ∧ t.dev.wcState cl = s.dev.wcState cl ∧
          (w.d ≠ 0 → (t.dev.core c).getP w.d.toNat = ⟨false, false⟩))))

/-! ## Natos tensor instructions -/

/-- Tensor instructions issue (R261 to R264, R270): with clean sources, a queue that is not full and nothing to settle, the
operation is appended to its queue with the OPC, fields, csr.optag, csr.epoch and operand value as they stand at issue, the
instruction retires, and memory is unchanged. A full queue holds the pipe: nothing changes. A poisoned source raises POISON_USE,
and an address of SARM or UPD that is no multiple of 64 or 128 raises MISALIGNED. -/
def Obligations.TensorOperationsEnterTheirQueues : Prop :=
  ∀ (s : State) (c : CoreId) (w : Ins) (opc : Nat) (i : Instr) (queue : Device → List TOp),
    (opc, i) ∈ [(0x80, .sarm c w), (0x90, .lload c w), (0x91, .lswap c w), (0x92, .lrun c w), (0x93, .ldrain c w),
      (0xC8, .cvt c w), (0xC9, .cvtin c w), (0xCA, .cvtout c w), (0xD8, .bsave c w), (0xD9, .brest c w), (0xD0, .upd c w)] →
    queue = (fun d => let t := d.tensor c
      if opc = 0x80 then t.streamQ else if opc ≤ 0x92 then t.latticeQ else if opc = 0x93 then t.drainQ
      else if opc ≤ 0xCA then t.convQ else if opc = 0xD0 then (d.unitsOf ⟨c.die, c.cluster⟩).updates.map Prod.snd
      else t.saveQ) →
    s.executes c opc w = true →
    let k := s.dev.core c
    let clean := (sReads opc w).all fun r => !(k.getS r).poison
    let a := (k.getS w.a.toNat).val.toNat
    (clean = false → s.raises c 0x5005 i) ∧
    (clean = true → opc = 0x80 → a % 64 ≠ 0 → s.raises c 0x5003 i) ∧
    (clean = true → opc = 0xD0 → a % 128 ≠ 0 → s.raises c 0x5003 i) ∧
    (clean = true → (opc = 0x80 → a % 64 = 0) → (opc = 0xD0 → a % 128 = 0) →
      (s.dev.queueFull c opc = true → exec i s = .next s) ∧
      (s.dev.queueFull c opc = false → s.calm c = true →
        ∃ t op, exec i s = .next t ∧ t.mem = s.mem ∧ queue t.dev = queue s.dev ++ [op] ∧ op.opc = opc ∧ op.ins = w ∧
          op.tag = k.csr.optag ∧ op.epoch = k.csr.epoch ∧
          (opc = 0x80 ∨ opc = 0xD0 ∨ opc = 0x93 → op.x.toNat = a) ∧
          (opc = 0xC8 ∨ opc = 0xC9 ∨ opc = 0xCA → op.x = (k.getS w.b.toNat).val ∧ op.y = (k.getS w.c.toNat).val) ∧
          t.dev.core c = k.retired))

/-- SREARM, SLINK, SDRAIN and SPOS on a core with nothing outstanding take effect as they issue (R275, R276, R329, R330, R346): a
re-arm of a persistent stream waits with its base, csr.epoch and csr.optag; a legal link joins an index stream to a linked
stream; a drained read stream is unarmed; SPOS gives the position. On an unarmed handle SREARM and SLINK change no stream. -/
def Obligations.StreamInstructionsTakeEffect : Prop :=
  ∀ (s : State) (c : CoreId) (w : Ins),
    let k := s.dev.core c
    let a := w.a.toNat
    let h := w.d.toNat
    (∀ st, s.issues c 0x81 w = true → s.dev.stream c h = some st → sdPersist st.desc.toNat = true → st.rearm = none →
      (k.getS a).val.toNat % sdUnit st.desc.toNat = 0 →
      ∃ t, exec (.srearm c w) s = .next t ∧ t.mem = s.mem ∧
        t.dev.stream c h = some { st with rearm := some ((k.getS a).val.toNat, k.csr.epoch, k.csr.optag) }) ∧
    (s.issues c 0x81 w = true → s.dev.stream c h = none →
      ∃ t, exec (.srearm c w) s = .next t ∧ t.dev.stream c h = none) ∧
    (∀ x y, s.issues c 0x82 w = true → h ≠ a → s.dev.stream c h = some x → s.dev.stream c a = some y →
      sdDir y.desc.toNat = 0 → x.requested = 0 → x.taken = 0 → sdLinked x.desc.toNat = true → indexOk y.desc.toNat = true →
      y.drives = none → x.link = none →
      ∃ t, exec (.slink c w) s = .next t ∧ t.mem = s.mem ∧ ((t.dev.stream c h).map fun st => st.link) = some (some a) ∧
        ((t.dev.stream c a).map fun st => st.drives) = some (some h)) ∧
    (∀ st, s.issues c 0x83 w = true → s.dev.stream c h = some st → sdDir st.desc.toNat = 0 → st.link = none →
      st.drives = none → tsorted (s.dev.tensor c).streams = true →
      ∃ t, exec (.sdrain c w) s = .next t ∧ t.mem = s.mem ∧ t.dev.stream c h = none) ∧
    (∀ st, s.issues c 0x84 w = true → s.dev.stream c a = some st →
      ∃ t, exec (.spos c w) s = .next t ∧ t.mem = s.mem ∧ (t.dev.core c).pc = k.pc + 8 ∧
        (w.d ≠ 0 → (t.dev.core c).getS w.d.toNat = ⟨BitVec.ofNat 64 st.position, false⟩))

/-- The arithmetic vector instructions (R290 to R292): lane by lane, the exact result of the lanes rounded to nearest, poisoned where
a lane of a source is. -/
def Obligations.VectorArithmeticWorksLaneByLane : Prop :=
  ∀ (s : State) (c : CoreId) (w : Ins) (opc : Nat) (i : Instr) (n sources : Nat) (f : El → El → El → El),
    n = (if w.imm.getLsbD 0 then 4 else 2) →
    (opc = 0xB0 ∧ i = .vadd c w ∧ sources = 2 ∧ (f = fun a b _ => elAdd a b)) ∨
    (opc = 0xB1 ∧ i = .vsub c w ∧ sources = 2 ∧ (f = fun a b _ => elAdd a (elNeg b))) ∨
    (opc = 0xB2 ∧ i = .vmul c w ∧ sources = 2 ∧ (f = fun a b _ => elMul a b)) ∨
    (opc = 0xB3 ∧ i = .vfma c w ∧ sources = 3 ∧ (f = fun a b z => elAdd (elMul a b) z)) ∨
    (opc = 0xB4 ∧ i = .vmin c w ∧ sources = 2 ∧ (f = fun a b _ => elMin a b)) ∨
    (opc = 0xB5 ∧ i = .vmax c w ∧ sources = 2 ∧ (f = fun a b _ => elMax a b)) ∨
    (opc = 0xB6 ∧ i = .vabs c w ∧ sources = 1 ∧ (f = fun a _ _ => elAbs a)) ∨
    (opc = 0xB7 ∧ i = .vneg c w ∧ sources = 1 ∧ (f = fun a _ _ => elNeg a)) ∨
    (opc = 0xB8 ∧ i = .vrcp c w ∧ sources = 1 ∧ (f = fun a _ _ => elDiv (elFin 1) a)) ∨
    (opc = 0xB9 ∧ i = .vrsqrt c w ∧ sources = 1 ∧ (f = fun a _ _ => elRsqrt a)) ∨
    (opc = 0xBA ∧ i = .vexp2 c w ∧ sources = 1 ∧ (f = fun a _ _ => elExp2 roots a)) ∨
    (opc = 0xBB ∧ i = .vlog2 c w ∧ sources = 1 ∧ (f = fun a _ _ => elLog2 a)) ∨
    (opc = 0xBF ∧ i = .vdiv c w ∧ sources = 2 ∧ (f = fun a b _ => elDiv a b)) →
    let t := s.dev.tensor c
    let lane := fun (r : BitVec 5) (j : Nat) => laneEl n ((t.vreg r.toNat).lane n j)
    s.writesV c opc w i (vregOf n ((List.range (256 / n)).map fun j =>
      let x := lane w.a j
      let y := lane w.b j
      let z := lane w.c j
      ((laneBits n (f x y z)).1,
        x.poison || (decide (2 ≤ sources) && y.poison) || (decide (3 ≤ sources) && z.poison))))

/-- The other vector instructions between registers (R290 to R293): VBCAST, VMOV, VCVT, VCMP, VSEL and VINS write vd; VEXT and VRED
write sd. -/
def Obligations.VectorMovesComparesAndReductions : Prop :=
  ∀ (s : State) (c : CoreId) (w : Ins),
    let k := s.dev.core c
    let t := s.dev.tensor c
    let va := t.vreg w.a.toNat
    let vb := t.vreg w.b.toNat
    let vc := t.vreg w.c.toNat
    let n := if w.imm.getLsbD 0 then 4 else 2
    let lanes := List.range (256 / n)
    let el := fun (v : VReg) (j : Nat) => laneEl n (v.lane n j)
    let gives := fun (opc : Nat) (i : Instr) (v : PVal) => s.issues c opc w = true →
      ∃ t, exec i s = .next t ∧ t.mem = s.mem ∧ t.dev.core c = (k.setS w.d.toNat v).retired
    s.writesV c 0xA4 w (.vbcast c w) (vregOf n (List.replicate (256 / n) ((k.getS w.a.toNat).val.toNat, false))) ∧
    s.writesV c 0xA7 w (.vmov c w) va ∧
    (w.imm = 0 → s.writesV c 0xA8 w (.vcvt c w) (vregOf 4 ((List.range 64).map fun j => ((va.lane 2 j).1 * 65536, (va.lane 2 j).2)))) ∧
    (w.imm = 1 → s.writesV c 0xA8 w (.vcvt c w) (vregOf 2 ((List.range 64).map fun j =>
      ((laneBits 2 (laneEl 4 (va.lane 4 j))).1, (va.lane 4 j).2)))) ∧
    s.writesV c 0xBC w (.vcmp c w) (vregOf n (lanes.map fun j =>
      (if elCond (w.imm.toNat / 2) (el va j) (el vb j) then 2 ^ (8 * n) - 1 else 0,
        (va.lane n j).2 || (vb.lane n j).2))) ∧
    s.writesV c 0xBD w (.vsel c w) (vregOf 2 ((List.range 128).map fun j =>
      (if (vc.lane 2 j).1 ≠ 0 then (va.lane 2 j).1 else (vb.lane 2 j).1,
        (va.lane 2 j).2 || (vb.lane 2 j).2 || (vc.lane 2 j).2))) ∧
    (s.issues c 0xA6 w = true → ∃ u v, exec (.vins c w) s = .next u ∧ u.mem = s.mem ∧ u.dev.core c = k.retired ∧
      (u.dev.tensor c).vreg w.d.toNat = v ∧ ∀ j < 256 / n, v.lane n j =
        if j = w.imm.toNat / 2 then ((k.getS w.b.toNat).val.toNat % 2 ^ (8 * n), false) else va.lane n j) ∧
    gives 0xA5 (.vext c w) ⟨BitVec.ofNat 64 (va.lane n (w.imm.toNat / 2)).1, (va.lane n (w.imm.toNat / 2)).2⟩ ∧
    (w.imm.getLsbD 1 = true → gives 0xBE (.vred c w)
      ⟨BitVec.ofNat 64 (laneBits 4 ((lanes.drop 1).foldl (fun m j => elMax m (el va j)) (el va 0))).1,
        lanes.any fun j => (va.lane n j).2⟩) ∧
    (w.imm.getLsbD 1 = false → gives 0xBE (.vred c w)
      ⟨BitVec.ofNat 64 (laneBits 4 (redSum 7 (lanes.map (el va))).1).1, lanes.any fun j => (va.lane n j).2⟩)

/-- VLD, VST, VGET and VPUT (R240, R294): VLD brings the 256 bytes at its address; VST stores those of vb and no byte outside them
changes; VGET takes the next 256 bytes of the stream's current item; VPUT appends a packet to the item being built. An address
that is no multiple of 256 raises MISALIGNED, one the core may not reach ACCESS. -/
def Obligations.VectorMemoryAndStreamTransfers : Prop :=
  ∀ (s : State) (c : CoreId) (w : Ins),
    let k := s.dev.core c
    let ea := ((k.getS w.a.toNat).val + w.imm.signExtend 64).toNat
    let vb := (s.dev.tensor c).vreg w.b.toNat
    (s.issues c 0xA0 w = true →
      (ea % 256 ≠ 0 → s.raises c 0x5003 (.vld c w)) ∧
      (ea % 256 = 0 → s.coreAddr c ea 256 ⟨true, false⟩ = none → s.raises c 0x5004 (.vld c w)) ∧
      ∀ a, ea % 256 = 0 → s.coreAddr c ea 256 ⟨true, false⟩ = some a → a < 2 ^ 64 → mirrorOffset c a = none →
        s.presentRange a 256 = true →
        s.writesV c 0xA0 w (.vld c w) (vregOf 2 ((List.range 128).map fun j =>
          (s.loadN (a + 2 * j) 2, s.poisoned (a + 2 * j) 2)))) ∧
    (s.issues c 0xA1 w = true →
      (ea % 256 ≠ 0 → s.raises c 0x5003 (.vst c w)) ∧
      (ea % 256 = 0 → s.coreAddr c ea 256 ⟨false, true⟩ = none → s.raises c 0x5004 (.vst c w)) ∧
      ∀ a, ea % 256 = 0 → s.coreAddr c ea 256 ⟨false, true⟩ = some a → a < 2 ^ 64 → a % 256 = 0 →
        s.presentRange a 256 = true →
        ∃ t, exec (.vst c w) s = .next t ∧ t.dev.core c = k.retired ∧
          (s.mem.wf = true → (∀ b, b < a ∨ a + 256 ≤ b → t.byte b = s.byte b) ∧
            ((match regionOf a with
              | (.coreStore _ _ _, _) => True
              | _ => False) → s.behindWrapper a = false →
              ∀ j < 256, t.byte (a + j) = BitVec.ofNat 8 (vb.val.toNat >>> (8 * j))))) ∧
    (∀ st it, s.issues c 0xA2 w = true → s.dev.stream c w.a.toNat = some st → st.drives = none →
      sdDir st.desc.toNat = 0 → st.next (s.dev.tensor c) = some it →
      let cut := (((it.pkts.map fun p => p.payload.map fun b => (b, pktBad p)).flatten).drop st.used).take 256
      s.writesV c 0xA2 w (.vget c w) (vregOf 2 ((List.range 128).map fun j =>
        (leNat (((cut.drop (2 * j)).take 2).map Prod.fst), ((cut.drop (2 * j)).take 2).any Prod.snd)))) ∧
    (∀ st, s.issues c 0xA3 w = true → s.dev.stream c w.a.toNat = some st → st.drives = none → sdDir st.desc.toNat = 1 →
      st.room = true →
      let t := s.dev.tileAt c st st.accepted
      8 * 256 * (st.puts.length + 1) < t.rows * t.cols * sdElemBits st.desc.toNat →
      ∃ u p, exec (.vput c w) s = .next u ∧ u.mem = s.mem ∧ u.dev.core c = k.retired ∧
        u.dev.stream c w.a.toNat = some { st with puts := st.puts ++ [p] } ∧ p.payload = leBytes 256 vb.val.toNat ∧
        p.hdr.opTag = k.csr.optag ∧ p.hdr.epoch = k.csr.epoch ∧ p.hdr.poison = decide (vb.poison ≠ 0))

/-! ## Stream events -/

/-- STREAM_ARMED, REARM_TAKE_EFFECT, TILE_REQUEST, TILE_STAGED, FEEDER_REFILL and TILE_TAKEN (R310, R323, R327, R346, R351): a
descriptor that passes the checks arms its handle, another leaves it unarmed and raises a pending fault; a read stream requests
tiles only while fewer than AHEAD are staged or in flight; no tile is taken past the stream's last; a feeder takes its next word, and
an activation tile leaves its buffer when every feeder has taken its words of it, and not before. -/
def Obligations.StreamTilesMoveThroughTheirStages : Prop :=
  ∀ (s : State) (c : CoreId) (h : Nat),
    let x := s.dev.tensor c
    let put := fun (st : Stream) => s.onDev fun d => d.setStream c h st
    (∀ op bs, s.dev.power.input = true → corePresent c = true → isCompute c = true → x.vectorQ = [] → x.streamQ = [op] →
      op.opc = 0x80 → op.ins.d.toNat = h → x.turn op h = true → s.dev.stream c h = none →
      s.loadV op.fn op.x.toNat 64 = some (bs, false) →
      let w := leNat bs
      let cause := (s.onDev fun d => d.popStreamQ c).armCause c op.fn h w
      (cause = none → sdLinked w = false → ∃ t, exec (.streamArmed c h) s = .next t ∧ t.mem = s.mem ∧
        (t.dev.tensor c).streamQ = [] ∧ ∃ st, t.dev.stream c h = some st ∧ st.desc = BitVec.ofNat 512 w ∧ st.tag = op.tag ∧
          st.epoch = op.epoch ∧ st.base = sdBase w ∧ st.passes = 1 ∧ st.requested = 0 ∧ st.taken = 0 ∧ st.accepted = 0) ∧
      (cause ≠ none → (0x6010, op.tag.toNat, h) ∉ x.once → ∃ t, exec (.streamArmed c h) s = .next t ∧ t.mem = s.mem ∧
        t.dev.stream c h = none ∧ (t.dev.core c).csr.fpend = true)) ∧
    (∀ st, s.calm c = true → s.dev.stream c h = some st →
      let w := st.desc.toNat
      (∀ b e tag, st.rearm = some (b, e, tag) → st.limit x ≤ st.requested → exec (.rearmTakeEffect c h) s =
        .next (put { st with base := b, passEpoch := e, passTag := tag, passes := st.passes + 1, rearm := none })) ∧
      (sdDir w = 0 → sdEnd w = 0 → sdLinked w = false → st.link = none → st.orbit = none → st.requested < st.limit x →
        let tile := s.fetchTile (s.dev.coreFn c) st (sdExt w 1) (st.requested % sdTiles w (sdExt w 1))
        (sdAhead w ≤ st.staged.length + st.flight.length → exec (.tileRequest c h) s = .next s) ∧
        (st.staged.length + st.flight.length < sdAhead w → tile.2 = none → exec (.tileRequest c h) s =
          .next ((put { st with requested := st.requested + 1
                                flight := st.flight ++ [⟨st.requested, st.passEpoch, st.passTag, tile.1⟩] }).onDev
            Device.takeFresh))) ∧
      (∀ n f, st.flight.find? (fun f => decide (f.tile = n)) = some f → ∃ t it, exec (.tileStaged c h n) s = .next t ∧
        t.mem = s.mem ∧ it.tile = n ∧ t.dev.stream c h = some
          { st with flight := st.flight.filter fun f => decide (f.tile ≠ n), staged := st.staged ++ [it] }) ∧
      (st.limit x ≤ st.taken → exec (.tileTaken c h) s = .next s) ∧
      (∀ it, st.taken < st.limit x → st.staged.find? (fun i => decide (i.tile = st.taken)) = some it → st.orbit = none →
        (st.drives ≠ none ∨ ∃ o ∈ x.ops, h ∈ o.holds) → exec (.tileTaken c h) s =
          .next (put { st with staged := st.staged.filter fun j => decide (j.tile ≠ st.taken), given := st.given ++ [it]
                               taken := st.taken + 1, owed := if sdEnd w = 1 then st.owed + 1 else st.owed }))) ∧
    (∀ r f n, s.calm c = true → x.run = some r → r.feeders.getD f 0 = n →
      let p := (r.form.getD .single).positions
      let r1 := { r with feeders := r.feeders.set f (n + 1) }
      let given := Host.Outcome.next (s.onDev fun d => d.onTensor c fun x => { x with run := some r1 })
      f < 64 → f < p → n < r.tile + 16 → n * p + f < r.k → n * p + f < r.covered →
      (r.held = [] → r.covered < r.k → exec (.feederRefill c f) s = given) ∧
      (∀ u rest, r.held = u :: rest → r1.covers u = false → exec (.feederRefill c f) s = given) ∧
      (∀ u st, r.held = [u] → r1.covers u = true → s.dev.stream c r.op.ins.a.toNat = some st → st.orbit = none →
        ∃ t r', exec (.feederRefill c f) s = .next t ∧ t.mem = s.mem ∧ t.dev.stream c r.op.ins.a.toNat = some st.pop ∧
          (t.dev.tensor c).run = some r' ∧ r'.held = []) ∧
      ∃ t r' k, exec (.feederRefill c f) s = .next t ∧ t.mem = s.mem ∧ (t.dev.tensor c).run = some r' ∧
        r'.feeders = r1.feeders ∧ r'.acts = r.acts ∧ r'.covered = r.covered ∧ r'.held = r.held.drop k)

/-- STREAM_WRITE_TILE, WRITE_BUFFER_FREE, CHAIN_GRANT, CHAIN_TILE_SEND, CHAIN_ITEM_RECEIVE, ORBIT_COPY and ORBIT_READY (R318, R324,
R336, R341): the item at the head of a write stream is placed at its tile's address, and with none complete what has come of the
open item is written; a chain tile moves against a grant and
never without one; a region of an orbit is copied to the successor, which has it then; a finished step sends a ready. -/
def Obligations.WritesChainsAndOrbitsMoveItems : Prop :=
  ∀ (s : State) (c : CoreId) (h : Nat) (st : Stream),
    s.calm c = true → s.dev.stream c h = some st →
    let x := s.dev.tensor c
    let w := st.desc.toNat
    let kind := fmtKind (sdFmt w)
    let put := fun (st : Stream) => s.onDev fun d => d.setStream c h st
    let both := fun (st : Stream) (p : CoreId) (h' : Nat) (y : Stream) =>
      s.onDev fun d => (d.setStream c h st).setStream p h' y
    let mate := partnerOf w
    (∀ it rest, st.buf = it :: rest → sdDir w = 1 → sdEnd w = 0 →
      let t := s.dev.tileAt c st it.tile
      let va := sdRowAddr w st.base t t.x1 + t.x0 * (sdElemBits w / 8)
      (∃ u, exec (.streamWriteTile c h) s = .next u ∧ u.dev.stream c h = some
        { st with buf := rest, writing := st.writing + 1, placed := st.placed + 1 }) ∧
      (∀ p a, it.pkts = [p] → st.shownOf it.tile = 0 → kind ≠ 0 → t.rows = 1 → p.hdr.poison = false → p.hdr.compressed = false →
        p.hdr.width.toNat = kindWidth kind → p.payload.length = t.cols * (sdElemBits w / 8) →
        pieces va p.payload.length = [(va, p.payload.length)] →
        s.translateMem (s.dev.coreFn c) va ⟨false, true⟩ = some a →
        ∃ u, exec (.streamWriteTile c h) s = .next u ∧ u.mem = (s.store a p.payload false).mem)) ∧
    (st.buf = [] → sdDir w = 1 → sdEnd w = 0 →
      let past := st.openCount ≤ st.shownOf st.accepted ∨ sdTiles w (sdExt w 1) ≤ st.accepted
      (past → exec (.streamWriteTile c h) s = .next s) ∧
      (¬ past → ∃ u, exec (.streamWriteTile c h) s = .next u ∧
        u.dev.stream c h = some { st with shown := some (st.accepted, st.openCount) })) ∧
    (exec (.writeBufferFree c h) s = .next (put { st with writing := st.writing - 1 })) ∧
    (∀ n, sdEnd w = 1 → sdDir w = 0 → st.owed = n + 1 → coreKey mate ≠ coreKey c →
      (s.dev.crosses c mate 0 = false → exec (.chainGrant c h) s = .next s) ∧ (s.dev.crosses c mate 0 = true →
      (∀ h' y, (s.dev.tensor mate).chainTo 1 c = some (h', y) → exec (.chainGrant c h) s =
        .next (both { st with owed := n } mate h' { y with grants := y.grants + 1 })) ∧
      ((s.dev.tensor mate).chainTo 1 c = none → (s.dev.tensor mate).kept.length < 16 →
        ∃ t, exec (.chainGrant c h) s = .next t ∧ t.dev.stream c h = some { st with owed := n } ∧
          tget (t.dev.tensor mate).kept 0 (coreKey c) = tget (s.dev.tensor mate).kept 0 (coreKey c) + 1))) ∧
    (∀ it rest, sdEnd w = 1 → sdDir w = 1 → st.buf = it :: rest → coreKey mate ≠ coreKey c →
      ((st.grants = 0 ∧ st.loose = false) ∨ s.dev.crosses c mate 2 = false → exec (.chainTileSend c h) s = .next s) ∧
      ∀ n h' y, st.grants = n + 1 → s.dev.crosses c mate 2 = true → (s.dev.tensor mate).chainTo 0 c = some (h', y) → exec (.chainTileSend c h) s =
        .next (both { st with buf := rest, writing := st.writing + 1, placed := st.placed + 1, grants := n } mate h'
          { y with arriving := y.arriving ++ [it] })) ∧
    (∀ it rest, st.arriving = it :: rest → (it.pkts.map fun p => p.payload.length).sum ≤ sdTileBytes w →
      exec (.chainItemReceive c h) s = .next (put
        { st with arriving := rest, staged := st.staged ++ [⟨st.requested, it.pkts⟩], requested := st.requested + 1 })) ∧
    (∀ o p h' y q, st.orbit = some o → o.copied = false → o.step + 1 < o.n → (o.step < 2 ∨ o.step ≤ o.ready) →
      (o.step = 0 ∨ tfind o.arrived o.step = some true) → tfind o.arrived o.step ≠ some false →
      p = o.member c (o.pos + 1) → coreKey p ≠ coreKey c → s.dev.crosses c p 2 = true →
      (s.dev.core p).run ≠ .blockReset → (s.dev.tensor p).orbitHandle h = some (h', y) → y.orbit = some q → o.size = q.size →
      ∃ t, exec (.orbitCopy c h) s = .next t ∧
        t.mem = (s.copyRange (o.region o.step) (q.region (o.step + 1)) o.size false).mem ∧
        t.dev.stream p h' = some { y with orbit := some { q with
          arrived := tput q.arrived (o.step + 1) true
          heads := tput q.heads (o.step + 1) (st.headOf o.step st.passTag st.passEpoch) } } ∧
        (o.took < sdTiles w (st.rows1 x) → t.dev.stream c h = some { st with orbit := some { o with copied := true } })) ∧
    (∀ o p h' y, st.orbit = some o → o.readySent < o.step → o.step < o.n → p = o.member c (o.pos + o.n - 1) →
      coreKey p ≠ coreKey c → s.dev.crosses c p 0 = true → (s.dev.tensor p).orbitHandle h = some (h', y) → exec (.orbitReady c h) s =
        .next (both { st with orbit := some { o with readySent := o.readySent + 1 } } p h'
          { y with orbit := y.orbit.map fun q => { q with ready := q.ready + 1 } }))

/-! ## The Lattice, conversions, saves and updates -/

/-- LOAD_DONE, SWAP_TAKE_EFFECT, RUN_START and ANCHOR_FIXED (R127, R128, R130, R153, R281): a tile loaded stands in the back buffer,
a swap moves it to the front and leaves the back empty, a run that meets the rules starts at its first wave with an output tile of
its own, and the pre-pass fixes an anchor that no product exceeds (143 for a semiring mode). -/
def Obligations.LatticeTilesAreLoadedAndRunsStart : Prop :=
  ∀ (s : State) (c : CoreId), s.calm c = true →
    let x := s.dev.tensor c
    (∀ op rest d w, x.run = none → x.latticeQ = op :: rest → op.opc = 0x90 → x.turns op = true →
      s.dev.loadTile c op op.ins.a.toNat (bitAt op.ins.imm.toNat 0) false = some (d, w) →
      ∃ t, exec (.loadDone c) s = .next t ∧ t.mem = s.mem ∧ (t.dev.tensor c).back = some w ∧
        (t.dev.tensor c).latticeQ = rest) ∧
    (∀ op rest, x.run = none → x.latticeQ = op :: rest → op.opc = 0x91 →
      (∀ w, x.back = some w → exec (.swapTakeEffect c) s =
        .next (s.onDev fun d => d.onTensor c fun t =>
          { t with latticeQ := rest, front := some w, back := none, spare := x.front })) ∧
      (x.back = none → ∃ t, exec (.swapTakeEffect c) s = .next t ∧ t.mem = s.mem ∧ (t.dev.tensor c).latticeQ = rest ∧
        (t.dev.tensor c).front = x.front ∧ (t.dev.core c).csr.fpend = true)) ∧
    (∀ op rest f, x.run = none → x.latticeQ = op :: rest → op.opc = 0x92 → s.dev.runMayStart c op = true →
      s.firstForm c op = some f → runSeed op = false → (s.dev.runHandles c op).2 = true → runMode op < 7 →
      let k := if runWsrc op then op.x.toNat else (x.front.map fun w => w.positions).getD 0
      0 < k → k ≤ 2 ^ 32 → runM op * f.cols ≤ 8192 →
      (runWsrc op = true → s.dev.spanBad c op.ins.b.toNat (runTiles k f.positions) = false) →
      s.dev.actSpanBad c op.ins.a.toNat k (runTra op) = false →
      s.outlSpanBad c op (s.dev.actFmt c op) f.cols ((s.dev.genOf (cluOfCore c) op.epoch).getD 0) = false →
      ∃ t r o, exec (.runStart c) s = .next t ∧ t.mem = s.mem ∧ (t.dev.tensor c).run = some r ∧ (t.dev.tensor c).latticeQ = rest ∧
        (t.dev.tensor c).outs = x.outs ++ [o] ∧ r.op = op ∧ r.k = k ∧ r.tile = 0 ∧ r.wave = 0 ∧ r.fixed = false ∧
        r.flight = [] ∧ r.form = some f ∧ o.seq = op.seq ∧ o.m = runM op ∧ o.n = f.cols ∧ o.ended = false ∧ o.tallies = []) ∧
    (∀ r o as' ws prods, x.run = some r → r.fixed = false → x.outOf r.op.seq = some o →
      let left := if runWsrc r.op then runTiles r.k ((r.form.getD .single).positions) - r.loaded else 0
      s.runNewer c r o left = none → s.peekActs c r (r.k + 1) r.held.length r.covered = some as' → s.peekWeights c r left = some ws →
      s.outProds c r o (r.row0 as'.1) = some prods →
      ∃ t o', exec (.anchorFixed c) s = .next t ∧ t.mem = s.mem ∧ (t.dev.tensor c).run.map Run.fixed = some true ∧
        (t.dev.tensor c).outOf r.op.seq = some o' ∧ (o.mode ≠ 0 → o'.anchor = some 143) ∧
        (o.mode = 0 → ∀ p ∈ prods, p.s ≠ 0 → p.nonfin = false → ∃ a, o'.anchor = some a ∧ p.e + 2 ≤ a))

/-- PASS_BROADCAST, TALLY_UPDATE, OUTLIER_PRODUCT, RUN_END and DRAIN_TILE (R132, R135 to R137, R156, R158, R165, R283, R284): a frozen
array broadcasts nothing; a pass is formed from the wave and the tile in front and enters its tallies later; a run ends only
when every pass is broadcast and entered; a drain in tally form sends the tallies' records in order as one item. -/
def Obligations.LatticePassesFillTalliesThatDrain : Prop :=
  ∀ (s : State) (c : CoreId), s.calm c = true →
    let x := s.dev.tensor c
    let tallies := fun (t : State) (seq : Nat) (f : OutTile → Prop) => ∀ o ∈ (t.dev.tensor c).outs, o.seq = seq → f o
    (∀ r o, x.run = some r → x.outOf r.op.seq = some o →
      (∀ k, r.allPassed = false → s.freeze c r o = some k → ∃ t, exec (.passBroadcast c) s = .next t ∧ t.mem = s.mem ∧
        t.dev.tensor c = x) ∧
      (∀ w, r.allPassed = false → s.freeze c r o = none → r.tile < r.swapped → x.front = some w → r.waveZero r.wave = false →
        let sent := { r with flight := r.flight ++ [(r.pass w o r.wave r.high).1] }
        ∃ t r', exec (.passBroadcast c) s = .next t ∧ t.mem = s.mem ∧ (t.dev.tensor c).run = some r' ∧ r'.flight = sent.flight ∧
          (o.mode ≠ 0 ∨ r.twoPasses r.wave = false → r' = sent.nextWave o.m)) ∧
      (∀ p rest col v e b, r.flight = p :: rest → p.adds = [(col, v, e, b)] → p.bad = [] →
        let j := p.wave * o.n + col
        ∃ t, exec (.tallyUpdate c) s = .next t ∧ t.mem = s.mem ∧ (t.dev.tensor c).run = some { r with flight := rest } ∧
          tallies t r.op.seq fun o' => tget o'.tallies Tally.empty j =
            ((tget o.tallies Tally.empty j).enter o.mode (o.anchor.getD 0) v e).1) ∧
      (∀ ps p, r.fixed = true → s.outProds c r o (r.row0 []) = some ps → ps[r.outliers]? = some p → o.dead = false →
        p.nonfin = false → p.poison = false →
        let j := p.wave * o.n + p.col
        ∃ t, exec (.outlierProduct c) s = .next t ∧ t.mem = s.mem ∧
          (t.dev.tensor c).run = some { r with outliers := r.outliers + 1 } ∧
          tallies t r.op.seq fun o' => tget o'.tallies Tally.empty j =
            ((tget o.tallies Tally.empty j).enter 0 (o.anchor.getD 0) p.s p.e).1) ∧
      (∀ ps, s.outProds c r o (r.row0 []) = some ps → r.fixed = true →
        (r.allPassed = false ∨ r.flight ≠ [] ∨ r.outliers < ps.length → exec (.runEnd c) s = .next s) ∧
        (r.allPassed = true → r.flight = [] → ps.length ≤ r.outliers → ∃ t, exec (.runEnd c) s = .next t ∧ t.mem = s.mem ∧
          (t.dev.tensor c).run = none ∧ tallies t r.op.seq fun o' => o'.ended = true))) ∧
    (∀ op rest o outs st, x.drainQ = op :: rest → x.outs = o :: outs → x.turns op = true →
      let h := op.ins.d.toNat
      s.dev.epochReached c op.epoch = true → (∀ e, o.adopted = some e → s.dev.epochReached c e = true) →
      s.dev.holdOut ⟨.core c.die c.cluster c.core, 64⟩ = false → s.dev.stream c h = some st → st.drives = none → sdDir st.desc.toNat = 1 → st.room = true →
      st.accepted < sdTiles st.desc.toNat (sdExt st.desc.toNat 1) →
      (o.ended = false → exec (.drainTile c) s = .next s) ∧
      (o.ended = true → (tgtOf op op.x op.y).kind = 4 → ∃ t ps, exec (.drainTile c) s = .next t ∧ t.mem = s.mem ∧
        (t.dev.tensor c).drainQ = rest ∧ (t.dev.tensor c).outs = outs ∧
        t.dev.stream c h = some { st with buf := st.buf ++ [⟨st.accepted, ps⟩], accepted := st.accepted + 1 } ∧
        (ps.map fun p => p.payload).flatten = ((List.range (o.m * o.n)).map fun j => (o.record j).1).flatten ∧
        (o.adopted = none → ∀ p ∈ ps, p.hdr.epoch = op.epoch)))

/-- CONVERSION_EXECUTE, SAVE_EXECUTE, RESTORE_EXECUTE and UPDATE_PROGRAM (R286, R288, R297, R298, R299, R303, R304, R390, R393, R409):
with its item present and its registers and handles its own, CVT uses up that item and writes one; CVTIN fills its v register and
moves on within the item; CVTOUT moves on within the item it writes, and waits where it fills that item and the stream has no room
for the rest; BSAVE and BREST use up an item and write one, which for an item
of width 8 is its compressed form; the update unit finishes the operation at the head of its queue. -/
def Obligations.ConversionsSavesAndUpdatesExecute : Prop :=
  ∀ (s : State) (c : CoreId) (op : TOp),
    let x := s.dev.tensor c
    let cl := cluOfCore c
    let a := op.ins.a.toNat
    let h := op.ins.d.toNat
    let takes := fun (o : Stream) => s.dev.stream c h = some o ∧ o.drives = none ∧ sdDir o.desc.toNat = 1 ∧ o.room = true ∧
      o.accepted < sdTiles o.desc.toNat (sdExt o.desc.toNat 1)
    let took := fun (t : State) (o : Stream) (ps : List Packet) =>
      t.dev.stream c h = some { o with buf := o.buf ++ [⟨o.accepted, ps⟩], accepted := o.accepted + 1 }
    let used := fun (t : State) (st : Stream) => t.dev.stream c a = some (st.orbitStep x)
    (∀ rest, s.calm c = true → x.convQ = op :: rest → x.turns op = true → x.vTurn op = true → s.dev.epochReached c op.epoch = true →
      let g := tgtOf op op.x op.y
      let n := if g.kind = 1 then 128 else 64
      (∀ st ps o, op.opc = 0xC8 → s.dev.srcOf c op a = .item st ps → takes o → ∃ t its, exec (.conversionExecute c) s = .next t ∧
        (t.dev.tensor c).convQ = rest ∧ used t st.pop ∧ took t o its ∧ (g.kind ≠ 0 → t.mem = s.mem)) ∧
      (∀ st ps, op.opc = 0xC9 → s.dev.srcOf c op a = .item st ps →
        let els := (s.dev.itemElems cl op.epoch (s.dev.tileAt c st (st.taken - st.given.length)) ps).1
        ∃ t, exec (.conversionExecute c) s = .next t ∧ t.mem = s.mem ∧ (t.dev.tensor c).convQ = rest ∧
          used t (if els.length ≤ st.used + n then st.pop else { st with used := st.used + n }) ∧
          ∀ r, r ≠ h → (t.dev.tensor c).vreg r = x.vreg r) ∧
      (∀ o, op.opc = 0xCA → takes o →
        let t0 := s.dev.tileAt c o o.accepted
        let k := (if bitAt op.ins.imm.toNat 13 then 64 else 128) - o.used
        ∃ t, exec (.conversionExecute c) s = .next t ∧
          ((t.dev.tensor c).convQ = rest ∨ ((t.dev.tensor c).convQ = op :: rest ∧ ∃ o', t.dev.stream c h = some o' ∧ o'.room = false)) ∧
          (o.count + k < t0.rows * t0.cols → (t.dev.tensor c).convQ = rest ∧ ∃ cur tail,
            t.dev.stream c h = some { o with cur := cur, tail := tail, count := o.count + k, used := 0 }))) ∧
    (∀ rest st ps o, s.calm c = true → x.saveQ = op :: rest → x.turns op = true → s.dev.rawSrc c a = .item st ps → takes o →
      let moves := fun (i : Instr) (more : State → List Packet → Prop) => ∃ t out, exec i s = .next t ∧ t.mem = s.mem ∧
        (t.dev.tensor c).saveQ = rest ∧ used t st.pop ∧ took t o out ∧ more t out
      (op.opc = 0xD8 → moves (.saveExecute c) fun t out =>
        ((∀ p ∈ ps, p.hdr.width = 8) → (out.map fun p => p.payload).flatten =
          saveBytes (ps.headD ⟨coreHdr c 0x04 op.tag op.epoch, []⟩).hdr ((itemBlocks ps).map fun b => (b.2.1, b.2.2))) ∧
        ((∃ p ∈ ps, p.hdr.width ≠ 8) → (t.dev.core c).csr.fpend = true ∧ ∀ p ∈ out, p.hdr.poison = true)) ∧
      (op.opc = 0xD9 → moves (.restoreExecute c) fun t _ =>
        (∃ p ∈ ps, p.hdr.width ≠ 0) → (∀ p ∈ ps, p.hdr.poison = false) → (t.dev.core c).csr.fpend = true)) ∧
    (∀ ck rest, s.dev.power.input = true → clusterPresent cl = true → c = coreOf ck → (s.dev.unitsOf cl).updates = (ck, op) :: rest →
      let waits := s.dev.epochReached c op.epoch = false ∨ s.dev.wireTurn cl = true
      (waits → exec (.updateProgram cl) s = .next s) ∧
      (∀ i v, ¬ waits → (s.dev.unitsOf cl).tscHeld = some (i, v) →
        (s.dev.rbit (Reg.wcStat cl) 2 = false → exec (.updateProgram cl) s = .next s) ∧
        (s.dev.rbit (Reg.wcStat cl) 2 = true → ∃ t, exec (.updateProgram cl) s = .next t ∧ t.mem = s.mem ∧
          (t.dev.unitsOf cl).updates = rest ∧ t.dev.rf (Reg.tscaleNext cl i) 31 0 = v.toNat)) ∧
      (¬ waits → (s.dev.unitsOf cl).tscHeld = none →
        ((∀ bs, s.loadV op.fn op.x.toNat 128 ≠ some (bs, false)) → ∃ t, exec (.updateProgram cl) s = .next t ∧ t.mem = s.mem ∧
          (t.dev.unitsOf cl).updates = rest ∧ (t.dev.core c).csr.fpend = true) ∧
        ∀ bs, s.loadV op.fn op.x.toNat 128 = some (bs, false) →
          let u : UpdDesc := ⟨op.ins.imm.toNat, bs⟩
          (u.cause ≠ none → ∃ t, exec (.updateProgram cl) s = .next t ∧ t.mem = s.mem ∧ (t.dev.unitsOf cl).updates = rest) ∧
          (u.cause = none → (u.flag 4 = false ∨ s.dev.rbit (Reg.wcStat cl) 2 = true) → ∃ t, exec (.updateProgram cl) s = .next t ∧
            (t.dev.unitsOf cl).updates = rest)))

/-- A saved item restores to the blocks it was made of (R390 to R393, R636): decoding the compressed form gives CODEBOOK, TSCALE,
EPOCH, and every block with its codes and its poison. -/
def Obligations.SavedItemsDecodeToTheirBlocks : Prop :=
  ∀ (h : Header) (bs : List (Blk × Bool)), bs ≠ [] → bs.length < 2 ^ 32 →
    (∀ b ∈ bs, match b.1 with
      | .zero => True
      | .codes e cs => e < 255 ∧ cs.length = 32 ∧ ∀ k ∈ cs, k < 256) →
    restBytes (saveBytes h bs) = .ok (h.codebook.toNat, h.tscale.toNat, h.epoch.toNat, bs)

/-! ## The width controller -/

/-- Writes of the width controller's registers (R93, R183, R185, R186, R200, R203, R214, R216, R219): CB_DESC_WRITE, CB_ENTRY_WRITE,
TSCALE_ENT_WRITE, TSCALE_NEXT_WRITE, LAYER_DESC_WRITE, LAYER_NEXT_WRITE, WC_LADDER_WRITE, WC_RULE_WRITE, WC_STEP_WRITE and WC_ENABLE.
The current generation takes writes only while ENABLE = 0, and then both generations take them; the next one only while
NEXT_READY = 1; a valid codebook slot keeps its entries; a rule's streaks start again when it is written. -/
def Obligations.WidthControlRegistersTakeTheirWrites : Prop :=
  ∀ (s : State) (cl : ClusterId) (n k : Nat) (v : W64),
    s.dev.power.input = true → clusterPresent cl = true →
    let d := s.dev
    let on := d.wcOn cl
    let next := d.nextReady cl
    let goes := fun (f : Device → Device) => Host.Outcome.next (s.onDev f)
    (∀ e : W16, n < 64 → k < 256 →
      (d.rf (Reg.cbDesc cl n) 3 0 ≠ 0 → exec (.cbEntryWrite cl n k e) s = .next s) ∧
      (d.rf (Reg.cbDesc cl n) 3 0 = 0 → ∃ t, exec (.cbEntryWrite cl n k e) s = .next t ∧ t.mem = s.mem ∧
        t.dev.rf (Reg.cbEntry cl n k) (16 * (k % 4) + 6) (16 * (k % 4)) = e.toNat % 128 ∧
        t.dev.rf (Reg.cbEntry cl n k) (16 * (k % 4) + 14) (16 * (k % 4) + 8) = e.toNat / 256 % 128)) ∧
    (n < 64 → d.rf (Reg.cbDesc cl n) 3 0 = 0 →
      let d1 := d.writeFields (Reg.cbDesc cl n) v
      let w := d1.rf (Reg.cbDesc cl n) 3 0
      w ≠ 0 → ∃ t, exec (.cbDescWrite cl n v) s = .next t ∧ t.mem = s.mem ∧
        t.dev.rf (Reg.cbDesc cl n) 3 0 = (if d1.cbCheck cl n w then w else 0) ∧
        t.dev.rbit (Reg.cbDesc cl n) 16 = !(d1.cbCheck cl n w)) ∧
    (n < 256 →
      (on = true → exec (.tscaleEntWrite cl n v) s = .next s) ∧
      (on = false → ∃ t, exec (.tscaleEntWrite cl n v) s = .next t ∧ t.mem = s.mem ∧
        t.dev.reg (Reg.tscaleEnt cl n) = (d.writeFields (Reg.tscaleEnt cl n) v).reg (Reg.tscaleEnt cl n) ∧
        t.dev.reg (Reg.tscaleNext cl n) = (d.writeFields (Reg.tscaleNext cl n) v).reg (Reg.tscaleNext cl n)) ∧
      (next = false → exec (.tscaleNextWrite cl n v) s = .next s) ∧
      (next = true → exec (.tscaleNextWrite cl n v) s = goes fun d => d.writeFields (Reg.tscaleNext cl n) v)) ∧
    (n < 256 → k < 2 →
      (on = true → exec (.layerDescWrite cl n k v) s = .next s) ∧
      (on = false → exec (.layerDescWrite cl n k v) s =
        goes fun d => (d.writeFields (Reg.layerDesc cl n k) v).writeFields (Reg.layerNext cl n k) v) ∧
      (next = false → exec (.layerNextWrite cl n k v) s = .next s) ∧
      (next = true → k = 1 → exec (.layerNextWrite cl n k v) s = goes fun d => d.writeFields (Reg.layerNext cl n 1) v) ∧
      (next = true → k = 0 →
        let legal := rungLegal (d.regN (Reg.wcLadder cl)) ((d.writeFields (Reg.layerNext cl n 0) v).regN (Reg.layerNext cl n 0))
        (legal (v.toNat % 8) = true → legal (v.toNat / 16 % 8) = true →
          exec (.layerNextWrite cl n k v) s = goes fun d => d.writeFields (Reg.layerNext cl n 0) v) ∧
        (legal (v.toNat % 8) = false → ∃ t, exec (.layerNextWrite cl n k v) s = .next t ∧ t.mem = s.mem ∧
          t.dev.rf (Reg.layerNext cl n 0) 2 0 = d.rf (Reg.layerNext cl n 0) 2 0))) ∧
    (on = true ∨ d.ladderOk cl v.toNat = false → exec (.wcLadderWrite cl v) s = .next s) ∧
    (on = false → d.ladderOk cl v.toNat = true → exec (.wcLadderWrite cl v) s = goes fun d => d.writeFields (Reg.wcLadder cl) v) ∧
    (∀ th : Bool, n < 32 →
      let o := if th then Reg.wcRuleTh cl n else Reg.wcRule cl n
      ∃ t, exec (.wcRuleWrite cl n th v) s = .next t ∧ t.mem = s.mem ∧ t.dev.reg o = (d.writeFields o v).reg o ∧
        ∀ j < 256, (t.dev.cluster cl).streak n j = 0) ∧
    (∀ seed : Bool, (on = true → exec (.wcStepWrite cl seed v) s = .next s) ∧
      (on = false → exec (.wcStepWrite cl seed v) s =
        goes fun d => d.writeFields (if seed then Reg.wcSeed cl else Reg.wcStep cl) v)) ∧
    (∀ e : Bool, ∃ t, exec (.wcEnable cl e) s = .next t ∧ t.mem = s.mem ∧ t.dev.wcOn cl = e ∧
      (e = true → on = false → ∀ r < 32, ∀ j < 256, (t.dev.cluster cl).streak r j = 0))

/-- CLOSE, CLOSE_BANK_SWAP, COMMIT, GENERATION_SWAP, NEXT_COPY_DONE, WC_ABANDON, AGREEMENT_SAMPLE, MERGE and MERGE_TIMEOUT (R199, R213, R218,
R219, R221, R543): STATE goes from open to closing, proposed, committing and back to open, each step only from the one before
it; a commit that operations hold does not take place; the generations rotate but for what is pinned. -/
def Obligations.StepsCloseAndCommitInOrder : Prop :=
  ∀ (s : State) (cl : ClusterId),
    s.dev.power.input = true → clusterPresent cl = true →
    let d := s.dev
    let on := d.wcOn cl
    let e := Reg.wcEpoch cl
    (on = true → d.wcState cl = 0 → exec (.close cl) s = .next (s.onDev fun d => d.setWcState cl 1)) ∧
    (on = false ∨ d.wcState cl ≠ 0 → ∃ t, exec (.close cl) s = .next t ∧ t.mem = s.mem ∧ t.dev.wcState cl = d.wcState cl ∧
      (d.untraced → t.dev.newest = some 0x4007)) ∧
    (d.wcState cl ≠ 1 ∨ (d.unitsOf cl).samples ≠ [] → exec (.closeBankSwap cl) s = .next s) ∧
    (d.wcState cl = 1 → (d.unitsOf cl).samples = [] → ∃ t, exec (.closeBankSwap cl) s = .next t ∧ t.mem = s.mem ∧
      t.dev.wcState cl = 2 ∧ t.dev.rf (Reg.wcStep cl) 31 0 = (d.rf (Reg.wcStep cl) 31 0 + 1) % 2 ^ 32 ∧
      t.dev.openBank cl = 1 - d.openBank cl) ∧
    (on = true → d.wcState cl = 2 → d.rf e 47 32 = (d.curEpoch cl + 1).toNat →
      exec (.commit cl) s = .next (s.onDev fun d => d.setWcState cl 3)) ∧
    (on = false ∨ d.wcState cl ≠ 2 ∨ d.rf e 47 32 ≠ (d.curEpoch cl + 1).toNat →
      ∃ t, exec (.commit cl) s = .next t ∧ t.mem = s.mem ∧ t.dev.wcState cl = d.wcState cl) ∧
    (d.wcState cl ≠ 3 ∨ s.commitHeld cl = true → exec (.generationSwap cl) s = .next s) ∧
    (d.wcState cl = 3 → s.commitHeld cl = false → ∃ t, exec (.generationSwap cl) s = .next t ∧
      ((d.unitsOf cl).mergedLayers = [] → t.mem = s.mem) ∧
      t.dev.wcState cl = 0 ∧ t.dev.nextReady cl = false ∧ t.dev.rf e 15 0 = d.rf e 47 32 ∧ t.dev.rf e 31 16 = d.rf e 15 0 ∧
      (∀ n < 256, ∀ w < 2, d.rbit (Reg.layerDesc cl n 0) 31 = false →
        t.dev.reg (Reg.layerPrior cl n w) = d.reg (Reg.layerDesc cl n w) ∧
        t.dev.reg (Reg.layerDesc cl n w) = d.reg (Reg.layerNext cl n w)) ∧
      (∀ n < 256, ∀ w < 2, d.rbit (Reg.layerDesc cl n 0) 31 = true →
        t.dev.reg (Reg.layerDesc cl n w) = d.reg (Reg.layerDesc cl n w)) ∧
      (∀ i < 256, d.pinned cl i = false → t.dev.reg (Reg.tscalePrior cl i) = d.reg (Reg.tscaleEnt cl i) ∧
        (d.rbit (Reg.tscaleNext cl i) 37 = true → t.dev.reg (Reg.tscaleEnt cl i) = d.reg (Reg.tscaleNext cl i)))) ∧
    (d.nextReady cl = true → exec (.nextCopyDone cl) s = .next s) ∧
    (d.nextReady cl = false → ∃ t, exec (.nextCopyDone cl) s = .next t ∧ t.mem = s.mem ∧ t.dev.nextReady cl = true ∧
      ∀ n < 256, t.dev.reg (Reg.tscaleNext cl n) = d.reg (Reg.tscaleEnt cl n) ∧
        ∀ w < 2, t.dev.reg (Reg.layerNext cl n w) = d.reg (Reg.layerDesc cl n w)) ∧
    (d.wcState cl ≠ 0 → exec (.wcAbandon cl) s = .next s) ∧
    (d.wcState cl = 0 → ∃ t, exec (.wcAbandon cl) s = .next t ∧ t.mem = s.mem ∧ t.dev.wcState cl = 0 ∧
      (∀ j < 0x800, tget (t.dev.cluster cl).wc 0 ((0x8000 + 0x4000 * d.openBank cl) / 8 + j) = 0) ∧
      ∀ i < 256, t.dev.rf (Reg.tscaleMax cl i) 63 32 = 0) ∧
    (∀ x rest ws, (d.unitsOf cl).samples = x :: rest → ∃ t, exec (.agreementSample cl ws) s = .next t ∧ t.mem = s.mem ∧
      (t.dev.unitsOf cl).samples = rest ∧
      let card := fun (d : Device) (off size : Nat) => (d.cluster cl).scGet (s.dev.openBank cl) x.layer off size
      (∀ e, x.err ws = some e → card t.dev 20 2 = Nat.min 65535 (card d 20 2 + 1) ∧
        card t.dev 24 4 = Nat.min (2 ^ 32 - 1) (card d 24 4 + e)) ∧
      (x.err ws = none → bitAt (card t.dev 16 1) 7 = true ∧ card t.dev 20 2 = card d 20 2)) ∧
    (∀ st seat, st < 4 →
      (s.mergeOverdue seat = false → exec (.mergeTimeout st seat) s = .next s) ∧
      (s.mergeOverdue seat = true → ∃ t, exec (.mergeTimeout st seat) s = .next t ∧ t.mem = s.mem ∧ t.dev.peer.mergeHeld = true ∧
        (d.untraced → d.rosterEpoch = 0 ∨ 9 ≤ d.leaderNow → t.dev.newest = some 0x4006))) ∧
    (∀ seat k n v, k < 128 → n < 256 → tsorted (d.cluster (clusterOf k)).wc = true → d.wcState (clusterOf k) = 2 →
      d.nextReady (clusterOf k) = true → 256 * d.rf (Reg.layerNext (clusterOf k) n 1) 43 0 = d.mapBase (clusterOf k) 0 n →
      let word := d.mergedWord (clusterOf k) n v.toNat
      ∃ t, exec (.merge seat k [(n, v)] []) s = .next t ∧ t.mem = s.mem ∧
        tget (t.dev.cluster (clusterOf k)).wc 0 n = BitVec.ofNat 64 word ∧
        t.dev.rf (Reg.layerNext (clusterOf k) n 0) 22 16 = (min (max ((d.rf (Reg.layerDesc (clusterOf k) n 0) 22 16 : Nat)
          + sext (bitsOf word 23 16) 8) 0) 64).toNat)

/-! ## Memory controllers -/

/-- MEM_READ, MEM_WRITE, SET_BIT_WRITE, BLOCK_ARRIVAL and PATROL_READ (R365 to R371): a request inside one granule of memory in service
is performed and answered to its source with its OP_TAG; another is answered poisoned and memory stays as it is. A block is
delivered as it stands, corrected where one symbol is in error, poisoned where three fetches in a row have two to five. -/
def Obligations.MemoryRequestsAreServedAndAnswered : Prop :=
  ∀ (s : State) (src : Header) (ctl : W64), s.dev.power.input = true →
    let a := ctl.toNat % 2 ^ 52
    let op := ctl.toNat / 2 ^ 52 % 4
    let inside := fun (n : Nat) => a / 4096 = (a + n - 1) / 4096 ∧ s.dev.copyingGranule a = false
    let answered := fun (t : State) (poison : Bool) (bytes : List Byte) => ∃ h : Header,
      t.dev.out = s.dev.out ++ [.packet ⟨h, bytes⟩] ∧ h.poison = poison ∧ h.opTag = src.opTag ∧
        h.dstDie = src.srcDie ∧ h.dstCluster = src.srcCluster ∧ h.dstCore = src.srcCore ∧ h.dstUnit = src.srcUnit
    let written := fun (t : State) (bs : List Byte) => t.mem = (s.store a bs src.poison).mem ∧
      (s.mem.wf = true → (∀ j < bs.length, t.mem.get (a + j) = bs.getD j 0) ∧
        ∀ b, b < a ∨ a + bs.length ≤ b → t.mem.get b = s.mem.get b)
    (∀ n, op = 0 → 0 < n → n ≤ 1024 → inside n →
      (s.servable a = true → ∃ t, exec (.memRead src ctl n) s = .next t ∧ t.mem = s.mem ∧
        answered t (s.poisoned a n) ((List.range n).map fun j => s.byte (a + j))) ∧
      (s.servable a = false → ∃ t, exec (.memRead src ctl n) s = .next t ∧ t.mem = s.mem ∧ answered t true [])) ∧
    (∀ n, op = 3 ∨ a / 4096 ≠ (a + n - 1) / 4096 → ∃ t, exec (.memRead src ctl n) s = .next t ∧ t.mem = s.mem ∧
      (s.dev.untraced → t.dev.newest = some 0x700A) ∧ ∃ h : Header, .packet ⟨h, []⟩ ∈ t.dev.out ∧ h.poison = true ∧
        h.opTag = src.opTag) ∧
    (∀ bs : List Byte, 0 < bs.length → bs.length ≤ 1016 → inside bs.length →
      (op = 1 → s.servable a = true → ∃ t, exec (.memWrite src ctl bs) s = .next t ∧ written t bs ∧ answered t src.poison []) ∧
      (op = 1 → s.servable a = false → ∃ t, exec (.memWrite src ctl bs) s = .next t ∧ t.mem = s.mem ∧ answered t true []) ∧
      (op = 2 → s.servable a = true → ∃ t, exec (.setBitWrite src ctl bs) s = .next t ∧ answered t src.poison [] ∧
        (src.poison = true ∨ s.poisoned a bs.length = false → written t (bs.mapIdx fun j x => x ||| s.byte (a + j))) ∧
        (s.mem.wf = true → (∀ j < bs.length, t.mem.get (a + j) = bs.getD j 0 ||| s.byte (a + j)) ∧
          ∀ b, b < a ∨ a + bs.length ≤ b → t.mem.get b = s.mem.get b) ∧
        ∀ j < bs.length, src.poison = true ∨ s.poisoned (a + j) 1 = true → t.poisoned (a + j) 1 = true)) ∧
    (∀ (b : Nat) (fs : List FetchErr),
      let blk := b / 256 * 256
      let bytes := (List.range 256).map fun j => s.byte (blk + j)
      let w := s.dev.whereIs blk
      let wrong := fun (k : Nat) => errWeight (fs.getD k ⟨[]⟩)
      s.servable blk = true → lostOnce s.dev.memsys.retired blk = false →
      (wrong 0 = 0 → ∃ t, exec (.blockArrival b fs) s = .next t ∧ t.mem = s.mem ∧
        t.dev.out = s.dev.out ++ [.block blk bytes (s.poisoned blk 256)]) ∧
      (wrong 0 = 1 → ∃ t, exec (.blockArrival b fs) s = .next t ∧ t.mem = (s.store blk bytes (s.poisoned blk 256)).mem ∧
        t.dev.out.getLast? = some (.block blk bytes (s.poisoned blk 256)) ∧ (s.dev.untraced → t.dev.newest = some 0x7001) ∧
        t.dev.rf (Reg.errCnt w.1 w.2.1) 15 0 = Nat.min 65535 (s.dev.rf (Reg.errCnt w.1 w.2.1) 15 0 + 1)) ∧
      ((∀ k < 3, 2 ≤ wrong k ∧ wrong k ≤ 5) → ∃ t out, exec (.blockArrival b fs) s = .next t ∧
        t.dev.out.getLast? = some (.block blk out true) ∧ (s.dev.untraced → t.dev.newest = some 0x7003))) ∧
    (∀ die j loc k fs, chanPresent die j = true → loc ≤ 7864319 → k < 16 →
      let blk := granuleAt s.dev.memsys.retired (chanNo die j) loc + 256 * k
      let on := s.dev.rf (Reg.retireCtl die j) 23 16 ≠ 0
      (¬ on → exec (.patrolRead die j loc k fs) s = .next s) ∧
      (on → chanNo die j ∉ s.dev.memsys.retired → s.servable blk = true → lostOnce s.dev.memsys.retired blk = false →
        (errWeight (fs.getD 0 ⟨[]⟩) = 0 → ∃ t, exec (.patrolRead die j loc k fs) s = .next t ∧ t.mem = s.mem ∧
          t.dev.out = s.dev.out) ∧
        (errWeight (fs.getD 0 ⟨[]⟩) = 1 → ∃ t, exec (.patrolRead die j loc k fs) s = .next t ∧
          (s.dev.untraced → t.dev.newest = some 0x7001))))

/-- PAGE_REQ, PAGE_RETIRE, PAGE_COPY_END, CHANNEL_RETIRE, CHANNEL_TIMEOUT, CHANNEL_REMAPPED, XLAT_INV, XLAT_INV_DONE and ERR_CNT_READ
(R364, R371 to R374, R377, R381): a granule due is copied to the lowest free spare slot; a retired channel loses what it held and
is counted in MEM.CAP; the error counters clear when they are read. -/
def Obligations.MemoryIsSparedAndRetired : Prop :=
  ∀ (s : State) (die j : Nat) (v : W64),
    s.dev.power.input = true → chanPresent die j = true →
    let d := s.dev
    let c := chanNo die j
    let x := d.channel c
    let loc := v.toNat % 2 ^ 23
    let lost := fun (i : Instr) => c ∉ d.memsys.retired → ∃ t, exec i s = .next t ∧
      t.dev.memsys.retired = d.memsys.retired ++ [c] ∧ t.dev.channel c = Channel.empty ∧
      t.dev.rf Reg.memCap 4 0 = (d.memsys.retired.length + 1) % 32 ∧
      (∀ a ≤ 0xB3F_FFFF_FFFF, (homeOf d.memsys.retired a).1 = c → t.mem.get a = memDefault) ∧
      (d.memsys.retired.length < 16 → t.dev.memsys.remapping = d.memsys.remapping ++ [d.memsys.retired.length + 1] ∧
        (d.untraced → t.dev.newest = some 0x7007))
    (d.rbit (Reg.pageReq die j) 63 = true ∨ 7864319 < loc → exec (.pageReq die j v) s = .next s) ∧
    (d.rbit (Reg.pageReq die j) 63 = false → loc ≤ 7864319 → ∃ t, exec (.pageReq die j v) s = .next t ∧ t.mem = s.mem ∧
      t.dev.rbit (Reg.pageReq die j) 63 = true ∧ (t.dev.channel c).due = x.due ++ [(loc, 2)]) ∧
    (∀ l cause rest, x.copying = none → x.due = (l, cause) :: rest →
      (x.spares < 19648 → exec (.pageRetire die j) s = .next (s.onDev fun d =>
        (d.setChannel c { x with due := rest, copying := some (l, cause) }).setRf (Reg.chanStat die j) 2 2 1)) ∧
      (19648 ≤ x.spares → ∃ t, exec (.pageRetire die j) s = .next t ∧ t.mem = s.mem ∧
        t.dev.channel c = { x with due := rest, stuck := sinsert x.stuck l } ∧
        (d.untraced → t.dev.newest = some 0x7006))) ∧
    (∀ fs, x.copying = none → exec (.pageCopyEnd die ⟨j, fs⟩) s = .next s) ∧
    (∀ fs l cause, x.copying = some (l, cause) → ∃ t, exec (.pageCopyEnd die ⟨j, fs⟩) s = .next t ∧
      (fs = [] → (∀ k < 16, lostOnce d.memsys.retired (granuleAt d.memsys.retired c l + 256 * k) = false) → t.mem = s.mem) ∧
      (t.dev.channel c).copying = none ∧ (t.dev.channel c).slots = tput x.slots l (7864320 + x.spares) ∧
      (t.dev.channel c).spares = x.spares + 1 ∧ t.dev.rf (Reg.chanStat die j) 22 8 = (x.spares + 1) % 2 ^ 15 ∧
      (d.untraced → x.spares < 18623 → t.dev.newest = some 0x7004)) ∧
    (v.toNat % 2 = 0 → exec (.channelRetire die j v) s = .next s) ∧
    (v.toNat % 2 = 1 → lost (.channelRetire die j v)) ∧
    lost (.channelTimeout die j) ∧
    (∀ n, d.memsys.remapping.find? (fun n => decide (d.memsys.retired.getD (n - 1) 384 = c)) = some n → ∃ t,
      exec (.channelRemapped die j) s = .next t ∧ t.mem = s.mem ∧
      t.dev.memsys.remapping = d.memsys.remapping.filter (fun k => decide (k ≠ n)) ∧
      (d.untraced → t.dev.newest = some 0x7008)) ∧
    (d.rbit Reg.xlatInv 63 = true → exec (.xlatInv v) s = .next s) ∧
    (d.rbit Reg.xlatInv 63 = false → exec (.xlatInv v) s = .next (s.onDev fun d =>
      ({ d with memsys := { d.memsys with xlatFn := v.toNat % 64 } } : Device).setRf Reg.xlatInv 63 63 1)) ∧
    (d.xlatInUse d.memsys.xlatFn = true → exec .xlatInvDone s = .next s) ∧
    (d.xlatInUse d.memsys.xlatFn = false → exec .xlatInvDone s = .next (s.onDev fun d => d.setRf Reg.xlatInv 63 63 0)) ∧
    ∃ t, exec (.errCntRead die j) s = .next t ∧ t.mem = s.mem ∧
      t.dev.out = d.out ++ [.reg (Reg.errCnt die j) (d.reg (Reg.errCnt die j))] ∧ t.dev.rf (Reg.errCnt die j) 15 0 = 0 ∧
      t.dev.rf (Reg.errCnt die j) 31 16 = 0 ∧ t.dev.rf (Reg.errCnt die j) 47 32 = 0

/-! ## The wire engine -/

/-- PACK, WIRE_ADD, UNPACK, WIRE_RING_WRITE and WIRE_STAT_READ (R177, R403, R406, R408, R409): the engine serves the command at HEAD
while the ring is enabled and not empty, a refused command writes nothing, and HEAD moves on either way. WIRE_ADD stores the sums
of its inputs, in whatever order they come. -/
def Obligations.WireCommandsRunInRingOrder : Prop :=
  ∀ (s : State) (cl : ClusterId), s.dev.power.input = true → clusterPresent cl = true →
    let d := s.dev
    let i := d.wireHeadAt cl
    let entry := d.wireEntry cl i
    let w : WireCmd := ⟨(List.range 64).map fun j => s.byte (entry + j)⟩
    let waits := d.wireTurn cl = true ∧ s.poisoned entry 64 = false ∧ d.wireDepth cl ≤ 128
    let moved := fun (t : State) => t.dev.wireHeadAt cl = (i + 1) % d.wireDepth cl
    (∀ op c, (op, c) ∈ [(0, Instr.pack cl), (1, .wireAdd cl), (2, .unpack cl)] →
      (d.rbit (Reg.wireRing cl) 0 = false ∨ i = d.rf (Reg.wireTail cl) 6 0 → exec c s = .next s) ∧
      ((d.unitsOf cl).wireAhead ≠ 0 → d.updateReady cl = true → exec c s = .next s) ∧
      (waits → w.op = op → d.wireCause cl w = none → ∃ t, exec c s = .next t ∧ moved t) ∧
      (∀ cause, waits → w.op = op ∨ (op = 0 ∧ 2 < w.op) → d.wireCause cl w = some cause → ∃ t, exec c s = .next t ∧
        t.mem = s.mem ∧ moved t ∧ (d.untraced → t.dev.newest = some 0x8021) ∧
        t.dev.rf (Reg.wireStat cl) 31 16 = Nat.min 65535 (d.rf (Reg.wireStat cl) 31 16 + 1))) ∧
    (waits → w.op = 1 → d.wireCause cl w = none → w.count = 32 → w.flag 1 = false →
      (∀ k < w.k, s.presentRange (w.src + k * w.stride) 256 = true ∧ s.poisoned (w.src + k * w.stride) 256 = false) →
      s.presentRange w.dst 256 = true → ∃ t, exec (.wireAdd cl) s = .next t ∧
        t.mem = (s.store w.dst ((List.range 32).map fun j => leBytes 8 (wireSum ((List.range w.k).map fun k =>
          s.loadN (w.src + k * w.stride + 8 * j) 8))).flatten false).mem) ∧
    (∀ xs ys : List Nat, xs.Perm ys → wireSum xs = wireSum ys) ∧
    (∀ v : W64, (i ≠ d.rf (Reg.wireTail cl) 6 0 → exec (.wireRingWrite cl v) s = .next s) ∧
      (i = d.rf (Reg.wireTail cl) 6 0 →
        exec (.wireRingWrite cl v) s = .next (s.onDev fun d => d.writeFields (Reg.wireRing cl) v))) ∧
    ∃ t, exec (.wireStatRead cl) s = .next t ∧ t.mem = s.mem ∧
      t.dev.out = d.out ++ [.reg (Reg.wireStat cl) (BitVec.ofNat 64 (d.wireStatValue cl))] ∧ t.dev.rf (Reg.wireStat cl) 31 16 = 0

/-! ## Chutes and routers -/

/-- CHUTE_WRITE, PACKET_TAKE_START, CHUTE_READ, FLUSH and CHUTE_STAT_READ (R56 to R59, R64, R66, R72 to R74, R80): words leave a chute in
the order they were written, as they were written, and go on into the next chute of their way where there is one; a chute whose
watermark holds, or that is full, or into which another chute's item is being passed on, takes nothing from its producer; a packet is
taken once its threshold is there; the flits of a peer port's chutes are read by the port, and a read upsets the head word only;
an upset bit delivers its word with POISON; a flush empties the chute and leaves a stub for a consumer mid-item. -/
def Obligations.ChutesDeliverWordsInOrder : Prop :=
  ∀ (s : State) (ch : ChuteId), s.dev.power.input = true → chutePresent ch = true →
    let d := s.dev
    let c := d.chute ch
    let len := fun (h : Nat) => h / 2 ^ 84 % 2048
    (∀ n : NarrowWord, d.islandStopped (writerOf ch) = false → d.readerWrapped ch = false →
      (c.discarding = false → d.holdOut ch = true → carriesFlits ch = false → exec (.chuteWrite ch n) s = .next s) ∧
      (c.discarding = false → chuteBegins c.writing n = true → depthOf ch ≤ c.words.length →
        exec (.chuteWrite ch n) s = .next s) ∧
      (c.midItem = true → c.feeder ≠ none → exec (.chuteWrite ch n) s = .next s) ∧
      (c.midItem = false ∨ c.feeder = none → c.discarding = false → d.holdOut ch = false → c.writing = none → c.words.length < depthOf ch →
        n.last = decide (len n.data.toNat = 0) →
        ∃ t w, exec (.chuteWrite ch n) s = .next t ∧ t.mem = s.mem ∧ (t.dev.chute ch).words = c.words ++ [w] ∧ w.hdr = true ∧
          w.data = n.data.setWidth 512 ∧ w.mask = 0xFFFF ∧ w.start = !c.midItem ∧
          ((t.dev.chute ch).writing = if n.last then none else some ⟨n.data, 0⟩)) ∧
      (c.midItem = false ∨ c.feeder = none → c.discarding = true → ∃ t, exec (.chuteWrite ch n) s = .next t ∧ t.mem = s.mem ∧ (t.dev.chute ch).words = c.words ∧
        t.dev.rf (Reg.chuteStat ch) 47 32 = Nat.min 65535 (d.rf (Reg.chuteStat ch) 47 32 + 1))) ∧
    (∀ w rest, c.words = w :: rest → c.stub = none → c.taking = false → w.hdr = true → d.islandStopped (readerOf ch) = false →
      let n := hdrWords w.data.toNat
      (headWords c.words < d.threshold ch n → headWhole c.words = false → exec (.packetTakeStart ch) s = .next s) ∧
      (d.threshold ch n ≤ headWords c.words → exec (.packetTakeStart ch) s =
        .next (s.onDev fun d => d.setChute ch { c with taking := true, taken := [], badWords := 0, badPacket := false }))) ∧
    (∀ w rest u, c.words = w :: rest → carriesFlits ch = true → ∃ t, exec (.chuteRead ch u) s = .next t ∧ t.mem = s.mem ∧
      (t.dev.chute ch).words = { w with data := w.data ^^^ u } :: rest ∧ t.dev.out = d.out) ∧
    (∀ w rest, carriesFlits ch = false → c.words = w :: rest → c.stub = none → w.par = parityOf w.data.toNat → w.bad = false → w.whole = true →
      d.mayRead ch = true →
      (c.taking = false → ∀ u, exec (.chuteRead ch u) s = .next s) ∧
      (c.taking = true → c.badPacket = false → (w.hdr = true → chuteConsumes ch = true → hdrInvalid w.data.toNat = false) →
        chuteNext ch c.nextHdr = none →
        ∃ t, exec (.chuteRead ch 0) s = .next t ∧ t.mem = s.mem ∧ (t.dev.chute ch).words = rest ∧ (t.dev.chute ch).taking = !w.eop ∧
          t.dev.out.getLast? = some (.chuteWord ch w.data w.mask false) ∧
          (w.eop = false → t.dev.out = d.out ++ [.chuteWord ch w.data w.mask false])) ∧
      (c.taking = true → w.hdr = false → w.eop = false → ∀ dst, chuteNext ch c.nextHdr = some dst → chuteKey dst ≠ chuteKey ch →
        (d.chute dst).discarding = false → d.readerWrapped dst = false →
        ∃ t, exec (.chuteRead ch 0) s = .next t ∧ t.mem = s.mem ∧ (t.dev.chute ch).words = rest ∧
          (t.dev.chute dst).words = (d.chute dst).words ++ [w]) ∧
      (c.taking = true → w.hdr = false → w.mask = 0xFFFF_FFFF_FFFF_FFFF → chuteNext ch c.nextHdr = none →
        d.surv.parity = [] → ∀ b < 512, ∃ t u,
        u = (1 : BitVec 512) <<< b ∧ exec (.chuteRead ch u) s = .next t ∧ (t.dev.chute ch).words = rest ∧
          t.dev.out.getLast? = some (.chuteWord ch (w.data ^^^ u) w.mask true))) ∧
    (∀ h u, carriesFlits ch = false → c.stub = some h → d.mayRead ch = true → chuteNext ch c.nextHdr = none →
      ∃ t, exec (.chuteRead ch u) s = .next t ∧ t.mem = s.mem ∧ (t.dev.chute ch).stub = none ∧
        t.dev.out.getLast? = some (.chuteWord ch (h.setWidth 512) 0xFFFF false)) ∧
    (∃ t, exec (.flush ch) s = .next t ∧ t.mem = s.mem ∧ (t.dev.chute ch).words = [] ∧
      (t.dev.chute ch).stub.isSome = c.conMid ∧ (t.dev.chute ch).discarding = (c.discarding || c.midItem) ∧
      (d.untraced → t.dev.newest = some 0x1002)) ∧
    ∃ t v, exec (.chuteStatRead ch) s = .next t ∧ t.mem = s.mem ∧ t.dev.out = d.out ++ [.reg (Reg.chuteStat ch) v] ∧
      v.toNat % 512 = (c.words.length + (if d.holdOut ch then 128 else 0) + (if c.discarding then 256 else 0)) % 512 ∧
      t.dev.rf (Reg.chuteStat ch) 31 16 = 0 ∧ t.dev.rf (Reg.chuteStat ch) 47 32 = 0 ∧ t.dev.rf (Reg.chuteStat ch) 55 48 = 0

/-- ROUTE_PACKET (R49 to R52, R62, R63): an output with no waiting packet does nothing; a packet of one word whose header is sound
goes on, unchanged, to the next chute on its way; one whose header names no destination is discarded with its record. -/
def Obligations.RoutersForwardPacketsUnchanged : Prop :=
  ∀ (s : State) (r : ClusterId) (port net : Nat), s.dev.power.input = true → clusterPresent r = true → port < 5 → net < 4 →
    (s.dev.router r).drop = [] → s.dev.islandStopped (.cluster r.die r.cluster) = false →
    let d := s.dev
    (d.arbitrate r port net = none → exec (.routePacket r port net 0) s = .next s) ∧
    ∀ i w, d.arbitrate r port net = some i → i < 5 →
      let src := routerIn r i net
      let c := d.chute src
      let h := headerOf (w.data.toNat % 2 ^ 128)
      let fin := d.routeEnd r.die net h 0
      let dst := if portTo r.cluster fin.1 = 0 then fin.2
        else let nb := neighbour r.cluster (portTo r.cluster fin.1); routerIn ⟨r.die, nb.1⟩ nb.2 net
      let t := d.chute dst
      c.words = [w] → c.taking = false → c.stub = none → w.hdr = true → w.fin = true → w.eop = true → w.bad = false →
      w.par = parityOf w.data.toNat → hdrLen w.data.toNat = 0 →
      (d.destKnown net h = true → chuteKey dst ≠ chuteKey src → d.holdOut dst = false → d.readerWrapped dst = false →
        t.words.length < depthOf dst → t.discarding = false → t.midItem = false → t.writing = none →
        ∃ t, exec (.routePacket r port net 0) s = .next t ∧ t.mem = s.mem ∧ (t.dev.chute src).words = [] ∧
          (t.dev.chute dst).words = (d.chute dst).words ++ [w]) ∧
      (d.destKnown net h = false → ∃ t, exec (.routePacket r port net 0) s = .next t ∧ t.mem = s.mem ∧
        (t.dev.chute src).words = [] ∧ (d.untraced → t.dev.newest = some 0x1005) ∧
        (net = 0 → ∃ a : Header, t.dev.out.getLast? = some (.packet ⟨a, []⟩) ∧ a.poison = true ∧ a.opTag = h.opTag ∧
          a.dstDie = h.srcDie))

/-! ## Registers and the host link -/

/-- REGISTER_WRITE, BAR0_ACCESS and FN_STAT_READ (R9, R12, R427, R452, R633): each field of a written register takes what its type
says; a reserved encoding of a WO field leaves the whole register; a register the writer may not write stays; an access of another
size or alignment reads zero; a poisoned write changes no register. -/
def Obligations.RegistersTakeWritesFieldByField : Prop :=
  (∀ (fs : List RegField) (old v : Nat), old < 2 ^ 64 → (∀ g ∈ fs, g.lo ≤ g.hi ∧ g.hi < 64) →
    fs.Pairwise (fun a b => a.hi < b.lo ∨ b.hi < a.lo) →
    ((∃ g ∈ fs, g.ty = .wo ∧ fieldLegal g (bitsOf v g.hi g.lo) = false) → fieldsWrite fs old v = old) ∧
    ((∀ g ∈ fs, g.ty = .wo → fieldLegal g (bitsOf v g.hi g.lo) = true) → ∀ f ∈ fs,
      let was := bitsOf old f.hi f.lo
      let new := bitsOf v f.hi f.lo
      bitsOf (fieldsWrite fs old v) f.hi f.lo =
        if f.ty = .rw then (if fieldLegal f new then new else was)
        else if f.ty = .w1c then was &&& (new ^^^ (2 ^ (f.hi + 1 - f.lo) - 1))
        else if f.ty = .w1s then was ||| new else was)) ∧
  ∀ (s : State) (o off : Nat) (fs : List RegField) (v : W64), s.dev.power.input = true →
    let d := s.dev
    blockAt o = some (.hub, off) → o % 8 = 0 → chuteRegAt .hub off = none → fieldsAt o = some fs →
    (∀ g ∈ fs, g.lo ≤ g.hi ∧ g.hi < 64) →
    o ∉ [Reg.trainMask, Reg.survReg, Reg.ckptStore, Reg.coolReq, Reg.time, Reg.timeStat] →
    (∀ w : Writer, (match w with
        | .host f => d.barOpen f
        | .firmware c => corePresent c && isControl c) = true →
      (d.mayWriteNow w o = false → exec (.registerWrite w o v) s = .next s) ∧
      (d.mayWriteNow w o = true → (∃ g ∈ fs, g.ty ≠ .ro ∧ g.ty ≠ .rc) →
        (∀ g ∈ fs, g.ty = .wo → fieldLegal g (bitsOf v.toNat g.hi g.lo) = true) →
        exec (.registerWrite w o v) s = .next (s.onDev fun d => d.writeFields o v))) ∧
    (∀ f a n p, d.barOpen f = false → exec (.bar0Access f true a n v p) s = .next s ∧
      exec (.bar0Access f false a n v p) s = .next (if d.linkUp then s.onDev fun d => d.send (.unsupported f) else s)) ∧
    (∀ f a n, d.barOpen f = true → n ≠ 4 ∧ n ≠ 8 ∨ a % n ≠ 0 → ∃ t, exec (.bar0Access f false a n v false) s = .next t ∧
      t.mem = s.mem ∧ t.dev.out = d.out ++ [.read f (List.replicate n 0) false]) ∧
    (d.barOpen 0 = true → barPlace 0 o = .reg o → ∃ t, exec (.bar0Access 0 false o 8 v false) s = .next t ∧ t.mem = s.mem ∧
      t.dev.out = d.out ++ [.read 0 (leBytes 8 (d.regN o)) false]) ∧
    (∀ f a n, d.barOpen f = true → ∃ t, exec (.bar0Access f true a n v true) s = .next t ∧ t.mem = s.mem ∧
      t.dev.reg o = d.reg o ∧ (d.untraced → t.dev.newest = some 0x9006)) ∧
    ∀ f < 64, ∃ t, exec (.fnStatRead f) s = .next t ∧ t.mem = s.mem ∧
      t.dev.out = d.out ++ [.reg (Reg.fnStat f) (d.reg (Reg.fnStat f))] ∧ t.dev.rf (Reg.fnStat f) 31 16 = 0 ∧
      t.dev.rf (Reg.fnStat f) 47 32 = 0

/-- CONFIG_REQUEST, APERTURE_READ, APERTURE_WRITE, FUNCTION_LEVEL_RESET, LINK_RETRAIN, INTERRUPT_MODERATION, RING_STALL, SPDM_REQUEST
and ATS_INVALIDATE_REQUEST (R417, R418, R421, R423, R428, R448, R451, R453, R552): requests before the module is ready are answered with
Request Retry Status; the aperture reaches the memory its base selects, or reads all ones with a record; a function-level reset
abandons its function's entries, and empties the function once no core works for it. The layout of the SPDM answer and that no host translation is kept are the model's
choice (logs 21 and 22). -/
def Obligations.HostLinkRequestsAreAnswered : Prop :=
  ∀ (s : State) (f : Nat), s.dev.power.input = true →
    let d := s.dev
    let ready := d.host.ready = true ∧ d.host.linkReset = false ∧ d.host.busyUntil ≤ d.clock
    (∀ off n v, ready → off / 4 * 4 ≠ 0x58 ∨ v.toNat = 0 → f ≠ 0 ∨ off / 4 * 4 ∉ [0x378, 0x37C, 0x380, 0x384] →
      (d.fnExists f = false → ∀ wr, ∃ t, exec (.configRequest f wr off n v) s = .next t ∧ t.mem = s.mem ∧
        t.dev.out = d.out ++ [.config f (some 0xFFFF_FFFF)]) ∧
      (d.fnExists f = true → (∃ t, exec (.configRequest f false off n v) s = .next t ∧ t.mem = s.mem ∧
          t.dev.out = d.out ++ [.config f (some (BitVec.ofNat 32 (bitsOf (d.configRead f (off / 4 * 4)).toNat
            (8 * (off % 4) + 8 * n - 1) (8 * (off % 4)))))]) ∧
        (off = 0x04 → n = 4 → ∃ t, exec (.configRequest f true off n v) s = .next t ∧ t.mem = s.mem ∧
          t.dev.configRead f 4 = (0x0010_0000 ||| (v &&& 0x547))))) ∧
    (∀ wr off n v, ¬ ready → ∃ t, exec (.configRequest f wr off n v) s = .next t ∧ t.mem = s.mem ∧
      t.dev.out = d.out ++ [.config f none]) ∧
    (∀ off n, d.barOpen f = false → exec (.apertureRead f off n) s =
      .next (if d.linkUp then s.onDev fun d => d.send (.unsupported f) else s)) ∧
    (∀ off bs p, d.barOpen f = false → ∃ t, exec (.apertureWrite f off bs p) s = .next t ∧ t.mem = s.mem) ∧
    (d.barOpen 0 = true → ∀ off n, 0 < n →
      let a := d.rf (Reg.apBase 0) 51 36 * 2 ^ 36 + off
      (s.presentRange a n = true → ∃ t, exec (.apertureRead 0 off n) s = .next t ∧ t.mem = s.mem ∧
        t.dev.out = d.out ++ [.read 0 ((List.range n).map fun j => s.byte (a + j)) (s.poisoned a n)]) ∧
      (s.presentRange a n = false → ∃ t, exec (.apertureRead 0 off n) s = .next t ∧ t.mem = s.mem ∧
        t.dev.out.getLast? = some (.read 0 (List.replicate n 0xFF) false) ∧
        (a / 4096 ∉ (d.fn 0).apErrors → d.untraced → t.dev.newest = some 0x9008)) ∧
      (∀ bs : List Byte, bs.length = n → s.presentRange a n = true → d.rbit Reg.memCap 7 = false →
        ∃ t, exec (.apertureWrite 0 off bs false) s = .next t ∧ t.mem = (s.store a bs false).mem)) ∧
    (d.fnExists f = true → f ≠ 0 → f < 64 → ∃ t, exec (.functionLevelReset f) s = .next t ∧
      (∀ e ∈ t.dev.entries, e.fn ≠ f) ∧
      (d.fnWorks f = false → t.dev.fn f = Function.empty ∧ t.dev.flrBusy f = false ∧ t.dev.rbit (Reg.xlatRoot f) 0 = false ∧
        (d.untraced → t.dev.newest = some 0x9009)) ∧
      (d.fnWorks f = true → t.dev.flrBusy f = true ∧ t.dev.fn f = d.fn f)) ∧
    (∀ rate width fl, linkLegal rate width fl = false → exec (.linkRetrain rate width fl) s = .next s) ∧
    (∀ rate width fl, linkLegal rate width fl = true → ∃ t, exec (.linkRetrain rate width fl) s = .next t ∧ t.mem = s.mem ∧ t.dev.host.rate = rate ∧
      t.dev.host.width = width ∧ (rate ≠ d.host.rate → d.untraced → t.dev.newest = some 0x900E)) ∧
    (∀ ev i r, d.ring f ev i = some r → r.irq = true → 0 < r.unsig →
      (d.clock < r.unsigSince + r.modTime * 10000 → exec (.interruptModeration f ev i) s = .next s) ∧
      (r.unsigSince + r.modTime * 10000 ≤ d.clock → ∃ t r', exec (.interruptModeration f ev i) s = .next t ∧ t.mem = s.mem ∧
        t.dev.ring f ev i = some r' ∧ r'.unsig = 0)) ∧
    (∀ i r t0, d.ring f false i = some r → r.fullSince = some t0 → r.stalled = false →
      let bound := d.rf (Reg.fnCtl f) 31 0 * 10000
      (d.clock ≤ t0 + bound → exec (.ringStall f i) s = .next s) ∧
      (t0 + bound < d.clock → ∃ t, exec (.ringStall f i) s = .next t ∧ t.mem = s.mem ∧
        (t.dev.ring f false i).map RingState.stalled = some true ∧ (d.untraced → t.dev.newest = some 0x9004))) ∧
    (∀ sec req, leAt req 1 1 = 0xE0 → leAt req 3 1 = 1 → ∃ t, exec (.spdmRequest 0x12 sec req) s = .next t ∧ t.mem = s.mem ∧
      t.dev.out = d.out ++ [.spdm ([0x12, 0x60, 0, 0, 1, 1] ++ sha512 Config.bootRom)]) ∧
    (∀ a n tag, d.fnExists f = true → exec (.atsInvalidateRequest f a n tag) s = .next (s.onDev fun d => d.send (.atsDone f tag)))

/-- LOAD_QUEUE, STOP_QUEUE, STOP_QUEUE_DONE, LOAD_COMPLETION_RING, STOP_COMPLETION_RING, LOAD_EVENT_RING and STOP_EVENT_RING (R430, R432 to
R434, R450, R577): a sound context is loaded with its ring empty, and the slots of an event ring are cleared in host memory; with the first
load of the PF's event ring 0 what the reset left to report is reported; a bad one fails with QUEUE_CONTEXT; a queue stops fetching at once and leaves
when its entries have completed; a ring that a loaded queue names stays. -/
def Obligations.ContextsLoadAndStop : Prop :=
  ∀ (s : State) (f i : Nat), s.dev.power.input = true → f < 64 → s.dev.flrBusy f = false →
    s.dev.rbit (Reg.fnCmd f) 63 = false →
    let d := s.dev
    let x := d.fn f
    let status := fun (t : State) => t.dev.rf (Reg.fnCmd f) 63 62
    let refused := fun (c : Instr) => ∃ t, exec c s = .next t ∧ t.mem = s.mem ∧ status t = 1 ∧
      (d.untraced → t.dev.newest = some 0x9001) ∧ (t.dev.fn f).queues = x.queues
    (∀ bs : List Byte, bs.length = 32 →
      let read := HostRead.data bs []
      (i < 4096 → tfind x.queues i = none → d.queueCause f bs = none → ∃ t, exec (.loadQueue f i read) s = .next t ∧
        t.mem = s.mem ∧ status t = 0 ∧ tfind (t.dev.fn f).queues i = some (queueCtx bs)) ∧
      (i < 4096 → tfind x.queues i ≠ none ∨ d.queueCause f bs ≠ none → refused (.loadQueue f i read)) ∧
      (4096 ≤ i → refused (.loadQueue f i read)) ∧
      (i < 128 → d.ring f false i = none → ringCause bs = none → ∃ t, exec (.loadCompletionRing f i read) s = .next t ∧
        t.mem = s.mem ∧ status t = 0 ∧ t.dev.ring f false i = some (ringCtx bs)) ∧
      (f = 0 → i = 0 → d.rst.report = true → d.ring 0 true 0 = none → ringCause bs = none →
        ∃ t r, exec (.loadEventRing f i read) s = .next t ∧ t.mem = s.mem ∧ status t = 0 ∧ t.dev.rst.report = false ∧
          t.dev.ring 0 true 0 = some r ∧ r.base = (ringCtx bs).base ∧ r.logDepth = (ringCtx bs).logDepth) ∧
      (i < 4 → (f = 0 → i = 0 → d.rst.report = false) → d.ring f true i = none → ringCause bs = none →
        ∃ t, exec (.loadEventRing f i read) s = .next t ∧
        t.mem = s.mem ∧ status t = 0 ∧ t.dev.ring f true i = some (ringCtx bs) ∧
        .hostWrite f (d.carried (ringCtx bs).pasid) (ringCtx bs).base (List.replicate (32 * (ringCtx bs).depth) 0) false ∈ t.dev.out) ∧
      (ringCause bs ≠ none → refused (.loadCompletionRing f i read) ∧ refused (.loadEventRing f i read)) ∧
      ∀ q : List (Nat × Nat), q ≠ [] → ∃ t, exec (.loadQueue f i (.data bs q)) s = .next t ∧ t.mem = s.mem ∧ status t = 1 ∧
        (t.dev.fn f).queues = x.queues) ∧
    (∀ r, r = .unsupported ∨ r = .abort ∨ r = .timeout → refused (.loadQueue f i r)) ∧
    (∀ q, tfind x.queues i = some q → ∃ t, exec (.stopQueue f i) s = .next t ∧ t.mem = s.mem ∧ status t = 2 ∧
      tfind (t.dev.fn f).queues i = some { q with stopping := true }) ∧
    ((∀ p ∈ x.queues, p.2.cring ≠ i) → tsorted x.crings = true → ∃ t, exec (.stopCompletionRing f i) s = .next t ∧ t.mem = s.mem ∧
      status t = 0 ∧ t.dev.ring f false i = none) ∧
    ((∃ p ∈ x.queues, p.2.cring = i) → refused (.stopCompletionRing f i)) ∧
    ((∀ p ∈ x.queues, p.2.ering ≠ i) → tsorted x.erings = true → ∃ t, exec (.stopEventRing f i) s = .next t ∧ t.mem = s.mem ∧
      status t = 0 ∧ t.dev.ring f true i = none) ∧
    ((∃ p ∈ x.queues, p.2.ering = i) → refused (.stopEventRing f i))

/-- STOP_QUEUE_DONE, SQ_DOORBELL, CQ_DOORBELL, EQ_DOORBELL and ENTRY_FETCH (R434, R439, R441, R442, R444, R446): a doorbell makes the
entries up to its index available and notifies the control core, or is counted, reported and dropped; one whose index lies past its
queue is reported, and stops the queue; a read of a doorbell, size 0 in the model (log 208), answers the value last written; a fetched
entry is held with a completion slot reserved, and one with a reserved opcode completes as INVALID. -/
def Obligations.DoorbellsAndFetchesMoveEntries : Prop :=
  ∀ (s : State) (f i : Nat) (v : W64), s.dev.power.input = true → s.dev.barOpen f = true → f < 64 → s.dev.flrBusy f = false →
    s.dev.recovery = false →
    let d := s.dev
    let x := d.fn f
    let idx := v.toNat % 65536
    let bad := fun (c : Instr) => ∃ t, exec c s = .next t ∧ t.mem = s.mem ∧ (d.untraced → t.dev.newest = some 0x9002) ∧
      t.dev.rf (Reg.fnStat f) 31 16 = Nat.min 65535 (d.rf (Reg.fnStat f) 31 16 + 1)
    (∀ q, x.command = some (2, i) → tfind x.queues i = some q → q.stopping = true → d.inFlight f i = false → tsorted x.queues = true →
      ∃ t, exec (.stopQueueDone f) s = .next t ∧ t.mem = s.mem ∧ tfind (t.dev.fn f).queues i = none ∧
        t.dev.rf (Reg.fnCmd f) 63 62 = 0) ∧
    let out := fun (c : Instr) => ∃ t, exec c s = .next t ∧ t.mem = s.mem ∧ (d.untraced → t.dev.newest = some 0x9002) ∧
      t.dev.rf (Reg.fnStat f) 31 16 = d.rf (Reg.fnStat f) 31 16
    let still := fun (c : Instr) (out : List Output) => ∃ t, exec c s = .next t ∧ t.mem = s.mem ∧ t.dev.fn f = x ∧ t.dev.out = d.out ++ out
    let reads := fun (c : Instr) (b : Nat) => still c [.read f (leBytes 8 b) false]
    (∀ p, (4096 ≤ i → reads (.sqDoorbell f i 0 v p) 0) ∧ (128 ≤ i → reads (.cqDoorbell f i 0 v p) 0) ∧
      (4 ≤ i → reads (.eqDoorbell f i 0 v p) 0) ∧
      (∀ q, i < 4096 → tfind x.queues i = some q → reads (.sqDoorbell f i 0 v p) q.doorbell) ∧
      (∀ r, i < 128 → d.ring f false i = some r → reads (.cqDoorbell f i 0 v p) r.doorbell) ∧
      ∀ r, i < 4 → d.ring f true i = some r → reads (.eqDoorbell f i 0 v p) r.doorbell) ∧
    (∀ n p, n ≠ 0 → (4096 ≤ i → still (.sqDoorbell f i n v p) []) ∧ (128 ≤ i → still (.cqDoorbell f i n v p) []) ∧
      (4 ≤ i → still (.eqDoorbell f i n v p) [])) ∧
    (∀ n, n ≠ 0 → n ≠ 8 ∨ 65536 ≤ v.toNat → (i < 4096 → bad (.sqDoorbell f i n v false)) ∧ (i < 128 → bad (.cqDoorbell f i n v false)) ∧
      (i < 4 → bad (.eqDoorbell f i n v false))) ∧
    (v.toNat < 65536 → i < 4096 → tfind x.queues i = none → bad (.sqDoorbell f i 8 v false)) ∧
    (∀ q, v.toNat < 65536 → i < 4096 → tfind x.queues i = some q → idx < 2 ^ q.logDepth →
      ∃ t q', exec (.sqDoorbell f i 8 v false) s = .next t ∧ t.mem = s.mem ∧ tfind (t.dev.fn f).queues i = some q' ∧
        q'.doorbell = idx ∧ q'.head = q.head ∧ (q.head + q'.avail) % 2 ^ q.logDepth = idx ∧ q.avail ≤ q'.avail ∧
        q'.avail < q.avail + 2 ^ q.logDepth ∧ (t.dev.core (ctrlOf ⟨q.die, q.cluster⟩)).csr.ipend.getLsbD 1 = true) ∧
    (∀ q, v.toNat < 65536 → i < 4096 → tfind x.queues i = some q → 2 ^ q.logDepth ≤ idx → out (.sqDoorbell f i 8 v false) ∧
      ∃ t, exec (.sqDoorbell f i 8 v false) s = .next t ∧ tfind (t.dev.fn f).queues i = some { q with stopping := true }) ∧
    (∀ ev r, v.toNat < 65536 → d.ring f ev i = some r → i < (if ev then 4 else 128) →
      let c := if ev then Instr.eqDoorbell f i 8 v false else .cqDoorbell f i 8 v false
      (r.depth ≤ idx → out c) ∧
      (idx < r.depth → ∃ t r', exec c s = .next t ∧ t.mem = s.mem ∧ t.dev.ring f ev i = some r' ∧ r'.head = idx ∧ r'.tail = r.tail ∧
        (idx ≠ r.head → r'.used = (r.tail + r.depth - idx) % r.depth))) ∧
    (∀ cl q bs r, clusterPresent cl = true → d.serves cl = true → d.fetchable cl = [(f, i, q)] → tfind x.queues i = some q →
      d.ring f false q.cring = some r → bs.length = 64 →
      let e : Entry := { fn := f, queue := i, slot := q.head, bytes := bs, phase := .held, started := 0, cores := []
                         limited := false, statuses := [], exceptions := [] }
      let c := Instr.entryFetch cl [.data bs []]
      (entryBad bs = false → ∃ t, exec c s = .next t ∧ t.mem = s.mem ∧ t.dev.entries = d.entries ++ [e] ∧
        tfind (t.dev.fn f).queues i = some q.fetched ∧ q.fetched.head = (q.head + 1) % 2 ^ q.logDepth ∧
        q.fetched.avail = q.avail - 1 ∧
        t.dev.ring f false q.cring = some { r with reserved := r.reserved + 1 }) ∧
      (entryBad bs = true → (∀ y ∈ d.entries, ¬ (y.fn = f ∧ y.queue = i ∧ y.slot = q.head)) →
        ∃ t, exec c s = .next t ∧ t.mem = s.mem ∧ t.dev.entries = d.entries ∧ (d.untraced → t.dev.newest = some 0x9003)))

/-- LAUNCH, LAUNCH_START, LAUNCH_TIME_LIMIT and LAUNCH_COMPLETE (R259, R384, R385, R437, R440, R446): a launch in range waits for its
cores, one out of range is INVALID; it starts each of its cores in logical order with its program counter, s1, s2 and s3, waits
while one is busy, and fails with PASS_ORDER where it comes too late; past its time limit its running cores are ended; and when no
core works for it any more, its completion entry goes to its ring. -/
def Obligations.LaunchesStartEndAndComplete : Prop :=
  ∀ (s : State) (f q slot : Nat) (e : Entry), s.dev.power.input = true → s.dev.entry f q slot = some e → e.op = 1 →
    let d := s.dev
    let n := (d.cluster (d.entryCluster e)).positions.length
    let cs := d.launchCores e
    let gone := fun (t : State) => t.mem = s.mem ∧ t.dev.entry f q slot = none
    (d.mayStart e = true → 0 < e.span.2 → e.span.2 ≤ 32 → e.span.1 + e.span.2 ≤ n →
      exec (.launch f q slot) s = .next (s.onDev fun d => d.setEntry { e with phase := .ready })) ∧
    (d.mayStart e = true → e.span.2 = 0 ∨ 32 < e.span.2 ∨ n < e.span.1 + e.span.2 →
      ∃ t, exec (.launch f q slot) s = .next t ∧ gone t ∧ (d.untraced → t.dev.newest = some 0x9003)) ∧
    (e.phase = .ready → cs.length = e.span.2 → d.launchHeld e = false →
      (cs.Nodup → (∀ c ∈ cs, c.core < 64 ∧ c.cluster < 16) → (∀ c ∈ cs, (d.core c).run = .idle ∧ (d.core c).parked = false) →
        ((∀ c ∈ cs, d.inOrder c e = true) → ∃ t, exec (.launchStart f q slot) s = .next t ∧ t.mem = s.mem ∧
          t.dev.entry f q slot = some { e with phase := .running, started := d.clock, cores := cs } ∧
          ∀ j (h : j < cs.length),
            let k := t.dev.core cs[j]
            k.run = .running ∧ k.pc = BitVec.ofNat 64 (leAt e.bytes 8 8) ∧ k.getS 1 = ⟨BitVec.ofNat 64 (leAt e.bytes 16 8), false⟩ ∧
            k.getS 2 = ⟨BitVec.ofNat 64 j, false⟩ ∧ k.getS 3 = ⟨BitVec.ofNat 64 cs.length, false⟩ ∧
            k.csr.optag = BitVec.ofNat 16 (leAt e.bytes 2 2) ∧ k.csr.fpend = false ∧ k.csr.instret = 0) ∧
        (∀ c, cs.filter (fun c => !(d.inOrder c e)) = [c] →
          ∃ t, exec (.launchStart f q slot) s = .next t ∧ gone t ∧ (d.untraced → t.dev.newest = some 0x8020))) ∧
      ((∃ c ∈ cs, (d.core c).run ≠ .idle) → exec (.launchStart f q slot) s = .next s)) ∧
    (e.phase = .running → 0 < e.d →
      (d.clock < e.started + e.d * 10000 → exec (.launchTimeLimit f q slot) s = .next s) ∧
      (e.started + e.d * 10000 ≤ d.clock → (∀ c ∈ e.cores, c.core < 64 ∧ c.cluster < 16) →
        (∃ c ∈ e.cores, d.worksFor c e = true ∧ (d.core c).run.active = true) →
        ∃ t, exec (.launchTimeLimit f q slot) s = .next t ∧ t.mem = s.mem ∧
          t.dev.entry f q slot = some { e with limited := true } ∧
          ∀ c ∈ e.cores, d.worksFor c e = true → (d.core c).run.active = true → (t.dev.core c).run = .cutting)) ∧
    (e.phase = .running → (∃ c ∈ e.cores, d.worksFor c e = true) → exec (.launchComplete f q slot) s = .next s) ∧
    (∀ qs r, e.phase = .running → (∀ c ∈ e.cores, d.worksFor c e = false) → d.surv.relaunch = [] →
      tfind (d.fn f).queues q = some qs → d.ring f false qs.cring = some r → r.irq = false →
      let exc := e.cores.findSome? fun c => tfind e.exceptions (coreKey c)
      let status := if exc.isSome then 1 else if e.limited then 3 else 0
      ∃ t, exec (.launchComplete f q slot) s = .next t ∧ gone t ∧ t.dev.out = d.out ++ [.hostWrite f (d.carried r.pasid) (r.base + 16 * r.tail)
        (completionBytes q slot (leAt e.bytes 2 2) status (e.statuses.foldl (fun a b => a ||| b) 0) (exc.getD 0) qs.head r.phase)
        false])

/-- COPY, COPY_COMPLETE, COMPLETION_TIMEOUT and FENCE_ENTRY (R437, R446, R452): a copy that can be made starts, and a host source is
asked for; its bytes reach device memory or the host with their poison and it completes; an address that no entry translates
ends it with ADDRESS, a failed or late read with HOST_ERROR, poison with POISONED, and each completion carries the code of its record;
a fence completes when no earlier entry of its queue is left. -/
def Obligations.CopiesAndFencesComplete : Prop :=
  ∀ (s : State) (f q slot : Nat) (e : Entry) (qs : QueueState) (r : RingState), s.dev.power.input = true → f < 64 →
    s.dev.entry f q slot = some e → tfind (s.dev.fn f).queues q = some qs → s.dev.ring f false qs.cring = some r → r.irq = false →
    let d := s.dev
    let ends := fun (t : State) (status result code : Nat) => t.dev.entry f q slot = none ∧
      t.dev.out.getLast? = some (.hostWrite f (d.carried r.pasid) (r.base + 16 * r.tail)
        (completionBytes q slot (leAt e.bytes 2 2) status result code qs.head r.phase) false)
    (e.op = 2 → d.mayStart e = true →
      (e.copyInvalid = false → ∃ t, exec (.copy f q slot) s = .next t ∧ t.mem = s.mem ∧
        t.dev.entry f q slot = some { e with phase := .running, started := d.clock } ∧
        t.dev.out = d.out ++ (if bitAt e.d 0 then [.hostRead f (d.entryPasid e) e.a e.c] else [])) ∧
      (e.copyInvalid = true → ∃ t, exec (.copy f q slot) s = .next t ∧ t.mem = s.mem ∧ ends t 5 0 0x9003)) ∧
    (e.op = 2 → e.phase = .running → 0 < e.c → e.a % 256 + e.c ≤ 256 → e.b % 256 + e.c ≤ 256 →
      (∀ (bs : List Byte) p a, e.d = 1 → bs.length = e.c → s.translateMem f e.b ⟨false, true⟩ = some a →
        (poisonedPart p 0 e.c = false → ∃ t, exec (.copyComplete f q slot (.data bs p)) s = .next t ∧
          t.mem = (s.store a bs false).mem ∧ ends t 0 0 0) ∧
        (p = [(0, e.c)] → ∃ t, exec (.copyComplete f q slot (.data bs p)) s = .next t ∧
          t.mem = (s.store a bs true).mem ∧ ends t 7 0 0x9006) ∧
        (∀ n, 0 < n → n < e.c → p = [(0, n)] → ∃ t, exec (.copyComplete f q slot (.data bs p)) s = .next t ∧
          t.mem = ((s.store a (bs.take n) true).store (a + n) (bs.drop n) false).mem ∧ ends t 7 0 0x9006)) ∧
      (∀ bs p, e.d = 1 → s.translateMem f e.b ⟨false, true⟩ = none →
        ∃ t, exec (.copyComplete f q slot (.data bs p)) s = .next t ∧ t.mem = s.mem ∧ ends t 6 0 0x5004) ∧
      (∀ h, e.d = 1 → h = .unsupported ∨ h = .abort ∨ h = .timeout →
        ∃ t, exec (.copyComplete f q slot h) s = .next t ∧ t.mem = s.mem ∧ ends t 8 0 0x9007) ∧
      (∀ h a, e.d = 2 → s.translateMem f e.a ⟨true, false⟩ = some a → s.poisoned a e.c = true →
        ∃ t, exec (.copyComplete f q slot h) s = .next t ∧ t.mem = s.mem ∧ ends t 7 0 0x9005) ∧
      (∀ h a, e.d = 2 → s.translateMem f e.a ⟨true, false⟩ = some a → s.poisoned a e.c = false →
        ∃ t, exec (.copyComplete f q slot h) s = .next t ∧ t.mem = s.mem ∧ ends t 0 0 0 ∧
          .hostWrite f (d.entryPasid e) e.b ((List.range e.c).map fun j => s.byte (a + j)) false ∈ t.dev.out) ∧
      (∀ h a b, e.d = 0 → s.translateMem f e.a ⟨true, false⟩ = some a → s.translateMem f e.b ⟨false, true⟩ = some b →
        ∃ t, exec (.copyComplete f q slot h) s = .next t ∧
          t.mem = (if s.poisoned a e.c then s.moveUnits a b e.c
            else s.store b ((List.range e.c).map fun j => s.byte (a + j)) false).mem ∧
          (s.poisoned a e.c = false → ends t 0 0 0) ∧ (s.poisoned a e.c = true → ends t 7 0 (Config.poisonCode 0x30).toNat)) ∧
      (∀ addr, bitAt e.d 0 = true → ∃ t, exec (.completionTimeout f q slot addr) s = .next t ∧ t.mem = s.mem ∧ ends t 8 0 0x9007)) ∧
    (∀ pre post, e.op = 3 → d.entries = pre ++ e :: post →
      ((∀ x ∈ pre, ¬ (x.fn = f ∧ x.queue = q)) → ∃ t, exec (.fenceEntry f q slot) s = .next t ∧ t.mem = s.mem ∧ ends t 0 0 0) ∧
      ((∀ x ∈ pre, ¬ (x.fn = f ∧ x.queue = q ∧ x.slot = slot)) → (∃ x ∈ pre, x.fn = f ∧ x.queue = q) →
        exec (.fenceEntry f q slot) s = .next s))

/-- SIGNAL, WAIT_ENTRY, WAIT_ENTRY_TIMEOUT, BARRIER, BARRIER_TIMEOUT and CHECKPOINT (R245, R247, R437, R40, R519): a signal sets or adds
to its semaphore; a wait or barrier completes when its condition holds, also in the cycle of its timeout, and else with TIMEOUT; a
barrier adds 1 when it starts and takes it back when it times out; a checkpoint request is recorded and answered with the low
half of the step it will be taken at. -/
def Obligations.SemaphoreEntriesComplete : Prop :=
  ∀ (s : State) (f q slot a : Nat) (e : Entry) (qs : QueueState) (r : RingState), s.dev.power.input = true → f < 64 →
    s.dev.entry f q slot = some e → tfind (s.dev.fn f).queues q = some qs → s.dev.ring f false qs.cring = some r → r.irq = false →
    let d := s.dev
    let ends := fun (t : State) (status result : Nat) => t.dev.entry f q slot = none ∧
      t.dev.out.getLast? = some (.hostWrite f (d.carried r.pasid) (r.base + 16 * r.tail)
        (completionBytes q slot (leAt e.bytes 2 2) status result 0 qs.head r.phase) false)
    let old := BitVec.ofNat 64 (s.loadN a 8)
    let arg := BitVec.ofNat 64 (leAt e.bytes 16 8)
    let put := fun (s : State) (v : W64) => s.store a (leBytes 8 v.toNat) false
    (e.op = 4 → d.mayStart e = true → s.entrySem e = some a → s.poisoned a 8 = false →
      ∃ t, exec (.signal f q slot) s = .next t ∧ ends t 0 0 ∧
        t.mem = (put s (if bitAt e.c 0 then old + arg else arg)).mem) ∧
    (e.op = 5 → s.entrySem e = some a → s.poisoned a 8 = false →
      let holds := waitHolds (e.d % 8) old arg
      let taken := if bitAt e.d 3 then (put s (old - arg)).mem else s.mem
      (d.mayStart e = true →
        (holds = true → ∃ t, exec (.waitEntry f q slot) s = .next t ∧ t.mem = taken ∧ ends t 0 0) ∧
        (holds = false → e.c = 0 → ∃ t, exec (.waitEntry f q slot) s = .next t ∧ t.mem = s.mem ∧ ends t 2 0) ∧
        (holds = false → e.c ≠ 0 → ∃ t, exec (.waitEntry f q slot) s = .next t ∧ t.mem = s.mem ∧
          t.dev.entry f q slot = some { e with phase := .running, started := d.clock })) ∧
      (e.phase = .running →
        (holds = true → ∃ t, exec (.waitEntry f q slot) s = .next t ∧ t.mem = taken ∧ ends t 0 0) ∧
        (holds = false → exec (.waitEntry f q slot) s = .next s) ∧
        (d.entryLate e = false → exec (.waitEntryTimeout f q slot) s = .next s) ∧
        (d.entryLate e = true → holds = true → ∃ t, exec (.waitEntryTimeout f q slot) s = .next t ∧ t.mem = taken ∧ ends t 0 0) ∧
        (d.entryLate e = true → holds = false →
          ∃ t, exec (.waitEntryTimeout f q slot) s = .next t ∧ t.mem = s.mem ∧ ends t 2 0))) ∧
    (e.op = 7 → s.entrySem e = some a → s.poisoned a 8 = false →
      (d.mayStart e = true → s.mem.wf = true → s.behindWrapper a = false → (regionOf a).2 < 0x7F_0000 →
        (put s (old + 1)).entrySem e = some a →
        (arg.toNat ≤ (old + 1).toNat → ∃ t, exec (.barrier f q slot) s = .next t ∧ t.mem = (put s (old + 1)).mem ∧ ends t 0 0) ∧
        ((old + 1).toNat < arg.toNat → e.c ≠ 0 → ∃ t, exec (.barrier f q slot) s = .next t ∧ t.mem = (put s (old + 1)).mem ∧
          t.dev.entry f q slot = some { e with phase := .running, started := d.clock })) ∧
      (e.phase = .running →
        (arg.toNat ≤ old.toNat → ∃ t, exec (.barrier f q slot) s = .next t ∧ t.mem = s.mem ∧ ends t 0 0) ∧
        (old.toNat < arg.toNat → exec (.barrier f q slot) s = .next s) ∧
        (d.entryLate e = true → old.toNat < arg.toNat → ∃ t, exec (.barrierTimeout f q slot) s = .next t ∧
          t.mem = (put s (old - 1)).mem ∧ ends t 2 0))) ∧
    (e.op = 6 → d.mayStart e = true → d.rosterEpoch = 0 → d.surv.ckpt = none →
      let asked := e.c % 2 ^ 32
      let step := if asked = 0 then d.nextStep else Nat.max asked d.nextStep
      ∃ t, exec (.checkpoint f q slot) s = .next t ∧ t.mem = s.mem ∧ asked ∈ t.dev.surv.requests ∧ ends t 0 (step % 65536))

/-- FW_LOAD, FW_VERIFY_DONE, CORE_SWITCH, FW_COMMIT, FW_FLASH_DONE and FW_REVERT (R455 to R458, R571): LOAD and REVERT are taken in the
states the manual names and otherwise reported; a rejected image leaves the state as it was; an accepted one enters the bank not
running, the control cores switch in their order, each when its dispatch is complete, and the last one ends the switch; from recovery
the rest of the boot takes the place of switching; COMMIT writes the running image to flash. -/
def Obligations.LiveFirmwareIsLoadedAndCommitted : Prop :=
  ∀ s : State, s.dev.power.input = true →
    let d := s.dev
    let st := d.rf Reg.fwStat 2 0
    let state := fun (t : State) => t.dev.rf Reg.fwStat 2 0
    let misplaced := fun (c : Instr) => ∃ t, exec c s = .next t ∧ t.mem = s.mem ∧ t.dev.reg Reg.fwStat = d.reg Reg.fwStat ∧
      (d.untraced → t.dev.newest = some 0x900D)
    (d.barOpen 0 = false → exec .fwLoad s = .next s ∧ exec .fwRevert s = .next s ∧ exec .fwCommit s = .next s) ∧
    (d.barOpen 0 = true → st = 0 ∨ st = 3 ∨ st = 5 → ∃ t, exec .fwLoad s = .next t ∧ t.mem = s.mem ∧ state t = 1 ∧ t.dev.host.prior = st ∧
      t.dev.host.revert = false) ∧
    (d.barOpen 0 = true → st ≠ 0 ∧ st ≠ 3 ∧ st ≠ 5 → misplaced .fwLoad) ∧
    (d.barOpen 0 = true → st = 3 → ∃ t, exec .fwRevert s = .next t ∧ t.mem = s.mem ∧ state t = 1 ∧ t.dev.host.revert = true) ∧
    (d.barOpen 0 = true → st ≠ 3 → misplaced .fwRevert ∧ misplaced .fwCommit) ∧
    (d.barOpen 0 = true → st = 3 → exec .fwCommit s = .next (s.onDev fun d => d.setRf Reg.fwStat 2 0 4)) ∧
    (st = 4 → ∃ t, exec .fwFlashDone s = .next t ∧ t.mem = s.mem ∧ state t = 0 ∧ t.dev.rst.committed = true ∧
      t.dev.host.flash = (d.host.image.map Image.bytes).getD [] ∧ (d.untraced → t.dev.newest = some 0x900C)) ∧
    (st ≠ 4 → exec .fwFlashDone s = .next s) ∧
    (∀ flash, st ≠ 1 → exec (.fwVerifyDone flash) s = .next s) ∧
    (∀ flash, st = 1 → d.host.revert = false →
      let r := s.load (d.rf Reg.fwAddr 51 12 * 4096) (d.rf Reg.fwLen 25 0)
      (s.fwVerdict r.1 r.2 ≠ 0 → ∃ t, exec (.fwVerifyDone flash) s = .next t ∧ t.mem = s.mem ∧ state t = d.host.prior % 8 ∧
        t.dev.host = d.host ∧ (d.untraced → t.dev.newest = some 0x900A)) ∧
      (s.fwVerdict r.1 r.2 = 0 →
        let bank := if d.host.prior = 5 then 0 else 1 - (d.host.image.map Image.bank).getD 0
        ∃ t, exec (.fwVerifyDone flash) s = .next t ∧
          t.mem = (s.store (bankStart bank) (slice r.1 512 (leAt r.1 12 4)) false).mem ∧ state t = 2 ∧ t.dev.rf Reg.fwStat 15 8 = 0 ∧
          t.dev.host.next = some (imageOf r.1 bank) ∧ t.dev.host.image = d.host.image ∧ t.dev.cores = d.cores)) ∧
    (∀ k m, d.host.next = some m → st = 2 → k < 132 → (d.rf Reg.fwStat 15 8 ≠ k → exec (.coreSwitch k) s = .next s) ∧
      (k < 128 → d.dispatching (clusterOf k) = true → exec (.coreSwitch k) s = .next s) ∧
      (d.rf Reg.fwStat 15 8 = k → (k < 128 → d.dispatching (clusterOf k) = false) → d.host.prior = 5 →
        ∃ t, exec (.coreSwitch k) s = .next t ∧ t.mem = s.mem ∧ state t = 3 ∧ t.dev.host.image = some m ∧ t.dev.host.next = none ∧
          (d.untraced → t.dev.newest = some 0x900B) ∧ ∀ j < 132,
          (t.dev.core (switchOrder j)).run = .running ∧ (t.dev.core (switchOrder j)).pc =
            BitVec.ofNat 64 (bankStart m.bank + (if j < 128 then m.entryClu else m.entryHub))) ∧
      (d.rf Reg.fwStat 15 8 = k → (k < 128 → d.dispatching (clusterOf k) = false) → d.host.prior ≠ 5 →
        let c := switchOrder k
        (d.core c).run ≠ .blockReset → 16 * c.die + c.cluster ∉ d.rst.clusters → ∃ t, exec (.coreSwitch k) s = .next t ∧
          t.mem = s.mem ∧ (t.dev.core c).run = .running ∧ (t.dev.core c).pc =
            BitVec.ofNat 64 (bankStart m.bank + (if k < 128 then m.entryClu else m.entryHub)) ∧
          (t.dev.core c).getS 1 = ⟨BitVec.ofNat 64 (bankStart m.bank), false⟩ ∧ t.dev.rf Reg.fwStat 15 8 = k + 1 ∧
          (k < 131 → state t = 2 ∧ (t.dev.core c).csr.ipend = (d.core c).csr.ipend ∧ t.dev.host = d.host) ∧
          (k = 131 → state t = (if d.host.revert then 0 else 3) ∧ t.dev.host.image = some m ∧ t.dev.host.next = none ∧
            (d.untraced → t.dev.newest = some 0x900B))))

/-- POWER_ON_RESET, MODULE_RESET_COLD, MODULE_RESET_WARM, PERST_ASSERT, PERST_PULSE_FILTERED, PERST_RELEASE, WATCHDOG_EXPIRY, CRIT_ERROR
and HOT_RESET (R545 to R547, R549, R550, R552, R553): each source takes its reset with its cause bit; a cold one clears RST.CAUSE and
device memory, a warm one keeps memory but hub-store bank A and the registers named; a hot reset resets every function, and is not over
before the last of them. -/
def Obligations.ResetsAreTakenByTheirSources : Prop :=
  ∀ s : State, s.dev.power.input = true → s.dev.rst.held = false →
    let d := s.dev
    let taken := fun (c : Instr) (cold : Bool) (bit : Nat) => ∃ t, exec c s = .next t ∧ t.dev.rst.held = true ∧
      t.dev.host.ready = false ∧ t.dev.entries = [] ∧
      t.dev.rf Reg.rstCause 7 0 = (if cold then 0 else d.rf Reg.rstCause 7 0) ||| 2 ^ bit ∧
      t.dev.rf Reg.rstCause 47 32 = (if cold then 0 else Nat.min 65535 (d.rf Reg.rstCause 47 32 + 1)) ∧
      (cold = true → t.mem = ⟨[], [], []⟩) ∧
      (cold = false → (∀ a, ¬ (bankStart 0 ≤ a ∧ a < bankStart 1) → t.mem.get a = s.mem.get a) ∧
        ∀ o, o ∈ [Reg.memCap, Reg.dumpStat, Reg.dumpCtl] ∨ (∃ k < 64, o = Reg.optBlock k) → t.dev.reg o = d.reg o) ∧
      (bit = 7 → t.dev.rf Reg.rstCause 11 9 < 5) ∧ (bit = 1 → t.dev.rst.perst = true)
    (∀ (w : Writer) (v : W64) (b : Nat), (w = .host 0 ∧ d.host.ready = true ∧ b = 3) ∨
        ((∃ n < 4, w = .firmware (steward n)) ∧ b = 4) →
      (v.toNat % 65536 = 0x5A3C → (v.getLsbD 16 = true → taken (.moduleResetCold w v) true b) ∧
        (v.getLsbD 16 = false → taken (.moduleResetWarm w v) false b)) ∧
      (v.toNat % 65536 ≠ 0x5A3C → exec (.moduleResetCold w v) s = .next s ∧ exec (.moduleResetWarm w v) s = .next s)) ∧
    (d.rst.perst = false → taken .perstAssert false 1) ∧
    (d.rst.perst = true → exec .perstAssert s = .next s) ∧
    (∃ t, exec .perstPulseFiltered s = .next t ∧ t.mem = s.mem ∧
      t.dev.rf Reg.rstStat 15 8 = Nat.min 255 (d.rf Reg.rstStat 15 8 + 1)) ∧
    (exec .perstRelease s = .next (s.onDev fun d => { d with rst := { d.rst with perst := false } })) ∧
    (∀ n t0, n < 4 → (d.core (steward n)).wdogAt = some t0 → (d.core (steward n)).run ≠ .held →
      (d.core (steward n)).run ≠ .blockReset → (d.clock < t0 → exec (.watchdogExpiry n) s = .next s) ∧
      (t0 ≤ d.clock → taken (.watchdogExpiry n) false 5)) ∧
    (∀ which corr, (which < 3 → corr = true → ∃ t, exec (.critError which corr) s = .next t ∧ t.mem = s.mem ∧
        t.dev.rf Reg.rstStat 31 16 = Nat.min 65535 (d.rf Reg.rstStat 31 16 + 1) ∧ (d.untraced → t.dev.newest = some 0xC005)) ∧
      (which < 5 → corr = false ∨ 3 ≤ which → taken (.critError which corr) (decide (which = 0)) 7)) ∧
    (∃ t, exec .hotReset s = .next t ∧ t.dev.rbit Reg.rstCause 2 = true ∧ (∀ e ∈ t.dev.entries, 64 ≤ e.fn) ∧
      (∀ f < 64, (d.fnWorks f = false → t.dev.fn f = Function.empty ∧ t.dev.flrBusy f = false) ∧
        (d.fnWorks f = true → t.dev.flrBusy f = true)) ∧
      (t.dev.host.linkReset = true ↔ ∃ f < 64, d.fnWorks f = true) ∧ t.dev.clock ≤ t.dev.host.busyUntil ∧
      t.dev.host.busyUntil ≤ t.dev.clock + 1000000000) ∧
    (∀ seat feed, exec (.powerOnReset seat feed) s = .next s ∧
      let off := { s with dev := { d with power := { d.power with input := false } } }
      ∃ t, exec (.powerOnReset seat feed) off = .next t ∧ t.mem = ⟨[], [], []⟩ ∧ t.dev.power.input = true ∧
        t.dev.rst.held = true ∧ t.dev.rst.cold = true ∧ t.dev.cores = [] ∧ t.dev.host.flash = d.host.flash ∧
        t.dev.rf Reg.rstCause 7 0 = 1 ∧ t.dev.rf Reg.tableStat 3 0 = seat.toNat ∧ t.dev.rf Reg.tableStat 5 4 = feed.toNat)

/-- RESET_RELEASE, OPT_PROGRAM, OPT_PROGRAM_DONE, OPT_STAT_READ, RST_STAT_READ and RST_CAUSE_WRITE (R547, R556, R564 to R566, R569 to R576):
the boot sequence runs once nothing holds the reset; it ends with a verified image running on every control core, or with steward 0
in the boot ROM; the option block is programmed from the staged bytes; the cause bits are cleared by writing 1. -/
def Obligations.BootEndsWithAnImageOrInRecovery : Prop :=
  ∀ s : State, s.dev.power.input = true →
    let d := s.dev
    (∀ boot, d.rst.held = true → d.rst.perst = false → d.power.trip = false → ∃ t, exec (.resetRelease boot) s = .next t ∧
      t.dev.rst.held = false ∧ t.dev.host.ready = true ∧ t.dev.power.fault = false ∧ t.dev.rbit (Reg.fnStat 0) 0 = true ∧
      t.dev.rbit Reg.optStat 0 = true ∧ (boot.option = none → t.dev.rf Reg.rstStat 5 4 = 3) ∧
      let phase := t.dev.rf Reg.rstStat 2 0
      (phase = 7 ↔ boot.fuseFail = true) ∧ (phase = 5 ∨ phase = 6 ∨ phase = 7) ∧
      (phase = 5 → (∀ f < 64, t.dev.rbit (Reg.fnStat f) 0 = true) ∧ ∃ m, t.dev.host.image = some m ∧ ∀ k < 132,
        (t.dev.core (switchOrder k)).run = .running ∧ (t.dev.core (switchOrder k)).pc =
          BitVec.ofNat 64 (bankStart 0 + (if k < 128 then m.entryClu else m.entryHub))) ∧
      (phase ≠ 5 → t.dev.host.image = none ∧ (t.dev.core (steward 0)).run = .running ∧
        (t.dev.core (steward 0)).pc = Config.romEntry)) ∧
    (∀ boot, d.rst.held = false ∨ d.rst.perst = true ∨ d.power.trip = true → exec (.resetRelease boot) s = .next s) ∧
    (d.rbit Reg.optStat 1 = false → exec .optProgramDone s = .next s ∧
      exec .optProgram s = .next (s.onDev fun d => d.setRf Reg.optStat 1 1 1)) ∧
    (d.rbit Reg.optStat 1 = true → exec .optProgram s = .next s ∧ ∃ t, exec .optProgramDone s = .next t ∧ t.mem = s.mem ∧
      t.dev.rbit Reg.optStat 1 = false ∧ t.dev.rbit Reg.optStat 2 = true ∧
      t.dev.rst.optFlash = some ((List.range 64).flatMap fun k => leBytes 8 (d.regN (Reg.optStage k)))) ∧
    (∃ t, exec .optStatRead s = .next t ∧ t.mem = s.mem ∧ t.dev.out = d.out ++ [.reg Reg.optStat (d.reg Reg.optStat)] ∧
      t.dev.rbit Reg.optStat 2 = false ∧ t.dev.rf Reg.optStat 1 0 = d.rf Reg.optStat 1 0) ∧
    (∃ t, exec .rstStatRead s = .next t ∧ t.mem = s.mem ∧ t.dev.out = d.out ++ [.reg Reg.rstStat (d.reg Reg.rstStat)] ∧
      t.dev.rf Reg.rstStat 15 8 = 0 ∧ t.dev.rf Reg.rstStat 31 16 = 0 ∧ t.dev.rf Reg.rstStat 7 0 = d.rf Reg.rstStat 7 0) ∧
    (∀ v, ∃ t, exec (.rstCauseWrite v) s = .next t ∧ t.mem = s.mem ∧
      t.dev.rf Reg.rstCause 7 0 = d.rf Reg.rstCause 7 0 &&& (255 - v.toNat % 256) ∧
      t.dev.rf Reg.rstCause 63 8 = d.rf Reg.rstCause 63 8)

/-- BLOCK_RESET_ASSERT, BLOCK_RESET_RELEASE, WRAPPER_ANSWER and WATCHDOG (R554, R557 to R560, R577): a command that is refused sets FAIL
and changes nothing else; a block enters block reset and leaves it with its cores idle or at their entries, and the writer is
notified; the wrapper answers requests poisoned and register reads with zeros; a cluster control core whose watchdog expires
starts again at its entry of the image it runs. -/
def Obligations.BlocksEnterAndLeaveReset : Prop :=
  ∀ (s : State) (n : Nat) (v : W64), s.dev.power.input = true → n < 4 →
    let d := s.dev
    let w := steward n
    let b : BlockName := ⟨bitsOf v.toNat 1 0, bitsOf v.toNat 5 2, bitsOf v.toNat 9 6, bitsOf v.toNat 15 10⟩
    let cl : ClusterId := ⟨b.die, b.cluster⟩
    let told := fun (t : State) => t.mem = s.mem ∧ t.dev.rbit Reg.blockCmd 62 = false ∧
      (t.dev.core w).csr.ipend.getLsbD 5 = true
    let fails := s.onDev fun d => d.setRf Reg.blockCmd 62 62 1
    (v.getLsbD 16 = true → b.exists = false ∨ d.reserveIdle b = true ∨ d.blockHeld b = true ∨ v.getLsbD 17 = true ∨
        (b.kind = 1 ∧ b.coreId = w) → exec (.blockResetAssert w v) s = .next fails) ∧
    (v.getLsbD 17 = true → b.exists = false ∨ d.blockHeld b = false ∨ v.getLsbD 16 = true →
      exec (.blockResetRelease w v) s = .next fails) ∧
    (v.getLsbD 16 = true → v.getLsbD 17 = false → d.blockRefused w b true false = false →
      ∃ t, exec (.blockResetAssert w v) s = .next t ∧ told t ∧ (d.untraced → t.dev.newest = some 0xC002) ∧
        (b.kind < 2 → (t.dev.core b.coreId).run = .blockReset) ∧
        (b.kind = 2 → 16 * b.die + b.cluster ∈ t.dev.rst.clusters ∧ ∀ k < 0x23, (t.dev.core (coreIn cl k)).run = .blockReset) ∧
        (b.kind = 3 → b.unit ∈ t.dev.rst.ports)) ∧
    (v.getLsbD 16 = false → v.getLsbD 17 = true → d.blockRefused w b false true = false →
      ∃ t, exec (.blockResetRelease w v) s = .next t ∧ told t ∧
        (b.kind = 0 → b.unit ∈ (d.cluster cl).positions → t.dev.core b.coreId = Core.init .idle ∧
          t.dev.tensor b.coreId = Tensor.init) ∧
        (b.kind = 1 → ∀ m, d.imageFor b.coreId = some m → (t.dev.core b.coreId).run = .running ∧ (t.dev.core b.coreId).pc =
          BitVec.ofNat 64 (bankStart m.bank + (if b.die = 8 then m.entryHub else m.entryClu))) ∧
        (b.kind = 2 → 16 * b.die + b.cluster ∉ t.dev.rst.clusters) ∧ (b.kind = 3 → b.unit ∉ t.dev.rst.ports)) ∧
    (∀ x : Block, (d.wrapped x = false → ∀ tr, exec (.wrapperAnswer x tr) s = .next s) ∧
      (d.wrapped x = true → exec (.wrapperAnswer x .response) s = .next s ∧
        (∀ h, ∃ t, exec (.wrapperAnswer x (.request h)) s = .next t ∧ t.mem = s.mem ∧
          t.dev.out = d.out ++ [.wrapper x (headerBytes (responseHdr h true srcReset)) true]) ∧
        (∃ t, exec (.wrapperAnswer x .registerRead) s = .next t ∧ t.mem = s.mem ∧
          t.dev.out = d.out ++ [.wrapper x [0, 0, 0, 0, 0, 0, 0, 0] false]) ∧
        ∃ t, exec (.wrapperAnswer x .registerWrite) s = .next t ∧ t.mem = s.mem ∧ t.dev.out = d.out ++ [.wrapper x [] false])) ∧
    ∀ (k : ClusterId) t0, clusterPresent k = true → (d.core (ctrlOf k)).wdogAt = some t0 → (d.core (ctrlOf k)).run ≠ .held →
      d.blockHeld ⟨1, k.die, k.cluster, 0⟩ = false → (d.clock < t0 → exec (.watchdog k) s = .next s) ∧
      (t0 ≤ d.clock → ∀ m, d.imageFor (ctrlOf k) = some m → ∃ t, exec (.watchdog k) s = .next t ∧ t.mem = s.mem ∧
        (t.dev.core (ctrlOf k)).run = .running ∧ (t.dev.core (ctrlOf k)).pc = BitVec.ofNat 64 (bankStart m.bank + m.entryClu) ∧
        (d.untraced → t.dev.newest = some 0xC004))

/-- CALIBRATION_END, POWER_CONTROL_PERIOD, SENSOR_READ, THERMAL_LIMIT_STEP, COOL_REQ_WRITE, INPUT_REMOVED, I3C_READ and I3C_ADDRESS_ASSIGN
(R581 to R583, R585 to R587, R590 to R592, R594, R599): the handshake ends with the class in force; a control period shows what was
measured; two hot readings in a row trip the module into a warm reset; the thermal limit moves by its steps; and once the input is
removed nothing is left and no command but the power-on reset does anything. -/
def Obligations.PowerAndHeatAreControlled : Prop :=
  ∀ s : State,
    let d := s.dev
    (d.power.input = false → ∀ c : Instr, (∀ x y, c ≠ .powerOnReset x y) → c ≠ .railLeavesWindow → exec c s = .next s) ∧
    (d.power.input = true →
      (d.power.calib = true → d.rst.held = false → ∀ before after : Int,
        let j := ((after - before) * 10 / 128).toNat
        let measured := if j ≤ 40 then 1 else if j ≤ 60 then 2 else 0
        let cls := lowerClass measured (d.rf (Reg.optBlock 1) 41 40)
        ∃ t, exec (.calibrationEnd before after) s = .next t ∧ t.mem = s.mem ∧ t.dev.rf Reg.thermStat 1 0 = measured ∧
          t.dev.rf Reg.thermStat 3 2 = cls % 4 ∧ t.dev.rbit Reg.thermStat 4 = true ∧
          t.dev.rf Reg.thermStat 39 32 = Nat.min 255 j ∧ t.dev.power.calib = false ∧
          t.dev.power.cap = d.rf Reg.pwrCap 15 0 ∧ (d.untraced → t.dev.newest = some 0xD001)) ∧
      (∀ watts mv st,
        let cap := if d.power.calib then d.power.cap else d.rf Reg.pwrCap 15 0
        let env := envelopeOf (d.rf Reg.thermStat 3 2)
        let limit := Nat.min (if cap = 0 then env else cap) (Nat.min env d.power.therm)
        ∃ t, exec (.powerControlPeriod watts mv st) s = .next t ∧ t.mem = s.mem ∧ t.dev.rf Reg.pwrStat 15 0 = limit % 65536 ∧
          t.dev.rf Reg.pwrStat 31 16 = Nat.min 65535 watts ∧ t.dev.rf Reg.pwrStat 47 32 = Nat.min 65535 mv ∧
          t.dev.power.watts = (watts :: d.power.watts).take 100 ∧ t.dev.power.turn = (d.power.turn + 1) % 128 ∧
          (limit < watts → d.power.atFloor = true → ∀ cl, d.nextToPark = some cl → t.dev.power.parked = d.power.parked ++ [cl]) ∧
          (watts ≤ limit → t.dev.power.parked = d.power.parked.dropLast)) ∧
      (∀ rs, (tripReading rs = false → ∃ t, exec (.sensorRead rs) s = .next t ∧ t.mem = s.mem ∧ t.dev.power.hot = false ∧
          t.dev.rst = d.rst ∧ (d.power.trip = true → t.dev.power.trip = !(d.cooled rs)) ∧
          (∀ i x, i < 132 → rs.getD i none = some x → -40 ≤ x → (d.rf Reg.thermCtl 7 0 : Int) ≤ x →
            t.dev.rbit Reg.thermStat 5 = true)) ∧
        (tripReading rs = true → d.power.trip = false → d.power.hot = false → ∃ t, exec (.sensorRead rs) s = .next t ∧
          t.mem = s.mem ∧ t.dev.power.hot = true ∧ t.dev.rst = d.rst) ∧
        (tripReading rs = true → d.power.trip = false → d.power.hot = true → ∃ t, exec (.sensorRead rs) s = .next t ∧
          t.dev.rst.held = true ∧ t.dev.power.trip = true ∧ t.dev.power.fault = true ∧ t.dev.rbit Reg.rstCause 6 = true ∧
          ∀ a, ¬ (bankStart 0 ≤ a ∧ a < bankStart 1) → t.mem.get a = s.mem.get a)) ∧
      (let alert := d.rbit Reg.thermStat 5
       let env := d.envelope
       let due := d.power.thermAt + (if alert then 10000000 else 100000000)
       (d.clock < due → exec .thermalLimitStep s = .next s) ∧
       (due ≤ d.clock → ∃ t, exec .thermalLimitStep s = .next t ∧ t.mem = s.mem ∧ t.dev.power.thermAt = d.clock ∧
         t.dev.power.therm = (if alert then Nat.max 400 (d.power.therm - env / 20) else Nat.min env (d.power.therm + env / 20)) ∧
         t.dev.rbit Reg.thermStat 6 = decide (t.dev.power.therm < env) ∧
         (t.dev.rbit Reg.thermStat 6 ≠ d.rbit Reg.thermStat 6 → d.untraced → t.dev.newest = some 0xD003))) ∧
      (∀ v, (v.toNat % 256 ≤ 100 → ∃ t, exec (.coolReqWrite v) s = .next t ∧ t.mem = s.mem ∧
          t.dev.rf Reg.coolReq 8 0 = v.toNat % 512 ∧ t.dev.power.duty = (if v.getLsbD 8 then
            Nat.max (v.toNat % 256) (100 - Nat.min 100 (4 * d.rf Reg.thermStat 31 24)) else v.toNat % 256)) ∧
        (100 < v.toNat % 256 → ∃ t, exec (.coolReqWrite v) s = .next t ∧ t.mem = s.mem ∧
          t.dev.rf Reg.coolReq 7 0 = d.rf Reg.coolReq 7 0)) ∧
      (∃ t, exec .inputRemoved s = .next t ∧ t.mem = ⟨[], [], []⟩ ∧ t.dev.power.input = false ∧ t.dev.regs = [] ∧
        t.dev.cores = [] ∧ t.dev.log.history = [] ∧ t.dev.host.flash = d.host.flash) ∧
      (d.rst.held = false → ∀ a, (∃ t, exec (.i3cAddressAssign a) s = .next t ∧ t.mem = s.mem ∧ t.dev.power.addr = some a) ∧
        ∃ t, exec (.i3cRead 0 8) s = .next t ∧ t.mem = s.mem ∧
          t.dev.out = d.out ++ [.i3c (leBytes 8 (d.regN Reg.partId))]))

/-- PORT_ENABLE, PORT_FENCE, UNFENCE, CODEWORD, PEER_HOLD_IN_ASSERT, PEER_HOLD_IN_RELEASE, FENCE_FLIT, STARVE_TIMEOUT and LINK_CNT_READ (R67,
R464, R465, R478 to R480, R484, R486, R506): a port trains when it is enabled and leaves its link when it is disabled, fenced, starved or
told of a fence; credits that have arrived win over the timeout; corrected codewords deliver their flits, the fourth uncorrectable one
in a row costs the lock. -/
def Obligations.PortsTrainAndFence : Prop :=
  ∀ (s : State) (p : Nat), s.dev.power.input = true → p < 16 →
    let d := s.dev
    let x := d.port p
    let st := d.portState p
    let ends := fun (c : Instr) (f : State → Prop) => ∃ t, exec c s = .next t ∧ t.mem = s.mem ∧ f t
    let fenced := fun (cause : Nat) (t : State) => t.dev.portState p = 5 ∧ t.dev.rf (Reg.portStat p) 11 8 = cause
    (x.hold = false → ends (.peerHoldInAssert p) fun t => t.dev.port p = { x with hold := true, holdAt := d.clock }) ∧
    (x.queue = [] → x.unsent = [] → ends (.peerHoldInRelease p) fun t => t.dev.port p = { x with hold := false }) ∧
    (∀ pk, x.queue = [pk] → x.unsent = [] → d.holdOut (txChute p) = false → st = 4 → flitCount pk.bytes.length ≤ x.credits.getD pk.vc 0 →
      x.resend.length + flitCount pk.bytes.length ≤ 512 → ends (.peerHoldInRelease p) fun t => (t.dev.port p).hold = false ∧
        (t.dev.port p).queue = [] ∧ (t.dev.port p).sent = (x.sent + flitCount pk.bytes.length) % 4096 ∧
        (t.dev.port p).resend = x.resend ++ (List.range (flitCount pk.bytes.length)).map (packetFlit pk x.sent) ∧
        t.dev.out.length = d.out.length + flitCount pk.bytes.length) ∧
    (st = 0 → d.seated = true → ends (.portEnable p true) fun t => t.dev.portState p = 1 ∧ t.dev.rbit (Reg.portCtl p) 0 = true) ∧
    (ends (.portEnable p false) fun t => t.dev.portState p = 0 ∧ t.dev.rbit (Reg.portCtl p) 0 = false) ∧
    (st ≠ 0 → st ≠ 5 → ends (.portFence p) (fenced 1)) ∧
    (st = 0 ∨ st = 5 → exec (.portFence p) s = .next (s.onDev fun d => d.setRf (Reg.portCtl p) 1 1 1)) ∧
    (st = 5 → ends (.unfence p) fun t => t.dev.portState p = 1 ∧ t.dev.rbit (Reg.portCtl p) 1 = false) ∧
    (st ≠ 5 → exec (.unfence p) s = .next s) ∧
    (∀ (errors count : Nat) (pair : Bool) (bs : List Byte),
      (st = 0 → exec (.codeword p errors pair count bs) s = .next s) ∧
      (st = 1 → errors ≤ 15 → inStep x.tag pair (count % 128) = true → x.good = 7 →
        ends (.codeword p errors pair count bs) fun t => t.dev.portState p = 3 ∧ (d.untraced → t.dev.newest = some 0xA002)) ∧
      (st ≠ 0 → st ≠ 1 → st ≠ 5 →
        (errors ≤ 15 → pair = false → ends (.codeword p errors pair count bs) fun t => t.dev.portState p = st ∧
          (t.dev.chute (rxChute p)).words = (d.chute (rxChute p)).words ++
            [(slice bs 0 256, false), (slice bs 256 256, false)].flatMap flitWords) ∧
        (errors ≤ 15 → pair = true → ∀ h, x.half = some (h, false) → ends (.codeword p errors pair count bs) fun t =>
          (t.dev.chute (rxChute p)).words = (d.chute (rxChute p)).words ++
            [(h ++ slice bs 0 128, false), (slice bs 128 256, false), (slice bs 384 256, false)].flatMap flitWords) ∧
        (15 < errors → x.uncorr = 3 → ends (.codeword p errors pair count bs) fun t =>
          (t.dev.portState p = 1 ∨ t.dev.portState p = 5) ∧
          t.dev.rf (Reg.linkCnt p) 47 32 = Nat.min 65535 (d.rf (Reg.linkCnt p) 47 32 + 1)))) ∧
    (∀ b, d.headFlit p = some b → flitKind b.1 b.2 = 7 → 2 ≤ st → st ≠ 5 → ends (.fenceFlit p) fun t =>
      t.dev.portState p = 1 ∨ t.dev.portState p = 5) ∧
    (x.queue = [] → exec (.starveTimeout p) s = .next s) ∧
    (∀ k, x.queue = [k] → x.hold = false → d.creditArrived p k.vc = true → exec (.starveTimeout p) s = .next s) ∧
    (∀ k ∈ x.queue, x.credits.getD k.vc 0 = 0 → d.creditArrived p k.vc = false → 2 ≤ st → st ≠ 5 →
      Nat.max k.since (x.gotCredit.getD k.vc 0) + 10000 * d.rf (Reg.portCtl p) 47 32 ≤ d.clock →
      ends (.starveTimeout p) (fenced 5)) ∧
    (ends (.linkCntRead p false) fun t => t.dev.out = d.out ++ [.reg (Reg.linkCnt p) (d.reg (Reg.linkCnt p))] ∧
      t.dev.reg (Reg.linkCnt p) = 0) ∧
    (ends (.linkCntRead p true) fun t => t.dev.out = d.out ++ [.reg (Reg.fecCnt p) (d.reg (Reg.fecCnt p))] ∧
      t.dev.rf (Reg.fecCnt p) 47 0 = 0)

/-- DATA_FLIT, IDLE_FLIT, NAK, CREDIT, TIME and RESEND_TIMEOUT (R466, R474 to R478, R484, R503, R504): flits are accepted in order of their
numbers, others are discarded; one with a poisoned word poisons its packet; an acknowledgement frees the re-send buffer, a NAK or a timeout sends from a number again, credits
add up, and a TIME request is answered with its three times. -/
def Obligations.FlitsAreTakenInOrder : Prop :=
  ∀ (s : State) (p : Nat) (bs : List Byte) (bad : Bool), s.dev.power.input = true → p < 16 →
    s.dev.headFlit p = some (bs, bad) → s.dev.portState p ≠ 5 → s.dev.portState p ≠ 0 →
    let d := s.dev
    let x := d.port p
    let h := leAt bs 0 8
    let seq := bitsOf h 19 8
    let body := slice bs 8 (bitsOf h 47 40)
    let kind := flitKind bs bad
    let quiet := bitsOf h 31 20 = x.acked ∧ bitsOf h 39 35 = 0
    let room := (d.faultsNow p).length + 1 < d.rf (Reg.portCtl p) 55 48
    let free := x.hold = false ∧ x.unsent = [] ∧ d.holdOut (txChute p) = false
    let marked := fun (b : List Byte) => if (d.headFails p).2 then poisonInner b else b
    let sound := (d.headFails p).2 = false
    let ends := fun (c : Instr) (f : State → Prop) => ∃ t, exec c s = .next t ∧ t.mem = s.mem ∧ f t
    (kind = 0 → room → ends (.dataFlit p) fun t => (t.dev.chute (rxChute p)).words = (d.chute (rxChute p)).words.drop 4 ∧ (t.dev.port p).expect = x.expect ∧
      (t.dev.port p).discarding = true ∧ t.dev.portState p = d.portState p ∧
      t.dev.rf (Reg.linkCnt p) 31 16 = Nat.min 65535 (d.rf (Reg.linkCnt p) 31 16 + 1) ∧
      (d.untraced → t.dev.newest = some 0xA004)) ∧
    (kind = 2 → quiet → seq = x.expect → x.misplaced h body = false → ends (.dataFlit p) fun t =>
      (t.dev.chute (rxChute p)).words = (d.chute (rxChute p)).words.drop 4 ∧ (t.dev.port p).expect = (x.expect + 1) % 4096 ∧ (t.dev.port p).discarding = false ∧
      (x.parts = none → bitAt h 6 = true → (t.dev.port p).buffer = x.buffer ++ [⟨bitsOf h 4 2, marked body, none, d.clock⟩]) ∧
      (x.parts = none → bitAt h 6 = false → (t.dev.port p).buffer = x.buffer ∧
        (t.dev.port p).parts = some ⟨bitsOf h 4 2, marked body, none, d.clock⟩) ∧
      (∀ k, x.parts = some k → bitAt h 6 = true →
        (t.dev.port p).buffer = x.buffer ++ [{ k with bytes := marked (k.bytes ++ body) }])) ∧
    (kind = 2 → quiet → seq ≠ x.expect → x.discarding = true →
      exec (.dataFlit p) s = .next (s.onDev fun d => d.dropFlit p)) ∧
    (kind = 3 → sound → x.queue = [] → ∀ j, bitsOf h 31 20 ≠ x.acked → x.resend.findIdx? (fun f => decide (f.seq = bitsOf h 31 20)) = some j →
      ends (.idleFlit p) fun t => (t.dev.chute (rxChute p)).words = (d.chute (rxChute p)).words.drop 4 ∧ (t.dev.port p).resend = x.resend.drop (j + 1) ∧
        (t.dev.port p).acked = bitsOf h 31 20 ∧ (t.dev.port p).retries = 0 ∧ t.dev.out = d.out) ∧
    (kind = 4 → quiet → leAt bs 9 2 ∈ x.resend.map TxFlit.seq →
      (x.back ≠ some (leAt bs 9 2) → 0 < d.rf (Reg.portCtl p) 11 8 → free → sound → ends (.nak p) fun t => (t.dev.chute (rxChute p)).words = (d.chute (rxChute p)).words.drop 4 ∧
        (t.dev.port p).back = some (leAt bs 9 2) ∧ (t.dev.port p).retries = 0 ∧ (t.dev.port p).resend = x.resend ∧
        t.dev.rf (Reg.linkCnt p) 15 0 = Nat.min 65535 (d.rf (Reg.linkCnt p) 15 0 + 1) ∧ t.dev.out.length =
          d.out.length + (x.resend.dropWhile fun f => decide (f.seq ≠ leAt bs 9 2)).length) ∧
      (x.back = some (leAt bs 9 2) → d.rf (Reg.portCtl p) 11 8 ≤ x.retries + 1 → ends (.nak p) fun t =>
        t.dev.portState p = 5 ∧ t.dev.rf (Reg.portStat p) 11 8 = 2)) ∧
    (kind = 5 → quiet → sound → x.queue = [] → x.credits.length = 8 → ends (.credit p) fun t => (t.dev.chute (rxChute p)).words = (d.chute (rxChute p)).words.drop 4 ∧
      t.dev.out = d.out ∧ ∀ v < 8, (t.dev.port p).credits.getD v 0 = x.credits.getD v 0 + leAt bs (9 + 2 * v) 2) ∧
    (kind = 6 → quiet → sound → leAt bs 9 1 = 0 → d.holdOut (txChute p) = false → ends (.time p) fun t => ∃ fb, t.dev.out = d.out ++ [.flit p fb] ∧ leAt fb 8 1 = 3 ∧
      leAt fb 9 1 = 1 ∧ leAt fb 16 8 = leAt bs 16 8 ∧ leAt fb 24 8 = d.ns % 2 ^ 64 ∧ leAt fb 32 8 = d.ns % 2 ^ 64) ∧
    (kind = 6 → quiet → leAt bs 9 1 ≠ 0 → d.portSeat p = d.timeRef →
      let off := timeOffset (leAt bs 16 8) (leAt bs 24 8) (leAt bs 32 8) d.ns
      (d.peer.stepDue = false → ends (.time p) fun t => t.dev.peer.steer = 10 * off ∧ t.dev.clock = d.clock) ∧
      (d.peer.stepDue = true → d.rosterEpoch ≠ 0 → d.inRoster d.seat = true → ends (.time p) fun t =>
        t.dev.clock = ((Int.ofNat d.clock + 10 * off) % (10 * 2 ^ 64)).toNat ∧ t.dev.peer.stepDue = false ∧ t.dev.peer.steer = 0 ∧
        (d.untraced → t.dev.newest = some 0xA00B))) ∧
    (∀ f fs, x.resend = f :: fs → d.clock < x.progress + 10000 * d.rf (Reg.portCtl p) 31 16 →
      exec (.resendTimeout p) s = .next s) ∧
    (d.ackArrived p = true → exec (.resendTimeout p) s = .next s) ∧
    (∀ f fs, x.resend = f :: fs → x.progress + 10000 * d.rf (Reg.portCtl p) 31 16 ≤ d.clock → room → x.back ≠ some f.seq →
      0 < d.rf (Reg.portCtl p) 11 8 → d.ackArrived p = false → free → ends (.resendTimeout p) fun t => (t.dev.port p).back = some f.seq ∧
        (t.dev.port p).resend = x.resend ∧ t.dev.out.length ≥ d.out.length + x.resend.length ∧
        t.dev.rf (Reg.linkCnt p) 15 0 = Nat.min 65535 (d.rf (Reg.linkCnt p) 15 0 + 1))

/-- HELLO, CERT, PROOF, IDENT_TIMEOUT, PEER_PACKET_SEND, PEER_PACKET_RECEIVE, LEDGER_TIMEOUT and MSG_TX (R469 to R472, R480 to R483, R491 to
R493, R500): a port is up once its partner's HELLO, certificate chain and PROOF pass, and is fenced by one that fails; a request to
another seat enters the ledger, waits for it behind those that wait, or, where no route leads there, is answered poisoned at once; a
received packet is discarded, delivered, ringed or forwarded, after those that have waited longer for the same output; what has arrived
wins over its timeout. -/
def Obligations.PartnersAreIdentifiedAndPacketsCross : Prop :=
  ∀ (s : State) (p : Nat), s.dev.power.input = true → p < 16 →
    let d := s.dev
    let x := d.port p
    let st := d.portState p
    let ends := fun (c : Instr) (f : State → Prop) => ∃ t, exec c s = .next t ∧ t.mem = s.mem ∧ f t
    let fenced := fun (t : State) => t.dev.portState p = 5 ∧ t.dev.rf (Reg.portStat p) 11 8 = 4
    (∀ msg v, st ≠ 3 → exec (.hello p msg) s = .next s ∧ exec (.cert p msg) s = .next s ∧ exec (.proof p msg v) s = .next s ∧
      exec (.identTimeout p) s = .next s) ∧
    (∀ msg, st = 3 →
      (x.hello = none → leAt msg 5 1 = 1 → ends (.hello p msg) fun t => (t.dev.port p).hello = some (slice msg 0 64) ∧
        t.dev.portState p = 3) ∧
      (x.hello ≠ none ∨ leAt msg 5 1 ≠ 1 → ends (.hello p msg) fenced) ∧
      (let k := x.cert.getD ⟨0, leAt msg 6 2, leAt msg 10 4, []⟩
       (leAt msg 4 2 = k.next → k.count = leAt msg 6 2 → k.total = leAt msg 10 4 → ends (.cert p msg) fun t =>
         (t.dev.port p).cert = some ⟨k.next + 1, k.count, k.total, k.bytes ++ slice msg 16 (leAt msg 8 2)⟩) ∧
       (leAt msg 4 2 ≠ k.next ∨ k.count ≠ leAt msg 6 2 ∨ k.total ≠ leAt msg 10 4 → ends (.cert p msg) fenced)) ∧
      (∀ v, x.hello = none ∨ v.chainOk = false ∨ v.signatureOk = false → ends (.proof p msg v) fenced) ∧
      (∀ v, x.linkedAt + 10000000 * d.rf Reg.tableCtl 55 48 < d.clock → ends (.proof p msg v) fenced) ∧
      (∀ (v : IdentityVerdict) h k, x.hello = some h → x.cert = some k → k.next = k.count → k.bytes.length = k.total →
        d.clock ≤ x.linkedAt + 10000000 * d.rf Reg.tableCtl 55 48 → v.chainOk = true → v.signatureOk = true →
        let seat := leAt h 4 1 % 16
        let other := (d.port (if p % 2 = 0 then p + 1 else p - 1)).serial
        seat ≠ d.seat → seat = d.portSeat p → other = none ∨ other = some (slice h 12 12) → ends (.proof p msg v) fun t =>
          t.dev.portState p = 4 ∧ t.dev.rf (Reg.portStat p) 7 4 = seat ∧ (t.dev.port p).serial = some (slice h 12 12)) ∧
      (d.clock < x.linkedAt + 10000000 * d.rf Reg.tableCtl 55 48 → exec (.identTimeout p) s = .next s) ∧
      (x.proofArrived = true → exec (.identTimeout p) s = .next s) ∧
      (x.proofArrived = false → x.linkedAt + 10000000 * d.rf Reg.tableCtl 55 48 ≤ d.clock → ends (.identTimeout p) fenced)) ∧
    (∀ pk : Packet,
      let seat := leAt pk.payload 0 1 % 16
      let h : Header := { headerOf (leAt pk.payload 8 16) with poison := (headerOf (leAt pk.payload 8 16)).poison || pk.hdr.poison }
      let route := d.egress seat h.opTag.toNat 0
      (pk.hdr.dstDie ≠ 8 ∨ pk.hdr.dstUnit ≠ 0x31 → exec (.peerPacketSend pk) s = .next s) ∧
      (pk.hdr.dstDie = 8 → pk.hdr.dstUnit = 0x31 → pk.hdr.vnet = 0 →
        (4096 ≤ d.peer.ledger.length ∨ d.peer.waiting ≠ [] → route ≠ none → ends (.peerPacketSend pk) fun t =>
          t.dev.peer.waiting = d.peer.waiting ++ [pk] ∧ t.dev.peer.ledger = d.peer.ledger) ∧
        (route = none → ends (.peerPacketSend pk) fun t =>
          .packet ⟨responseHdr h true (srcHub 0x31 0), []⟩ ∈ t.dev.out ∧ t.dev.peer.ledger = d.peer.ledger ∧
            t.dev.peer.waiting = d.peer.waiting) ∧
        (∀ e, d.peer.ledger.length < 4096 → d.peer.waiting = [] → route = some e → ends (.peerPacketSend pk) fun t =>
          t.dev.peer.ledger = tput d.peer.ledger (freeKey d.peer.ledger) ⟨seat, h, d.clock, e, false⟩)) ∧
      (∀ k e, pk.hdr.dstDie = 8 → pk.hdr.dstUnit = 0x31 → pk.hdr.vnet = 1 → d.proxyOf pk.hdr = some (k, e) →
        ends (.peerPacketSend pk) fun t => t.dev.peer.proxy = tdel d.peer.proxy k)) ∧
    (x.buffer = [] → exec (.peerPacketReceive p) s = .next s) ∧
    (∀ pk : PeerPacket, x.buffer = [pk] →
      let c := Instr.peerPacketReceive p
      let r := leAt pk.bytes 2 2
      let dst := leAt pk.bytes 0 1 % 16
      let q := packetParts pk.bytes
      (r ≠ d.rosterEpoch → r ≠ d.rf Reg.rosterCtl 31 16 → d.rbit Reg.rosterCtl 48 = false → pk.vc / 2 ≠ 3 → ends c fun t =>
        (t.dev.port p).buffer = [] ∧ t.dev.rf (Reg.linkCnt p) 63 48 = Nat.min 65535 (d.rf (Reg.linkCnt p) 63 48 + 1)) ∧
      (d.olderWaits p pk = true → exec c s = .next s) ∧
      (r = d.rosterEpoch → r ≠ 0 → d.inRoster (leAt pk.bytes 0 1 / 16) = true → d.olderWaits p pk = false →
        (dst = d.seat → dst ≠ 0xF → pk.vc / 2 = 0 → d.peer.proxy.length < 4096 → ends c fun t => (t.dev.port p).buffer = [] ∧
          t.dev.peer.proxy = tput d.peer.proxy (freeKey d.peer.proxy) ⟨leAt pk.bytes 0 1 / 16, q.2.1⟩ ∧
          .packet ⟨{ q.2.1 with srcDie := 8, srcCluster := 0, srcCore := 0xFF, srcUnit := 0x31 }, q.2.2⟩ ∈ t.dev.out) ∧
        (dst = d.seat → dst ≠ 0xF → pk.vc / 2 = 3 → toSteward q.2.1 = true → messageType (leAt q.2.2 0 1) = true →
          d.msgFull = false →
          let tail := d.rf Reg.msgRx 25 16
          ∃ t, exec c s = .next t ∧ (t.dev.port p).buffer = [] ∧ t.dev.rf Reg.msgRx 25 16 = (tail + 1) % 1024 ∧
            (t.dev.core (steward q.2.1.dstCore.toNat)).csr.ipend.getLsbD 4 = true ∧
            t.mem = (s.store (hubStoreAddr (0x3F0_0000 + 1024 * tail)) (headerBytes q.2.1 ++ leBytes 1 (leAt pk.bytes 0 1 / 16) ++ [0]
              ++ slice pk.bytes 2 2 ++ [0, 0, 0, 0] ++ q.2.2) q.2.1.poison).mem) ∧
        (∀ e, dst ≠ d.seat → dst ≠ 0xF → d.inRoster dst = true → d.noQuorum = false → pk.vc % 2 = 0 → d.portToward dst q.2.1.opTag.toNat = some e →
          (d.port e).hold = true → ends c fun t => (t.dev.port p).buffer = [] ∧
            (t.dev.port e).queue = (d.port e).queue ++ [⟨pk.vc + 1, setAt pk.bytes 1 1, none, d.clock⟩]))) ∧
    (∀ k e, tfind d.peer.ledger k = some e →
      (d.clock < e.since + 10000000 * d.rf Reg.tableCtl 63 56 → exec (.ledgerTimeout k) s = .next s) ∧
      (d.responseArrived k = true → exec (.ledgerTimeout k) s = .next s) ∧
      (d.responseArrived k = false → e.since + 10000000 * d.rf Reg.tableCtl 63 56 ≤ d.clock → d.peer.waiting = [] → ends (.ledgerTimeout k) fun t =>
        t.dev.peer.ledger = tdel d.peer.ledger k ∧
        t.dev.out = d.out ++ [.packet ⟨responseHdr e.hdr true (srcHub 0x31 0), []⟩])) ∧
    (∀ v : W64,
      let seat := v.toNat % 16
      let len := bitsOf v.toNat 17 8
      let m := s.load (hubStoreAddr (8 * bitsOf v.toNat 42 20)) len
      (9 ≤ seat ∨ len < 4 ∨ 1000 < len ∨ messageType (leAt m.1 0 1) = false → exec (.msgTx v) s = .next s) ∧
      (∀ e, seat < 9 → 4 ≤ len → len ≤ 1000 → messageType (leAt m.1 0 1) = true → d.egress seat 0 3 = some e →
        (d.port e).hold = true → ends (.msgTx v) fun t => (t.dev.port e).queue = (d.port e).queue ++
          [⟨6, seatWord seat d.seat 0 d.rosterEpoch ++
            headerBytes { messageHdr (bitsOf v.toNat 5 4) len with poison := m.2 } ++ m.1, none, d.clock⟩]))

/-- JOIN, LEAVE, TABLE_LEAVE, REPORT, PROPOSE, ACCEPT, COMMIT_MESSAGE, SYNC, ROSTER_TIMEOUT, FORM_TIMEOUT, ROSTER_COMMIT and
LEADER_WAIT_EXPIRY (R488, R494 to R498): the leader notes joiners, leavers and LIVE masks and waits 100 µs; it proposes when a wait
or timeout is over, or has no quorum; a newer proposal of the leader is accepted and answered; the last ACCEPT, a COMMIT or a write
of COMMIT makes the pending roster current. -/
def Obligations.RostersAreProposedAndCommitted : Prop :=
  ∀ (s : State) (seat : Nat), s.dev.power.input = true → seat < 9 →
    let d := s.dev
    let ends := fun (c : Instr) (f : State → Prop) => ∃ t, exec c s = .next t ∧ t.mem = s.mem ∧ f t
    let waits := fun (t : State) => t.dev.peer.waitUntil = some (d.peer.waitUntil.getD (d.clock + 1000000))
    let proposes := fun (t : State) =>
      (t.dev.rf Reg.tableStat 13 12 = 2 ∧ t.dev.peer.proposal = none ∧ (d.keep d.candidates).length < d.quorum) ∨
      (d.quorum ≤ (d.keep d.candidates).length ∧ t.dev.rbit Reg.rosterCtl 48 = true ∧
        ∃ pr, t.dev.peer.proposal = some pr ∧ pr.accepted = [d.seat] ∧ pr.since = d.clock ∧
          pr.kept = (if d.rosterEpoch = 0 then d.keep d.candidates else d.keep d.candidates ++ d.joining) ∧
          t.dev.rf Reg.rosterCtl 47 32 = pr.epoch % 65536 ∧ ∀ k < 9, t.dev.reg (Reg.rosterNext k) = pr.entries.getD k 0)
    let committed := fun (c : Instr) => ∃ t, exec c s = .next t ∧ t.dev.rf Reg.rosterCtl 15 0 = d.rf Reg.rosterCtl 47 32 ∧
      t.dev.rf Reg.rosterCtl 31 16 = d.rosterEpoch ∧ ∀ k < 9, t.dev.reg (Reg.roster k) = d.reg (Reg.rosterNext k)
    (d.leads = true → d.inRoster seat = false → ends (.join seat) fun t => seat ∈ t.dev.peer.joiners ∧ waits t) ∧
    (d.leads = true → d.inRoster seat = true → ends (.leave seat) fun t => seat ∈ t.dev.peer.left ∧ waits t) ∧
    (d.leads = false → ends (.join seat) (fun t => t.dev.peer = d.peer) ∧ ends (.leave seat) (fun t => t.dev.peer = d.peer) ∧
      ends (.sync seat) fun t => t.dev.peer = d.peer ∧ t.dev.ports = d.ports) ∧
    (ends .tableLeave fun t => t.dev.rbit Reg.tableCtl 8 = true ∧
      (d.leads = true → d.inRoster d.seat = true → d.seat < 9 → d.seat ∈ t.dev.peer.left ∧ waits t)) ∧
    (∀ live, ends (.report seat live none) fun t => tfind t.dev.peer.live seat = some (live % 512) ∧ (d.leads = true → waits t)) ∧
    (∀ (epoch : W16) es, epoch ≠ 0 → d.rosterEpoch = 0 ∨ epochAfter epoch.toNat d.rosterEpoch = true →
      d.rbit Reg.rosterCtl 48 = false → seat = d.leaderNow → ends (.propose seat epoch es) fun t =>
        t.dev.rbit Reg.rosterCtl 48 = true ∧ t.dev.rf Reg.rosterCtl 47 32 = epoch.toNat ∧ t.dev.peer.proposer = seat ∧
        t.dev.rosterEpoch = d.rosterEpoch ∧ ∀ k < 9, t.dev.reg (Reg.rosterNext k) = es.getD k 0) ∧
    (∀ (epoch : W16) es, epoch = 0 ∨ (d.rosterEpoch ≠ 0 ∧ epochAfter epoch.toNat d.rosterEpoch = false) →
      ends (.propose seat epoch es) fun t => t.dev.reg Reg.rosterCtl = d.reg Reg.rosterCtl ∧ t.dev.peer = d.peer) ∧
    (∀ pr (epoch : W16) live, d.peer.proposal = some pr → pr.epoch = epoch.toNat → seat ∈ pr.kept →
      ((∃ k ∈ pr.kept, k ≠ seat ∧ k ∉ pr.accepted) → ends (.accept seat epoch live) fun t => t.dev.rosterEpoch = d.rosterEpoch ∧
        t.dev.peer.proposal = some { pr with accepted := sinsert pr.accepted seat }) ∧
      ((∀ k ∈ pr.kept, k = seat ∨ k ∈ pr.accepted) → d.noQuorum = false → committed (.accept seat epoch live))) ∧
    (∀ (epoch : W16) es, d.rbit Reg.rosterCtl 48 = true → d.rf Reg.rosterCtl 47 32 = epoch.toNat → d.noQuorum = false →
      committed (.commitMessage seat epoch es)) ∧
    (d.rbit Reg.rosterCtl 48 = true → d.noQuorum = false → committed .rosterCommit) ∧
    (d.rbit Reg.rosterCtl 48 = false ∨ d.noQuorum = true → exec .rosterCommit s = .next s) ∧
    (∀ e, d.leads = true → seat ≠ d.seat → d.egress seat 0 3 = some e → (d.port e).hold = true → ends (.sync seat) fun t =>
      ∃ b, (t.dev.port e).queue = (d.port e).queue ++ [⟨6, b, none, d.clock⟩] ∧ leAt b 24 1 = 0x15) ∧
    (∀ t0, d.peer.waitUntil = some t0 → (d.clock < t0 → exec .leaderWaitExpiry s = .next s) ∧
      (t0 ≤ d.clock → d.leads = true → ends .leaderWaitExpiry proposes)) ∧
    (∀ t0, d.peer.firstUp = some t0 → d.rosterEpoch = 0 → d.leaderNow = d.seat → d.peer.proposal = none →
      (d.clock < t0 + 10000000 * d.rf Reg.tableCtl 47 32 → exec .formTimeout s = .next s) ∧
      (t0 + 10000000 * d.rf Reg.tableCtl 47 32 ≤ d.clock → ends .formTimeout proposes)) ∧
    (∀ pr, d.peer.proposal = some pr →
      (d.clock < pr.since + 10000 * d.rf Reg.tableCtl 31 16 → exec .rosterTimeout s = .next s) ∧
      (s.muteSeats pr = [] → exec .rosterTimeout s = .next s) ∧
      (pr.since + 10000 * d.rf Reg.tableCtl 31 16 ≤ d.clock → s.muteSeats pr ≠ [] → ends .rosterTimeout fun t =>
        (∀ k ∈ s.muteSeats pr, k ∈ t.dev.peer.silent) ∧
        (d.rf Reg.msgRx 25 16 = d.rf Reg.msgRx 9 0 → ∀ k ∈ pr.kept, k ∉ pr.accepted → k ∈ t.dev.peer.silent)))

/-- TIME_REQUEST_TIMER, PTM_RESULT, SLOT_LOSS, GO, CKPT_DONE, CKPT_STORE_WRITE, SURV_REG_WRITE, CKPT_REQ, ODDS_TIMER and ODDS (R503, R513,
R514 to R516, R519, R521 to R523, R526, R613): the reference is asked for its time; a seat sends its slot loss, its SUM and CRC, to the leader, which sends GO once every slot has reported; a
seat logs the GO it holds; it closes its part of a checkpoint with a manifest whose CRC stands at its end; the last CKPT_DONE
completes the checkpoint, a new store makes it fail; the largest of the seats' odds is the table's. -/
def Obligations.StepsAreLoggedAndCheckpointed : Prop :=
  ∀ s : State, s.dev.power.input = true →
    let d := s.dev
    let ends := fun (c : Instr) (f : State → Prop) => ∃ t, exec c s = .next t ∧ t.mem = s.mem ∧ f t
    (9 ≤ d.timeRef → exec .timeRequestTimer s = .next s) ∧
    (∀ t0, d.peer.asked = some t0 → d.clock < t0 + 10000000 → exec .timeRequestTimer s = .next s) ∧
    (d.timeRef < 9 → (∀ t0, d.peer.asked = some t0 → t0 + 10000000 ≤ d.clock) →
      let p := if d.portUp (d.firstPort d.timeRef) then d.firstPort d.timeRef else d.firstPort d.timeRef + 1
      ends .timeRequestTimer fun t => t.dev.peer.asked = some d.clock ∧ (d.holdOut (txChute p) = false →
        ∃ fb, t.dev.out = d.out ++ [.flit p fb] ∧ leAt fb 8 1 = 3 ∧ leAt fb 9 1 = 0 ∧ leAt fb 16 8 = d.ns % 2 ^ 64)) ∧
    (∀ off : Int, -(2 ^ 31) ≤ off → off < 2 ^ 31 →
      let steps := d.peer.ptmFirst = none ∧ d.rosterEpoch = 0 ∧ (1000 < off ∨ off < -1000)
      ends (.ptmResult off) fun t => t.dev.rbit Reg.timeStat 5 = true ∧ t.dev.rf Reg.timeStat 39 8 = (off % 2 ^ 32).toNat ∧
        t.dev.peer.ptmAt = some t.dev.clock ∧ t.dev.peer.ptmFirst.isSome = true ∧
        (¬ steps → t.dev.clock = d.clock) ∧
        (steps → t.dev.clock = ((Int.ofNat d.clock + 10 * off) % (10 * 2 ^ 64)).toNat ∧
          (d.untraced → t.dev.newest = some 0xA00B)) ∧
        (steps → t.dev.peer.steer = 0) ∧
        (¬ steps → d.rosterEpoch = 0 ∨ d.rf Reg.tableStat 11 8 = d.seat → t.dev.peer.steer = 10 * off)) ∧
    (∀ slot step sum crc, d.slotOf d.seat = some slot →
      (s.shadowWaits = true → exec (.slotLoss slot step sum crc) s = .next s) ∧
      (∀ p, s.shadowWaits = false → d.leads = false → d.leaderNow ≠ 0xF → d.egress d.leaderNow 0 3 = some p → (d.port p).hold = true →
        ends (.slotLoss slot step sum crc) fun t => ∃ b, (t.dev.port p).queue = (d.port p).queue ++ [⟨6, b, none, d.clock⟩] ∧
          leAt b 24 1 = 0x40 ∧ leAt b 28 4 = step % 2 ^ 32 ∧ leAt b 32 1 = slot % 256 ∧ leAt b 33 4 = (lossSum d.lossFields).toNat ∧
          leAt b 37 4 = crc32c (d.lossFields.flatMap fun w => leBytes 4 w) % 2 ^ 32)) ∧
    (∀ slot step sum crc, d.slotOf d.seat ≠ some slot →
      (d.leads = false → ends (.slotLoss slot step sum crc) fun t => t.dev.surv = d.surv) ∧
      (d.leads = true → (d.seatOfSlot slot).isSome = true →
        ((∃ n ∈ d.servedSlots, n ≠ slot ∧ ∀ l ∈ d.surv.losses, ¬ (l.1 = step ∧ l.2.1 = n)) →
          ends (.slotLoss slot step sum crc) fun t => (step, slot, sum, crc) ∈ t.dev.surv.losses ∧ t.dev.surv.go = d.surv.go) ∧
        ((∀ n ∈ d.servedSlots, n = slot ∨ ∃ l ∈ d.surv.losses, l.1 = step ∧ l.2.1 = n) → d.survMode = 0 →
          ends (.slotLoss slot step sum crc) fun t => t.dev.surv.go = some (step % 2 ^ 32) ∧
            (t.dev.surv.log.head?.map fun r => leAt r 0 4) = some (step % 2 ^ 32)))) ∧
    (∀ record, ends (.go record) fun t => t.dev.surv.go = some (leAt record 0 4) ∧
      t.dev.surv.log = (slice record 0 64 :: d.surv.log).take 1024 ∧
      (bitAt (leAt record 8 1) 0 = true → t.dev.surv.ckpt = some ⟨leAt record 0 4, leAt record 9 1, [], []⟩) ∧
      (bitAt (leAt record 8 1) 0 = false → t.dev.surv.ckpt = d.surv.ckpt)) ∧
    (∀ step slot crc, d.surv.ckpt = none → ends (.ckptDone step slot crc) fun t => t.dev.surv = d.surv) ∧
    (∀ step slot crc, d.slotOf d.seat = some slot → d.rbit Reg.ckptStore 0 = false →
      exec (.ckptDone step slot crc) s = .next s) ∧
    (∀ k slot crc, d.surv.ckpt = some k → d.slotOf d.seat = some slot → tfind k.done slot = none →
      d.rbit Reg.ckptStore 0 = true → ((s.manifest k slot).any fun b => b.2) = false →
      (∀ cl, clusterPresent cl = true → d.clusterUsed cl = true → k.step < d.rf (Reg.wcStep cl) 31 0) →
      ∃ t m, exec (.ckptDone k.step slot crc) s = .next t ∧ .hostWrite 0 none (d.storeAddr k.gen slot 0) m false ∈ t.dev.out ∧
        m.length = 65536 ∧ leAt m 0 4 = k.step % 2 ^ 32 ∧ leAt m 4 2 = d.rosterEpoch % 2 ^ 16 ∧ leAt m 6 1 = slot % 256 ∧
        leAt m 65532 4 = crc32c (m.take 65532) % 2 ^ 32) ∧
    (∀ k slot crc, d.surv.ckpt = some k → d.slotOf d.seat ≠ some slot → (d.seatOfSlot slot).isSome = true →
      ((∃ n ∈ d.servedSlots, n ≠ slot ∧ tfind k.done n = none) → ends (.ckptDone k.step slot crc) fun t =>
        t.dev.surv.ckpt = some { k with done := tput k.done slot crc }) ∧
      ((∀ n ∈ d.servedSlots, n = slot ∨ (tfind k.done n).isSome = true) → ∃ t, exec (.ckptDone k.step slot crc) s = .next t ∧
        t.dev.surv.ckpt = none ∧ t.dev.surv.fresh = false ∧ t.dev.rf Reg.survStat 63 32 = k.step % 2 ^ 32 ∧
        t.dev.rbit Reg.survStat 5 = true ∧ t.dev.rf Reg.survStat 4 4 = k.gen % 2 ∧
        (d.untraced → t.dev.newest = some 0xB001))) ∧
    (∀ v : W64, ends (.ckptStoreWrite v) fun t => t.dev.rbit Reg.ckptStore 0 = v.getLsbD 0 ∧
      t.dev.rf Reg.ckptStore 63 12 = bitsOf v.toNat 63 12 ∧ t.dev.surv.ckpt = none ∧
      (d.surv.ckpt ≠ none → t.dev.surv.fresh = true ∧ (d.untraced → t.dev.newest = some 0xB002))) ∧
    (∀ v : W64, (v.getLsbD 0 = false → exec (.survRegWrite v) s = .next (s.onDev fun d => d.writeFields Reg.survReg v)) ∧
      (v.getLsbD 0 = true → ∃ t, exec (.survRegWrite v) s = .next t ∧
        let base := bitsOf v.toNat 51 12 * 4096
        t.dev.surv.registry.map RegEntry.tensor =
          (List.range (s.loadN base 4 % 65536)).map fun i => s.loadN (base + 64 * (i + 1)) 4)) ∧
    (∀ step, (d.leads = true → ends (.ckptReq step) fun t => t.dev.surv.requests = sinsert d.surv.requests step) ∧
      (d.leads = false → exec (.ckptReq step) s = .next s)) ∧
    (d.rosterEpoch = 0 → ends .oddsTimer fun t =>
      let cs := (d.oddsSample.2 :: d.surv.counts).take 60
      let sum := fun f : Nat × Nat × Nat × Nat → Nat => (cs.map f).sum
      t.dev.surv.counts = cs ∧ t.dev.rf Reg.odds 15 0 = (seatOdds (sum fun c => c.1) (sum fun c => c.2.1) (sum fun c => c.2.2.1)
        (d.oddsSample.2.2.2.2 - (d.surv.counts.getD 59 (0, 0, 0, 0)).2.2.2) (d.rf Reg.thermStat 31 24) d.reservesUsed
        (d.regN Reg.oddsW) (d.regN Reg.oddsRef)).2 % 65536) ∧
    (∀ seat v, (d.leads = false → ends (.odds seat v) fun t => t.dev.surv = d.surv) ∧
      (d.leads = true → d.surv.odds = [] → ends (.odds seat v) fun t => t.dev.surv.odds = [(seat, v, d.clock)] ∧
        t.dev.rf Reg.odds 31 16 = (if d.inRoster seat then v % 65536 else 0)))

/-- HALTED, HALT_TIMEOUT, RESTORE, FILL_DONE, RESUME, SEAT_TO_SEAT, DEVICE_TO_STORE, STORE_TO_DEVICE, CORE_PROBE_TIMEOUT and CORE_RELAUNCH
(R518, R522, R528 to R533, R537 to R542): the leader restores once every kept seat is halted; a fill or a rollback begins, and ends in
verification; the mover carries out the command at the head of its ring; a core that fails gives its place to a reserve core and
its part of a launch starts again. -/
def Obligations.TablesHaltRestoreAndResume : Prop :=
  ∀ s : State, s.dev.power.input = true →
    let d := s.dev
    let ends := fun (c : Instr) (f : State → Prop) => ∃ t, exec c s = .next t ∧ t.mem = s.mem ∧ f t
    let head := d.rf Reg.moveRing 46 40
    let moved := fun (errors : Nat) (t : State) => t.dev.rf Reg.moveRing 46 40 = (head + 1) % (4 * 2 ^ d.rf Reg.moveRing 3 1) % 128 ∧
      t.dev.rf Reg.moveRing 63 48 = Nat.min 65535 (d.rf Reg.moveRing 63 48 + errors)
    (∀ seat (epoch : W16), (d.leads = false ∨ epoch.toNat ≠ d.rosterEpoch → ends (.halted seat epoch) fun t => t.dev.surv = d.surv) ∧
      (d.leads = true → epoch.toNat = d.rosterEpoch → ∃ t, exec (.halted seat epoch) s = .next t ∧ seat ∈ t.dev.surv.halted ∧
        ((∃ m ∈ d.members, m ≠ seat ∧ m ∉ d.surv.halted) → t.mem = s.mem ∧ t.dev.survMode = d.survMode) ∧
        ∀ slot n, d.surv.lost = some (slot, n) → (∀ m ∈ d.members, m = seat ∨ m ∈ d.surv.halted) → d.survMode = 1 →
          (d.mustRollBack slot = false → t.dev.survMode = 2 ∧
            t.dev.surv.restoring = some (if d.surv.go = some n then n else (n + 0xFFFF_FFFF) % 2 ^ 32, 0)) ∧
          (d.mustRollBack slot = true → d.rbit Reg.survStat 5 = true → d.rbit Reg.ckptStore 0 = true →
            t.dev.survMode = 3 ∧ t.dev.surv.rolled = true))) ∧
    (d.leads = false ∨ d.survMode ≠ 1 ∨ d.clock < d.surv.haltAt + 100000000 → exec .haltTimeout s = .next s) ∧
    (d.leads = true → d.survMode = 1 → d.surv.haltAt + 100000000 ≤ d.clock → d.rf Reg.msgRx 25 16 = d.rf Reg.msgRx 9 0 →
      ends .haltTimeout fun t => ∀ m ∈ d.members, m ∉ d.surv.halted → m ∈ t.dev.peer.unheard) ∧
    (∀ point (current : W16),
      (∃ t, exec (.restore point 0 current) s = .next t ∧ t.dev.survMode = 2 ∧ t.dev.surv.restoring = some (point, 0) ∧
        t.dev.surv.go = some point ∧ (d.surv.lost = none → t.mem = s.mem ∧ (d.untraced → t.dev.newest = some 0xB00E))) ∧
      (d.rbit Reg.survStat 5 = true → d.rbit Reg.ckptStore 0 = true → ∃ t, exec (.restore point 1 current) s = .next t ∧
        t.dev.survMode = 3 ∧ t.dev.surv.rolled = true ∧ t.dev.surv.ckpt = none ∧ (d.untraced → t.dev.newest = some 0xB00B)) ∧
      (d.rbit Reg.ckptStore 0 = false → ends (.restore point 1 current) fun t => t.dev.survMode = 1 ∧
        (d.untraced → t.dev.newest = some 0xB00C))) ∧
    (∀ slot point, (d.leads = true → ∀ p0, d.surv.restoring = some (p0, 0) → d.surv.lostNext = [] →
        (d.slotOf d.seat = some slot → (d.survMode ≠ 2 ∧ d.survMode ≠ 3) ∨ d.movesDone = true) → ∃ t, exec (.fillDone slot point) s = .next t ∧ (d.slotOf d.seat ≠ some slot → t.mem = s.mem) ∧
          t.dev.survMode = 4 ∧ t.dev.surv.verify = some (point + 1)) ∧
      (d.leads = false → d.slotOf d.seat ≠ some slot → ends (.fillDone slot point) fun t => t.dev.surv = d.surv) ∧
      (d.slotOf d.seat = some slot → d.survMode = 2 → d.movesDone = false → ∃ t, exec (.fillDone slot point) s = .next t ∧
        t.mem = s.mem ∧ t.dev.surv = d.surv ∧ t.dev.survMode = 2) ∧
      (d.leads = false → d.leaderNow = 0xF → d.slotOf d.seat = some slot → d.survMode = 2 → d.movesDone = true →
        ∃ t, exec (.fillDone slot point) s = .next t ∧ (d.untraced → t.dev.newest = some 0xB007) ∧ ∀ cl, clusterPresent cl = true →
          t.dev.rf (Reg.wcStep cl) 31 0 = (point + 1) % 2 ^ 32 ∧ t.dev.rbit (Reg.wcCtl cl) 0 = true ∧ t.dev.wcState cl = 0 ∧
          (t.dev.rf (Reg.wcEpoch cl) 31 16 + 1) % 65536 = t.dev.rf (Reg.wcEpoch cl) 15 0)) ∧
    (∀ point, d.surv.lostNext = [] → ends (.resume point) fun t => t.dev.survMode = 4 ∧ t.dev.surv.verify = some (point + 1)) ∧
    (∀ point n r m, d.surv.lostNext = n :: r → d.unserved = some m →
      ∃ t, exec (.resume point) s = .next t ∧ t.dev.survMode = 5 ∧ t.dev.surv.lostNext = r ∧
        (d.untraced → t.dev.newest = some 0xB00D)) ∧
    (d.surv.moves = [] → s.moverHead = none → exec .seatToSeat s = .next s ∧ exec (.deviceToStore false) s = .next s ∧
      (∀ src, exec (.storeToDevice src) s = .next s) ∧ ends (.deviceToStore true) fun t => t.dev.surv.ckpt = none) ∧
    (∀ o c, d.surv.moves = [] → s.moverHead = some (o, c, true) → ends .seatToSeat (moved 1) ∧
      (leAt c 0 1 = 1 → ∀ we, ends (.deviceToStore we) (moved 1)) ∧ ∀ src, ends (.storeToDevice src) (moved 1)) ∧
    (∀ o c, d.surv.moves = [] → s.moverHead = some (o, c, false) →
      let n := leAt c 24 8
      (leAt c 0 1 = 0 → n % 256 ≠ 0 → ends .seatToSeat (moved 1)) ∧
      (3 ≤ leAt c 0 1 → ends .seatToSeat (moved 1)) ∧
      (leAt c 0 1 = 0 → n = 256 → leAt c 1 1 < 9 → leAt c 1 1 ≠ d.seat → s.presentRange (leAt c 8 8) n = true → ∀ e,
        d.egress (leAt c 1 1) 0 3 = some e → (d.port e).hold = true → ends .seatToSeat fun t => moved 0 t ∧
          ∃ b, (t.dev.port e).queue = (d.port e).queue ++ [⟨6, b, none, d.clock⟩] ∧
            slice b 32 256 = (List.range 256).map fun k => s.byte (leAt c 8 8 + k)) ∧
      (leAt c 0 1 = 1 → n % 256 = 0 → s.presentRange (leAt c 8 8) n = true →
        let bs := (List.range n).map fun k => s.byte (leAt c 8 8 + k)
        ∀ we, ∃ t, exec (.deviceToStore we) s = .next t ∧
          t.mem = (s.store (hubStoreAddr (o + 4)) (leBytes 4 (crc32c bs)) (s.poisoned (leAt c 8 8) n)).mem ∧
          moved (if we then 1 else 0) t ∧ (we = true → t.dev.surv.ckpt = none) ∧
          (s.poisoned (leAt c 8 8) n = false → .hostWrite 0 none (leAt c 16 8) bs false ∈ t.dev.out)) ∧
      (leAt c 0 1 = 2 → n % 256 = 0 → s.presentRange (leAt c 16 8) n = true → ∀ (bs : List Byte) q, bs.length = n →
        let given := d.manifestCrc (leAt c 16 8) n
        let fails := ∃ t, exec (.storeToDevice (.data bs q)) s = .next t ∧ moved 0 t ∧ t.dev.survMode = 1 ∧
          (d.untraced → t.dev.newest = some 0xB00C)
        (d.manifestSlot (leAt c 8 8) n = none →
          (given = none ∨ given = some (crc32c bs) ∨ (d.survMode ≠ 2 ∧ d.survMode ≠ 3) →
            ∃ t, exec (.storeToDevice (.data bs q)) s = .next t ∧ t.mem = (s.store (leAt c 16 8) bs (!q.isEmpty)).mem ∧ moved 0 t) ∧
          (∀ v, d.survMode = 3 → given = some v → v ≠ crc32c bs → fails)) ∧
        (∀ k, d.manifestSlot (leAt c 8 8) n = some k →
          (manifestOk bs = true → ∃ t, exec (.storeToDevice (.data bs q)) s = .next t ∧ moved 0 t ∧
            tfind t.dev.surv.manifests k = some bs ∧
            (d.survMode ≠ 3 → t.mem = (s.store (leAt c 16 8) bs (!q.isEmpty)).mem)) ∧
          (manifestOk bs = false → d.survMode = 3 → fails))) ∧
      (leAt c 0 1 = 2 → n % 256 = 0 → d.survMode = 3 → ends (.storeToDevice .timeout) fun t => moved 1 t ∧ t.dev.survMode = 1 ∧
        (d.untraced → t.dev.newest = some 0xB00C))) ∧
    (∀ c : CoreId, (d.core c).launch = none → exec (.coreProbeTimeout c) s = .next s) ∧
    (∀ (c : CoreId) r, (d.core c).launch ≠ none → isCompute c = true → corePresent c = true →
      c.core ∈ (d.cluster (cluOfCore c)).positions →
      ([0x20, 0x21].find? fun k => !((d.cluster (cluOfCore c)).positions.contains k)
        && !((d.cluster (cluOfCore c)).failed.contains k)) = some r → ends (.coreProbeTimeout c) fun t =>
        (t.dev.cluster (cluOfCore c)).positions = (d.cluster (cluOfCore c)).positions.map (fun j => if j = c.core then r else j) ∧
        c.core ∈ (t.dev.cluster (cluOfCore c)).failed ∧ (t.dev.core c).run = .blockReset ∧
        (t.dev.core (coreIn (cluOfCore c) r)).run = .idle ∧ (d.untraced → t.dev.newest = some 0xB004)) ∧
    (∀ c : CoreId, (d.surv.relaunch.find? fun r => decide (r.failed = coreKey c)) = none → exec (.coreRelaunch c) s = .next s) ∧
    (∀ (c : CoreId) r e k, (d.surv.relaunch.find? fun r => decide (r.failed = coreKey c)) = some r → r.target = some k →
      d.entry r.fn r.queue r.slot = some e → (d.core (coreOf k)).run = .idle → (d.core (coreOf k)).parked = false →
      d.updPending r.failed = false →
      ends (.coreRelaunch c) fun t => r ∉ t.dev.surv.relaunch ∧ (t.dev.core (coreOf k)).run = .running ∧
        (t.dev.core (coreOf k)).pc = BitVec.ofNat 64 e.a ∧ (t.dev.core (coreOf k)).getS 1 = ⟨BitVec.ofNat 64 e.b, false⟩ ∧
        (t.dev.core (coreOf k)).getS 2 = ⟨BitVec.ofNat 64 r.index, false⟩ ∧
        t.dev.reg (Reg.passStat (coreOf k)) = r.passStat)

/-- TRACE_START, TRACE_STOP, TRACE_TRIGGER, BR_FLUSH, TRACE_RESUME, TRACE_DATA_READ, DUMP and DUMP_RELEASE (R615 to R618, R620, R623 to
R629): a partition starts with its SYNC packet and stops; the first trigger is recorded; gathered outcomes and staged packets are
written; a read delivers eight bytes and moves on; a fatal event leaves a complete dump in its slot and a warm reset. -/
def Obligations.TracesAndDumpsAreWritten : Prop :=
  ∀ s : State, s.dev.power.input = true →
    let d := s.dev
    let ends := fun (c : Instr) (f : State → Prop) => ∃ t, exec c s = .next t ∧ t.mem = s.mem ∧ f t
    (∀ p, 132 ≤ p → p ≠ 0xFF → exec (.traceStart p) s = .next s ∧ exec (.traceStop p) s = .next s ∧
      exec (.traceTrigger p) s = .next s ∧ exec (.brFlush p) s = .next s ∧ exec (.traceResume p) s = .next s) ∧
    (∀ p, p < 132 →
      let on := d.rbit (Reg.traceStat p) 0
      (d.rbit Reg.memCap 7 = false → 1 ≤ d.rf (Reg.traceCtl p) 55 48 → ends (.traceStart p) fun t =>
        t.dev.rf (Reg.traceStat p) 3 0 = 1 ∧ t.dev.rf (Reg.traceStat p) 34 8 = 16 ∧ t.dev.rf (Reg.traceStat p) 63 40 = 0 ∧
        tget (t.dev.trace p).bytes 0 0 = 0x01) ∧
      (on = true → ends (.traceStop p) fun t => t.dev.rbit (Reg.traceStat p) 0 = false) ∧
      (on = false → exec (.traceStop p) s = .next s) ∧
      (on = true → d.rbit (Reg.traceStat p) 1 = false → ends (.traceTrigger p) fun t => t.dev.rbit (Reg.traceStat p) 1 = true) ∧
      (on = false ∨ d.rbit (Reg.traceStat p) 1 = true → exec (.traceTrigger p) s = .next s) ∧
      ((d.trace p).outcomes = [] ∨ d.clock < (d.trace p).brSince + 10000 → exec (.brFlush p) s = .next s) ∧
      ((d.trace p).brSince + 10000 ≤ d.clock → (d.trace p).outcomes ≠ [] → ends (.brFlush p) fun t =>
        (t.dev.trace p).outcomes = []) ∧
      (d.rbit Reg.memCap 7 = false → ends (.traceResume p) fun t => (t.dev.trace p).staged = [] ∧ (t.dev.trace p).lost = 0)) ∧
    (d.rf Reg.tracePtr 7 0 < 132 →
      let p := d.rf Reg.tracePtr 7 0
      let off := d.rf Reg.tracePtr 27 8 / 8 * 8
      let size := if p < 128 then 262144 else 1048576
      ends .traceDataRead fun t => t.dev.rf Reg.tracePtr 27 8 = (off + 8) % size ∧ t.dev.out = d.out ++ [.reg Reg.traceData
        (BitVec.ofNat 64 (leNat ((List.range 8).map fun i => tget (d.trace p).bytes 0 ((off + i) % size))))]) ∧
    (d.fatal = none → ∀ we, exec (.dump we) s = .next s) ∧
    (∀ f w, d.fatal = some f → d.dumpWriter = some w →
      (∀ we, ∃ t, exec (.dump we) s = .next t ∧ t.dev.rst.held = true ∧ t.dev.power.fault = true ∧ t.dev.fatal = none ∧
        t.dev.rbit Reg.rstCause 4 = true) ∧
      (d.rbit Reg.memCap 7 = false → ∀ we, ∃ t, exec (.dump we) s = .next t ∧
        ∀ a, ¬ (bankStart 0 ≤ a ∧ a < bankStart 1) → t.mem.get a = s.mem.get a) ∧
      (d.rbit Reg.memCap 7 = true → s.mem.wf = true → onDeadChannel d.memsys.retired (slotAddr s.dumpSlot) = false →
        let n := s.dumpSlot
        let word := fun (t : State) (o k : Nat) => leNat ((List.range k).map fun i => t.mem.get (slotAddr n + o + i))
        (∃ t, exec (.dump false) s = .next t ∧ word t 0 4 = 0x504D_4451 ∧ word t 6 1 = n ∧ word t 7 1 = 1 ∧
          t.dev.rbit Reg.dumpStat (1 + n) = true ∧ t.dev.rbit Reg.dumpStat (3 + n) = false) ∧
        ∃ t, exec (.dump true) s = .next t ∧ word t 7 1 = 0 ∧ t.dev.rbit Reg.dumpStat (1 + n) = false)) ∧
    (∀ v : W64, ends (.dumpRelease v) fun t =>
      t.dev.rf Reg.dumpCtl 1 0 = d.rf Reg.dumpCtl 1 0 ||| v.toNat % 4 ∧
      t.dev.rf Reg.dumpStat 4 3 = d.rf Reg.dumpStat 4 3 ||| v.toNat % 4)

/-! ## Reset and invariants -/

/-- After a cold reset: no command waits, every core of control is held and every compute core in service idle, and the registers
named read their reset values (R10, R545, R547, R555, R576, R582). That memory and the s and p registers read zero is the model's
choice (logs 3 and 4). -/
def Obligations.ResetLeavesTheStatedState : Prop :=
  let s := State.reset
  let d := s.dev
  s.pending = [] ∧ s.mem.wf = true ∧ (∀ a, s.mem.get a = 0) ∧ d.rst.held = true ∧ d.entries = [] ∧ d.host.ready = false ∧
  (∀ c, corePresent c = true → (d.core c).s = [] ∧ (d.core c).p = [] ∧
    (d.core c).run = (if isControl c then .held else if c.core < 32 then .idle else .off)) ∧
  d.reg Reg.rstCause = 0x101 ∧ d.rf Reg.rstStat 31 0 = 0 ∧ d.rf Reg.pwrStat 15 0 = 1600 ∧ d.rf Reg.coolReq 8 0 = 100 ∧
  d.power.fault = true ∧ d.untraced

/-- Every step keeps device memory in its canonical form: whatever a command writes, retires, copies or loses, equal memories stay
equal data. -/
def Obligations.StepsKeepMemoryCanonical : Prop :=
  ∀ s t : State, s.safe → step s = .next t → t.safe
end

