-- ==== Sys2Proof/Laws/Dispatch.lean ====
section
/-!
SUPPORT. One law per command: which meaning exec gives it. Proofs rewrite with these and never unfold exec.
-/
namespace Sys2Proof.Machine

section Commands
variable (s : State)

theorem exec_registerWrite (w : Writer) (reg : Nat) (v : W64) : exec (.registerWrite w reg v) s = execRegisterWrite w reg v s := rfl
theorem exec_routePacket (r : ClusterId) (port net : Nat) (upsets : BitVec 128) : exec (.routePacket r port net upsets) s = execRoutePacket r port net upsets s := rfl
theorem exec_chuteWrite (ch : ChuteId) (word : NarrowWord) : exec (.chuteWrite ch word) s = execChuteWrite ch word s := rfl
theorem exec_packetTakeStart (ch : ChuteId) : exec (.packetTakeStart ch) s = execPacketTakeStart ch s := rfl
theorem exec_chuteRead (ch : ChuteId) (upsets : BitVec 512) : exec (.chuteRead ch upsets) s = execChuteRead ch upsets s := rfl
theorem exec_peerHoldInAssert (port : Nat) : exec (.peerHoldInAssert port) s = execPeerHoldInAssert port s := rfl
theorem exec_peerHoldInRelease (port : Nat) : exec (.peerHoldInRelease port) s = execPeerHoldInRelease port s := rfl
theorem exec_flush (ch : ChuteId) : exec (.flush ch) s = execFlush ch s := rfl
theorem exec_chuteStatRead (ch : ChuteId) : exec (.chuteStatRead ch) s = execChuteStatRead ch s := rfl
theorem exec_cbDescWrite (cl : ClusterId) (n : Nat) (v : W64) : exec (.cbDescWrite cl n v) s = execCbDescWrite cl n v s := rfl
theorem exec_cbEntryWrite (cl : ClusterId) (n k : Nat) (v : W16) : exec (.cbEntryWrite cl n k v) s = execCbEntryWrite cl n k v s := rfl
theorem exec_tscaleEntWrite (cl : ClusterId) (i : Nat) (v : W64) : exec (.tscaleEntWrite cl i v) s = execTscaleEntWrite cl i v s := rfl
theorem exec_tscaleNextWrite (cl : ClusterId) (i : Nat) (v : W64) : exec (.tscaleNextWrite cl i v) s = execTscaleNextWrite cl i v s := rfl
theorem exec_layerDescWrite (cl : ClusterId) (n word : Nat) (v : W64) : exec (.layerDescWrite cl n word v) s = execLayerDescWrite cl n word v s := rfl
theorem exec_layerNextWrite (cl : ClusterId) (n word : Nat) (v : W64) : exec (.layerNextWrite cl n word v) s = execLayerNextWrite cl n word v s := rfl
theorem exec_wcLadderWrite (cl : ClusterId) (v : W64) : exec (.wcLadderWrite cl v) s = execWcLadderWrite cl v s := rfl
theorem exec_wcRuleWrite (cl : ClusterId) (k : Nat) (threshold : Bool) (v : W64) : exec (.wcRuleWrite cl k threshold v) s = execWcRuleWrite cl k threshold v s := rfl
theorem exec_wcStepWrite (cl : ClusterId) (seed : Bool) (v : W64) : exec (.wcStepWrite cl seed v) s = execWcStepWrite cl seed v s := rfl
theorem exec_wcEnable (cl : ClusterId) (enable : Bool) : exec (.wcEnable cl enable) s = execWcEnable cl enable s := rfl
theorem exec_close (cl : ClusterId) : exec (.close cl) s = execClose cl s := rfl
theorem exec_closeBankSwap (cl : ClusterId) : exec (.closeBankSwap cl) s = execCloseBankSwap cl s := rfl
theorem exec_commit (cl : ClusterId) : exec (.commit cl) s = execCommit cl s := rfl
theorem exec_generationSwap (cl : ClusterId) : exec (.generationSwap cl) s = execGenerationSwap cl s := rfl
theorem exec_nextCopyDone (cl : ClusterId) : exec (.nextCopyDone cl) s = execNextCopyDone cl s := rfl
theorem exec_wcAbandon (cl : ClusterId) : exec (.wcAbandon cl) s = execWcAbandon cl s := rfl
theorem exec_agreementSample (cl : ClusterId) (weights : List (List W32)) : exec (.agreementSample cl weights) s = execAgreementSample cl weights s := rfl
theorem exec_mergeTimeout (steward seat : Nat) : exec (.mergeTimeout steward seat) s = execMergeTimeout steward seat s := rfl
theorem exec_add (c : CoreId) (w : Ins) : exec (.add c w) s = execAdd c w s := rfl
theorem exec_sub (c : CoreId) (w : Ins) : exec (.sub c w) s = execSub c w s := rfl
theorem exec_mul (c : CoreId) (w : Ins) : exec (.mul c w) s = execMul c w s := rfl
theorem exec_mulh (c : CoreId) (w : Ins) : exec (.mulh c w) s = execMulh c w s := rfl
theorem exec_mulhu (c : CoreId) (w : Ins) : exec (.mulhu c w) s = execMulhu c w s := rfl
theorem exec_div (c : CoreId) (w : Ins) : exec (.div c w) s = execDiv c w s := rfl
theorem exec_divu (c : CoreId) (w : Ins) : exec (.divu c w) s = execDivu c w s := rfl
theorem exec_rem (c : CoreId) (w : Ins) : exec (.rem c w) s = execRem c w s := rfl
theorem exec_remu (c : CoreId) (w : Ins) : exec (.remu c w) s = execRemu c w s := rfl
theorem exec_and (c : CoreId) (w : Ins) : exec (.and c w) s = execAnd c w s := rfl
theorem exec_or (c : CoreId) (w : Ins) : exec (.or c w) s = execOr c w s := rfl
theorem exec_xor (c : CoreId) (w : Ins) : exec (.xor c w) s = execXor c w s := rfl
theorem exec_shl (c : CoreId) (w : Ins) : exec (.shl c w) s = execShl c w s := rfl
theorem exec_shr (c : CoreId) (w : Ins) : exec (.shr c w) s = execShr c w s := rfl
theorem exec_sra (c : CoreId) (w : Ins) : exec (.sra c w) s = execSra c w s := rfl
theorem exec_min (c : CoreId) (w : Ins) : exec (.min c w) s = execMin c w s := rfl
theorem exec_max (c : CoreId) (w : Ins) : exec (.max c w) s = execMax c w s := rfl
theorem exec_minu (c : CoreId) (w : Ins) : exec (.minu c w) s = execMinu c w s := rfl
theorem exec_maxu (c : CoreId) (w : Ins) : exec (.maxu c w) s = execMaxu c w s := rfl
theorem exec_sel (c : CoreId) (w : Ins) : exec (.sel c w) s = execSel c w s := rfl
theorem exec_clz (c : CoreId) (w : Ins) : exec (.clz c w) s = execClz c w s := rfl
theorem exec_popc (c : CoreId) (w : Ins) : exec (.popc c w) s = execPopc c w s := rfl
theorem exec_madd (c : CoreId) (w : Ins) : exec (.madd c w) s = execMadd c w s := rfl
theorem exec_addi (c : CoreId) (w : Ins) : exec (.addi c w) s = execAddi c w s := rfl
theorem exec_andi (c : CoreId) (w : Ins) : exec (.andi c w) s = execAndi c w s := rfl
theorem exec_ori (c : CoreId) (w : Ins) : exec (.ori c w) s = execOri c w s := rfl
theorem exec_xori (c : CoreId) (w : Ins) : exec (.xori c w) s = execXori c w s := rfl
theorem exec_shli (c : CoreId) (w : Ins) : exec (.shli c w) s = execShli c w s := rfl
theorem exec_shri (c : CoreId) (w : Ins) : exec (.shri c w) s = execShri c w s := rfl
theorem exec_srai (c : CoreId) (w : Ins) : exec (.srai c w) s = execSrai c w s := rfl
theorem exec_li (c : CoreId) (w : Ins) : exec (.li c w) s = execLi c w s := rfl
theorem exec_lih (c : CoreId) (w : Ins) : exec (.lih c w) s = execLih c w s := rfl
theorem exec_addpc (c : CoreId) (w : Ins) : exec (.addpc c w) s = execAddpc c w s := rfl
theorem exec_cmp (c : CoreId) (w : Ins) : exec (.cmp c w) s = execCmp c w s := rfl
theorem exec_cmpi (c : CoreId) (w : Ins) : exec (.cmpi c w) s = execCmpi c w s := rfl
theorem exec_plog (c : CoreId) (w : Ins) : exec (.plog c w) s = execPlog c w s := rfl
theorem exec_ldB (c : CoreId) (w : Ins) : exec (.ldB c w) s = execLdB c w s := rfl
theorem exec_ldBu (c : CoreId) (w : Ins) : exec (.ldBu c w) s = execLdBu c w s := rfl
theorem exec_ldH (c : CoreId) (w : Ins) : exec (.ldH c w) s = execLdH c w s := rfl
theorem exec_ldHu (c : CoreId) (w : Ins) : exec (.ldHu c w) s = execLdHu c w s := rfl
theorem exec_ldW (c : CoreId) (w : Ins) : exec (.ldW c w) s = execLdW c w s := rfl
theorem exec_ldWu (c : CoreId) (w : Ins) : exec (.ldWu c w) s = execLdWu c w s := rfl
theorem exec_ldD (c : CoreId) (w : Ins) : exec (.ldD c w) s = execLdD c w s := rfl
theorem exec_stB (c : CoreId) (w : Ins) : exec (.stB c w) s = execStB c w s := rfl
theorem exec_stH (c : CoreId) (w : Ins) : exec (.stH c w) s = execStH c w s := rfl
theorem exec_stW (c : CoreId) (w : Ins) : exec (.stW c w) s = execStW c w s := rfl
theorem exec_stD (c : CoreId) (w : Ins) : exec (.stD c w) s = execStD c w s := rfl
theorem exec_bra (c : CoreId) (w : Ins) : exec (.bra c w) s = execBra c w s := rfl
theorem exec_call (c : CoreId) (w : Ins) : exec (.call c w) s = execCall c w s := rfl
theorem exec_jmp (c : CoreId) (w : Ins) : exec (.jmp c w) s = execJmp c w s := rfl
theorem exec_jal (c : CoreId) (w : Ins) : exec (.jal c w) s = execJal c w s := rfl
theorem exec_endProgram (c : CoreId) (w : Ins) : exec (.endProgram c w) s = execEndProgram c w s := rfl
theorem exec_programEnd (c : CoreId) : exec (.programEnd c) s = execProgramEnd c s := rfl
theorem exec_trap (c : CoreId) (w : Ins) : exec (.trap c w) s = execTrap c w s := rfl
theorem exec_nop (c : CoreId) (w : Ins) : exec (.nop c w) s = execNop c w s := rfl
theorem exec_csrr (c : CoreId) (w : Ins) : exec (.csrr c w) s = execCsrr c w s := rfl
theorem exec_csrw (c : CoreId) (w : Ins) : exec (.csrw c w) s = execCsrw c w s := rfl
theorem exec_semAdd (c : CoreId) (w : Ins) : exec (.semAdd c w) s = execSemAdd c w s := rfl
theorem exec_semCas (c : CoreId) (w : Ins) : exec (.semCas c w) s = execSemCas c w s := rfl
theorem exec_semSet (c : CoreId) (w : Ins) : exec (.semSet c w) s = execSemSet c w s := rfl
theorem exec_wait (c : CoreId) (w : Ins) : exec (.wait c w) s = execWait c w s := rfl
theorem exec_waitSuccess (c : CoreId) : exec (.waitSuccess c) s = execWaitSuccess c s := rfl
theorem exec_waitTimeout (c : CoreId) : exec (.waitTimeout c) s = execWaitTimeout c s := rfl
theorem exec_fence (c : CoreId) (w : Ins) : exec (.fence c w) s = execFence c w s := rfl
theorem exec_fenceComplete (c : CoreId) : exec (.fenceComplete c) s = execFenceComplete c s := rfl
theorem exec_eret (c : CoreId) (w : Ins) : exec (.eret c w) s = execEret c w s := rfl
theorem exec_cswap (c : CoreId) (w : Ins) : exec (.cswap c w) s = execCswap c w s := rfl
theorem exec_trace (c : CoreId) (w : Ins) : exec (.trace c w) s = execTrace c w s := rfl
theorem exec_wcommit (c : CoreId) (w : Ins) : exec (.wcommit c w) s = execWcommit c w s := rfl
theorem exec_wdog (c : CoreId) (w : Ins) : exec (.wdog c w) s = execWdog c w s := rfl
theorem exec_idle (c : CoreId) (w : Ins) : exec (.idle c w) s = execIdle c w s := rfl
theorem exec_idleWake (c : CoreId) : exec (.idleWake c) s = execIdleWake c s := rfl
theorem exec_idleTimeout (c : CoreId) : exec (.idleTimeout c) s = execIdleTimeout c s := rfl
theorem exec_timerExpiry (c : CoreId) : exec (.timerExpiry c) s = execTimerExpiry c s := rfl
theorem exec_exceptionEnd (c : CoreId) : exec (.exceptionEnd c) s = execExceptionEnd c s := rfl
theorem exec_sarm (c : CoreId) (w : Ins) : exec (.sarm c w) s = execSarm c w s := rfl
theorem exec_streamArmed (c : CoreId) (h : Nat) : exec (.streamArmed c h) s = execStreamArmed c h s := rfl
theorem exec_srearm (c : CoreId) (w : Ins) : exec (.srearm c w) s = execSrearm c w s := rfl
theorem exec_rearmTakeEffect (c : CoreId) (h : Nat) : exec (.rearmTakeEffect c h) s = execRearmTakeEffect c h s := rfl
theorem exec_slink (c : CoreId) (w : Ins) : exec (.slink c w) s = execSlink c w s := rfl
theorem exec_sdrain (c : CoreId) (w : Ins) : exec (.sdrain c w) s = execSdrain c w s := rfl
theorem exec_spos (c : CoreId) (w : Ins) : exec (.spos c w) s = execSpos c w s := rfl
theorem exec_lload (c : CoreId) (w : Ins) : exec (.lload c w) s = execLload c w s := rfl
theorem exec_loadDone (c : CoreId) : exec (.loadDone c) s = execLoadDone c s := rfl
theorem exec_lswap (c : CoreId) (w : Ins) : exec (.lswap c w) s = execLswap c w s := rfl
theorem exec_swapTakeEffect (c : CoreId) : exec (.swapTakeEffect c) s = execSwapTakeEffect c s := rfl
theorem exec_lrun (c : CoreId) (w : Ins) : exec (.lrun c w) s = execLrun c w s := rfl
theorem exec_runStart (c : CoreId) : exec (.runStart c) s = execRunStart c s := rfl
theorem exec_anchorFixed (c : CoreId) : exec (.anchorFixed c) s = execAnchorFixed c s := rfl
theorem exec_passBroadcast (c : CoreId) : exec (.passBroadcast c) s = execPassBroadcast c s := rfl
theorem exec_tallyUpdate (c : CoreId) : exec (.tallyUpdate c) s = execTallyUpdate c s := rfl
theorem exec_outlierProduct (c : CoreId) : exec (.outlierProduct c) s = execOutlierProduct c s := rfl
theorem exec_runEnd (c : CoreId) : exec (.runEnd c) s = execRunEnd c s := rfl
theorem exec_ldrain (c : CoreId) (w : Ins) : exec (.ldrain c w) s = execLdrain c w s := rfl
theorem exec_drainTile (c : CoreId) : exec (.drainTile c) s = execDrainTile c s := rfl
theorem exec_cvt (c : CoreId) (w : Ins) : exec (.cvt c w) s = execCvt c w s := rfl
theorem exec_cvtin (c : CoreId) (w : Ins) : exec (.cvtin c w) s = execCvtin c w s := rfl
theorem exec_cvtout (c : CoreId) (w : Ins) : exec (.cvtout c w) s = execCvtout c w s := rfl
theorem exec_conversionExecute (c : CoreId) : exec (.conversionExecute c) s = execConversionExecute c s := rfl
theorem exec_vld (c : CoreId) (w : Ins) : exec (.vld c w) s = execVld c w s := rfl
theorem exec_vst (c : CoreId) (w : Ins) : exec (.vst c w) s = execVst c w s := rfl
theorem exec_vget (c : CoreId) (w : Ins) : exec (.vget c w) s = execVget c w s := rfl
theorem exec_vput (c : CoreId) (w : Ins) : exec (.vput c w) s = execVput c w s := rfl
theorem exec_vbcast (c : CoreId) (w : Ins) : exec (.vbcast c w) s = execVbcast c w s := rfl
theorem exec_vext (c : CoreId) (w : Ins) : exec (.vext c w) s = execVext c w s := rfl
theorem exec_vins (c : CoreId) (w : Ins) : exec (.vins c w) s = execVins c w s := rfl
theorem exec_vmov (c : CoreId) (w : Ins) : exec (.vmov c w) s = execVmov c w s := rfl
theorem exec_vcvt (c : CoreId) (w : Ins) : exec (.vcvt c w) s = execVcvt c w s := rfl
theorem exec_vadd (c : CoreId) (w : Ins) : exec (.vadd c w) s = execVadd c w s := rfl
theorem exec_vsub (c : CoreId) (w : Ins) : exec (.vsub c w) s = execVsub c w s := rfl
theorem exec_vmul (c : CoreId) (w : Ins) : exec (.vmul c w) s = execVmul c w s := rfl
theorem exec_vfma (c : CoreId) (w : Ins) : exec (.vfma c w) s = execVfma c w s := rfl
theorem exec_vmin (c : CoreId) (w : Ins) : exec (.vmin c w) s = execVmin c w s := rfl
theorem exec_vmax (c : CoreId) (w : Ins) : exec (.vmax c w) s = execVmax c w s := rfl
theorem exec_vabs (c : CoreId) (w : Ins) : exec (.vabs c w) s = execVabs c w s := rfl
theorem exec_vneg (c : CoreId) (w : Ins) : exec (.vneg c w) s = execVneg c w s := rfl
theorem exec_vrcp (c : CoreId) (w : Ins) : exec (.vrcp c w) s = execVrcp c w s := rfl
theorem exec_vrsqrt (c : CoreId) (w : Ins) : exec (.vrsqrt c w) s = execVrsqrt c w s := rfl
theorem exec_vexp2 (c : CoreId) (w : Ins) : exec (.vexp2 c w) s = execVexp2 c w s := rfl
theorem exec_vlog2 (c : CoreId) (w : Ins) : exec (.vlog2 c w) s = execVlog2 c w s := rfl
theorem exec_vcmp (c : CoreId) (w : Ins) : exec (.vcmp c w) s = execVcmp c w s := rfl
theorem exec_vsel (c : CoreId) (w : Ins) : exec (.vsel c w) s = execVsel c w s := rfl
theorem exec_vred (c : CoreId) (w : Ins) : exec (.vred c w) s = execVred c w s := rfl
theorem exec_vdiv (c : CoreId) (w : Ins) : exec (.vdiv c w) s = execVdiv c w s := rfl
theorem exec_bsave (c : CoreId) (w : Ins) : exec (.bsave c w) s = execBsave c w s := rfl
theorem exec_saveExecute (c : CoreId) : exec (.saveExecute c) s = execSaveExecute c s := rfl
theorem exec_brest (c : CoreId) (w : Ins) : exec (.brest c w) s = execBrest c w s := rfl
theorem exec_restoreExecute (c : CoreId) : exec (.restoreExecute c) s = execRestoreExecute c s := rfl
theorem exec_upd (c : CoreId) (w : Ins) : exec (.upd c w) s = execUpd c w s := rfl
theorem exec_updateProgram (cl : ClusterId) : exec (.updateProgram cl) s = execUpdateProgram cl s := rfl
theorem exec_tileRequest (c : CoreId) (h : Nat) : exec (.tileRequest c h) s = execTileRequest c h s := rfl
theorem exec_tileStaged (c : CoreId) (h tile : Nat) : exec (.tileStaged c h tile) s = execTileStaged c h tile s := rfl
theorem exec_feederRefill (c : CoreId) (feeder : Nat) : exec (.feederRefill c feeder) s = execFeederRefill c feeder s := rfl
theorem exec_tileTaken (c : CoreId) (h : Nat) : exec (.tileTaken c h) s = execTileTaken c h s := rfl
theorem exec_streamWriteTile (c : CoreId) (h : Nat) : exec (.streamWriteTile c h) s = execStreamWriteTile c h s := rfl
theorem exec_writeBufferFree (c : CoreId) (h : Nat) : exec (.writeBufferFree c h) s = execWriteBufferFree c h s := rfl
theorem exec_chainGrant (c : CoreId) (h : Nat) : exec (.chainGrant c h) s = execChainGrant c h s := rfl
theorem exec_chainTileSend (c : CoreId) (h : Nat) : exec (.chainTileSend c h) s = execChainTileSend c h s := rfl
theorem exec_chainItemReceive (c : CoreId) (h : Nat) : exec (.chainItemReceive c h) s = execChainItemReceive c h s := rfl
theorem exec_orbitCopy (c : CoreId) (h : Nat) : exec (.orbitCopy c h) s = execOrbitCopy c h s := rfl
theorem exec_orbitReady (c : CoreId) (h : Nat) : exec (.orbitReady c h) s = execOrbitReady c h s := rfl
theorem exec_memRead (src : Header) (ctl : W64) (rlen : Nat) : exec (.memRead src ctl rlen) s = execMemRead src ctl rlen s := rfl
theorem exec_memWrite (src : Header) (ctl : W64) (bytes : List Byte) : exec (.memWrite src ctl bytes) s = execMemWrite src ctl bytes s := rfl
theorem exec_setBitWrite (src : Header) (ctl : W64) (bytes : List Byte) : exec (.setBitWrite src ctl bytes) s = execSetBitWrite src ctl bytes s := rfl
theorem exec_blockArrival (addr : Nat) (fetches : List FetchErr) : exec (.blockArrival addr fetches) s = execBlockArrival addr fetches s := rfl
theorem exec_patrolRead (die chan loc blk : Nat) (fetches : List FetchErr) : exec (.patrolRead die chan loc blk fetches) s = execPatrolRead die chan loc blk fetches s := rfl
theorem exec_pageReq (die chan : Nat) (v : W64) : exec (.pageReq die chan v) s = execPageReq die chan v s := rfl
theorem exec_pageRetire (die chan : Nat) : exec (.pageRetire die chan) s = execPageRetire die chan s := rfl
theorem exec_pageCopyEnd (die : Nat) (page : PageReads) : exec (.pageCopyEnd die page) s = execPageCopyEnd die page s := rfl
theorem exec_channelRetire (die chan : Nat) (v : W64) : exec (.channelRetire die chan v) s = execChannelRetire die chan v s := rfl
theorem exec_channelTimeout (die chan : Nat) : exec (.channelTimeout die chan) s = execChannelTimeout die chan s := rfl
theorem exec_channelRemapped (die chan : Nat) : exec (.channelRemapped die chan) s = execChannelRemapped die chan s := rfl
theorem exec_xlatInv (v : W64) : exec (.xlatInv v) s = execXlatInv v s := rfl
theorem exec_xlatInvDone : exec (.xlatInvDone) s = execXlatInvDone s := rfl
theorem exec_errCntRead (die chan : Nat) : exec (.errCntRead die chan) s = execErrCntRead die chan s := rfl
theorem exec_pack (cl : ClusterId) : exec (.pack cl) s = execPack cl s := rfl
theorem exec_wireAdd (cl : ClusterId) : exec (.wireAdd cl) s = execWireAdd cl s := rfl
theorem exec_unpack (cl : ClusterId) : exec (.unpack cl) s = execUnpack cl s := rfl
theorem exec_wireRingWrite (cl : ClusterId) (v : W64) : exec (.wireRingWrite cl v) s = execWireRingWrite cl v s := rfl
theorem exec_wireStatRead (cl : ClusterId) : exec (.wireStatRead cl) s = execWireStatRead cl s := rfl
theorem exec_configRequest (fn : Nat) (write : Bool) (off size : Nat) (v : W32) : exec (.configRequest fn write off size v) s = execConfigRequest fn write off size v s := rfl
theorem exec_bar0Access (fn : Nat) (write : Bool) (off size : Nat) (v : W64) (poison : Bool) : exec (.bar0Access fn write off size v poison) s = execBar0Access fn write off size v poison s := rfl
theorem exec_apertureRead (fn off size : Nat) : exec (.apertureRead fn off size) s = execApertureRead fn off size s := rfl
theorem exec_apertureWrite (fn off : Nat) (bytes : List Byte) (poison : Bool) : exec (.apertureWrite fn off bytes poison) s = execApertureWrite fn off bytes poison s := rfl
theorem exec_fnStatRead (fn : Nat) : exec (.fnStatRead fn) s = execFnStatRead fn s := rfl
theorem exec_loadQueue (fn idx : Nat) (ctx : HostRead) : exec (.loadQueue fn idx ctx) s = execLoadQueue fn idx ctx s := rfl
theorem exec_stopQueue (fn idx : Nat) : exec (.stopQueue fn idx) s = execStopQueue fn idx s := rfl
theorem exec_stopQueueDone (fn : Nat) : exec (.stopQueueDone fn) s = execStopQueueDone fn s := rfl
theorem exec_loadCompletionRing (fn idx : Nat) (ctx : HostRead) : exec (.loadCompletionRing fn idx ctx) s = execLoadCompletionRing fn idx ctx s := rfl
theorem exec_stopCompletionRing (fn idx : Nat) : exec (.stopCompletionRing fn idx) s = execStopCompletionRing fn idx s := rfl
theorem exec_loadEventRing (fn idx : Nat) (ctx : HostRead) : exec (.loadEventRing fn idx ctx) s = execLoadEventRing fn idx ctx s := rfl
theorem exec_stopEventRing (fn idx : Nat) : exec (.stopEventRing fn idx) s = execStopEventRing fn idx s := rfl
theorem exec_sqDoorbell (fn idx size : Nat) (v : W64) (poison : Bool) : exec (.sqDoorbell fn idx size v poison) s = execSqDoorbell fn idx size v poison s := rfl
theorem exec_cqDoorbell (fn idx size : Nat) (v : W64) (poison : Bool) : exec (.cqDoorbell fn idx size v poison) s = execCqDoorbell fn idx size v poison s := rfl
theorem exec_eqDoorbell (fn idx size : Nat) (v : W64) (poison : Bool) : exec (.eqDoorbell fn idx size v poison) s = execEqDoorbell fn idx size v poison s := rfl
theorem exec_entryFetch (cl : ClusterId) (heads : List HostRead) : exec (.entryFetch cl heads) s = execEntryFetch cl heads s := rfl
theorem exec_launch (fn queue slot : Nat) : exec (.launch fn queue slot) s = execLaunch fn queue slot s := rfl
theorem exec_launchStart (fn queue slot : Nat) : exec (.launchStart fn queue slot) s = execLaunchStart fn queue slot s := rfl
theorem exec_launchTimeLimit (fn queue slot : Nat) : exec (.launchTimeLimit fn queue slot) s = execLaunchTimeLimit fn queue slot s := rfl
theorem exec_launchComplete (fn queue slot : Nat) : exec (.launchComplete fn queue slot) s = execLaunchComplete fn queue slot s := rfl
theorem exec_copy (fn queue slot : Nat) : exec (.copy fn queue slot) s = execCopy fn queue slot s := rfl
theorem exec_copyComplete (fn queue slot : Nat) (src : HostRead) : exec (.copyComplete fn queue slot src) s = execCopyComplete fn queue slot src s := rfl
theorem exec_fenceEntry (fn queue slot : Nat) : exec (.fenceEntry fn queue slot) s = execFenceEntry fn queue slot s := rfl
theorem exec_signal (fn queue slot : Nat) : exec (.signal fn queue slot) s = execSignal fn queue slot s := rfl
theorem exec_waitEntry (fn queue slot : Nat) : exec (.waitEntry fn queue slot) s = execWaitEntry fn queue slot s := rfl
theorem exec_checkpoint (fn queue slot : Nat) : exec (.checkpoint fn queue slot) s = execCheckpoint fn queue slot s := rfl
theorem exec_barrier (fn queue slot : Nat) : exec (.barrier fn queue slot) s = execBarrier fn queue slot s := rfl
theorem exec_barrierTimeout (fn queue slot : Nat) : exec (.barrierTimeout fn queue slot) s = execBarrierTimeout fn queue slot s := rfl
theorem exec_interruptModeration (fn : Nat) (event : Bool) (ring : Nat) : exec (.interruptModeration fn event ring) s = execInterruptModeration fn event ring s := rfl
theorem exec_ringStall (fn ring : Nat) : exec (.ringStall fn ring) s = execRingStall fn ring s := rfl
theorem exec_functionLevelReset (fn : Nat) : exec (.functionLevelReset fn) s = execFunctionLevelReset fn s := rfl
theorem exec_linkRetrain (rate width : Nat) (flit : Bool) : exec (.linkRetrain rate width flit) s = execLinkRetrain rate width flit s := rfl
theorem exec_fwLoad : exec (.fwLoad) s = execFwLoad s := rfl
theorem exec_fwVerifyDone (flash : List Byte) : exec (.fwVerifyDone flash) s = execFwVerifyDone flash s := rfl
theorem exec_coreSwitch (k : Nat) : exec (.coreSwitch k) s = execCoreSwitch k s := rfl
theorem exec_fwCommit : exec (.fwCommit) s = execFwCommit s := rfl
theorem exec_fwFlashDone : exec (.fwFlashDone) s = execFwFlashDone s := rfl
theorem exec_fwRevert : exec (.fwRevert) s = execFwRevert s := rfl
theorem exec_portEnable (port : Nat) (enable : Bool) : exec (.portEnable port enable) s = execPortEnable port enable s := rfl
theorem exec_portFence (port : Nat) : exec (.portFence port) s = execPortFence port s := rfl
theorem exec_unfence (port : Nat) : exec (.unfence port) s = execUnfence port s := rfl
theorem exec_codeword (port : Nat) (symbolErrors : Nat) (pair : Bool) (pcount : Nat) (bytes : List Byte) : exec (.codeword port symbolErrors pair pcount bytes) s = execCodeword port symbolErrors pair pcount bytes s := rfl
theorem exec_dataFlit (port : Nat) : exec (.dataFlit port) s = execDataFlit port s := rfl
theorem exec_idleFlit (port : Nat) : exec (.idleFlit port) s = execIdleFlit port s := rfl
theorem exec_nak (port : Nat) : exec (.nak port) s = execNak port s := rfl
theorem exec_credit (port : Nat) : exec (.credit port) s = execCredit port s := rfl
theorem exec_time (port : Nat) : exec (.time port) s = execTime port s := rfl
theorem exec_fenceFlit (port : Nat) : exec (.fenceFlit port) s = execFenceFlit port s := rfl
theorem exec_resendTimeout (port : Nat) : exec (.resendTimeout port) s = execResendTimeout port s := rfl
theorem exec_starveTimeout (port : Nat) : exec (.starveTimeout port) s = execStarveTimeout port s := rfl
theorem exec_hello (port : Nat) (msg : List Byte) : exec (.hello port msg) s = execHello port msg s := rfl
theorem exec_cert (port : Nat) (msg : List Byte) : exec (.cert port msg) s = execCert port msg s := rfl
theorem exec_proof (port : Nat) (msg : List Byte) (verdict : IdentityVerdict) : exec (.proof port msg verdict) s = execProof port msg verdict s := rfl
theorem exec_identTimeout (port : Nat) : exec (.identTimeout port) s = execIdentTimeout port s := rfl
theorem exec_peerPacketSend (pkt : Packet) : exec (.peerPacketSend pkt) s = execPeerPacketSend pkt s := rfl
theorem exec_peerPacketReceive (port : Nat) : exec (.peerPacketReceive port) s = execPeerPacketReceive port s := rfl
theorem exec_ledgerTimeout (entry : Nat) : exec (.ledgerTimeout entry) s = execLedgerTimeout entry s := rfl
theorem exec_msgTx (v : W64) : exec (.msgTx v) s = execMsgTx v s := rfl
theorem exec_join (seat : Nat) : exec (.join seat) s = execJoin seat s := rfl
theorem exec_leave (seat : Nat) : exec (.leave seat) s = execLeave seat s := rfl
theorem exec_tableLeave : exec (.tableLeave) s = execTableLeave s := rfl
theorem exec_report (seat live : Nat) (suspect : Option Nat) : exec (.report seat live suspect) s = execReport seat live suspect s := rfl
theorem exec_propose (seat : Nat) (epoch : W16) (entries : List RosterEntry) : exec (.propose seat epoch entries) s = execPropose seat epoch entries s := rfl
theorem exec_accept (seat : Nat) (epoch : W16) (live : Nat) : exec (.accept seat epoch live) s = execAccept seat epoch live s := rfl
theorem exec_commitMessage (seat : Nat) (epoch : W16) (entries : List RosterEntry) : exec (.commitMessage seat epoch entries) s = execCommitMessage seat epoch entries s := rfl
theorem exec_sync (seat : Nat) : exec (.sync seat) s = execSync seat s := rfl
theorem exec_merge (seat cluster : Nat) (words : List (Nat × W64)) (maxima : List (Nat × W32)) : exec (.merge seat cluster words maxima) s = execMerge seat cluster words maxima s := rfl
theorem exec_rosterTimeout : exec (.rosterTimeout) s = execRosterTimeout s := rfl
theorem exec_formTimeout : exec (.formTimeout) s = execFormTimeout s := rfl
theorem exec_rosterCommit : exec (.rosterCommit) s = execRosterCommit s := rfl
theorem exec_timeRequestTimer : exec (.timeRequestTimer) s = execTimeRequestTimer s := rfl
theorem exec_ptmResult (offset : Int) : exec (.ptmResult offset) s = execPtmResult offset s := rfl
theorem exec_linkCntRead (port : Nat) (fec : Bool) : exec (.linkCntRead port fec) s = execLinkCntRead port fec s := rfl
theorem exec_slotLoss (slot step : Nat) (sum crc : W32) : exec (.slotLoss slot step sum crc) s = execSlotLoss slot step sum crc s := rfl
theorem exec_go (record : List Byte) : exec (.go record) s = execGo record s := rfl
theorem exec_ckptDone (step slot : Nat) (crc : W32) : exec (.ckptDone step slot crc) s = execCkptDone step slot crc s := rfl
theorem exec_ckptStoreWrite (v : W64) : exec (.ckptStoreWrite v) s = execCkptStoreWrite v s := rfl
theorem exec_survRegWrite (v : W64) : exec (.survRegWrite v) s = execSurvRegWrite v s := rfl
theorem exec_oddsTimer : exec (.oddsTimer) s = execOddsTimer s := rfl
theorem exec_odds (seat odds : Nat) : exec (.odds seat odds) s = execOdds seat odds s := rfl
theorem exec_halted (seat : Nat) (epoch : W16) : exec (.halted seat epoch) s = execHalted seat epoch s := rfl
theorem exec_haltTimeout : exec (.haltTimeout) s = execHaltTimeout s := rfl
theorem exec_restore (point mode : Nat) (current : W16) : exec (.restore point mode current) s = execRestore point mode current s := rfl
theorem exec_fillDone (slot point : Nat) : exec (.fillDone slot point) s = execFillDone slot point s := rfl
theorem exec_resume (point : Nat) : exec (.resume point) s = execResume point s := rfl
theorem exec_ckptReq (step : Nat) : exec (.ckptReq step) s = execCkptReq step s := rfl
theorem exec_seatToSeat : exec (.seatToSeat) s = execSeatToSeat s := rfl
theorem exec_deviceToStore (writeError : Bool) : exec (.deviceToStore writeError) s = execDeviceToStore writeError s := rfl
theorem exec_storeToDevice (src : HostRead) : exec (.storeToDevice src) s = execStoreToDevice src s := rfl
theorem exec_coreProbeTimeout (c : CoreId) : exec (.coreProbeTimeout c) s = execCoreProbeTimeout c s := rfl
theorem exec_coreRelaunch (c : CoreId) : exec (.coreRelaunch c) s = execCoreRelaunch c s := rfl
theorem exec_powerOnReset (seat : BitVec 4) (feed : BitVec 2) : exec (.powerOnReset seat feed) s = execPowerOnReset seat feed s := rfl
theorem exec_moduleResetCold (w : Writer) (v : W64) : exec (.moduleResetCold w v) s = execModuleResetCold w v s := rfl
theorem exec_moduleResetWarm (w : Writer) (v : W64) : exec (.moduleResetWarm w v) s = execModuleResetWarm w v s := rfl
theorem exec_perstAssert : exec (.perstAssert) s = execPerstAssert s := rfl
theorem exec_perstPulseFiltered : exec (.perstPulseFiltered) s = execPerstPulseFiltered s := rfl
theorem exec_perstRelease : exec (.perstRelease) s = execPerstRelease s := rfl
theorem exec_watchdogExpiry (steward : Nat) : exec (.watchdogExpiry steward) s = execWatchdogExpiry steward s := rfl
theorem exec_watchdog (cl : ClusterId) : exec (.watchdog cl) s = execWatchdog cl s := rfl
theorem exec_critError (which : Nat) (correctable : Bool) : exec (.critError which correctable) s = execCritError which correctable s := rfl
theorem exec_hotReset : exec (.hotReset) s = execHotReset s := rfl
theorem exec_resetRelease (boot : BootInput) : exec (.resetRelease boot) s = execResetRelease boot s := rfl
theorem exec_blockResetAssert (w : CoreId) (v : W64) : exec (.blockResetAssert w v) s = execBlockResetAssert w v s := rfl
theorem exec_blockResetRelease (w : CoreId) (v : W64) : exec (.blockResetRelease w v) s = execBlockResetRelease w v s := rfl
theorem exec_wrapperAnswer (b : Block) (t : WrapTransfer) : exec (.wrapperAnswer b t) s = execWrapperAnswer b t s := rfl
theorem exec_optProgram : exec (.optProgram) s = execOptProgram s := rfl
theorem exec_optProgramDone : exec (.optProgramDone) s = execOptProgramDone s := rfl
theorem exec_optStatRead : exec (.optStatRead) s = execOptStatRead s := rfl
theorem exec_rstStatRead : exec (.rstStatRead) s = execRstStatRead s := rfl
theorem exec_rstCauseWrite (v : W64) : exec (.rstCauseWrite v) s = execRstCauseWrite v s := rfl
theorem exec_calibrationEnd (before after : Int) : exec (.calibrationEnd before after) s = execCalibrationEnd before after s := rfl
theorem exec_powerControlPeriod (watts millivolts : Nat) (stretched : List IslandStretch) : exec (.powerControlPeriod watts millivolts stretched) s = execPowerControlPeriod watts millivolts stretched s := rfl
theorem exec_sensorRead (readings : List (Option Int)) : exec (.sensorRead readings) s = execSensorRead readings s := rfl
theorem exec_thermalLimitStep : exec (.thermalLimitStep) s = execThermalLimitStep s := rfl
theorem exec_coolReqWrite (v : W64) : exec (.coolReqWrite v) s = execCoolReqWrite v s := rfl
theorem exec_railLeavesWindow : exec (.railLeavesWindow) s = execRailLeavesWindow s := rfl
theorem exec_inputRemoved : exec (.inputRemoved) s = execInputRemoved s := rfl
theorem exec_i3cRead (off len : Nat) : exec (.i3cRead off len) s = execI3cRead off len s := rfl
theorem exec_i3cAddressAssign (addr : BitVec 7) : exec (.i3cAddressAssign addr) s = execI3cAddressAssign addr s := rfl
theorem exec_traceStart (part : Nat) : exec (.traceStart part) s = execTraceStart part s := rfl
theorem exec_traceStop (part : Nat) : exec (.traceStop part) s = execTraceStop part s := rfl
theorem exec_traceTrigger (part : Nat) : exec (.traceTrigger part) s = execTraceTrigger part s := rfl
theorem exec_brFlush (part : Nat) : exec (.brFlush part) s = execBrFlush part s := rfl
theorem exec_traceResume (part : Nat) : exec (.traceResume part) s = execTraceResume part s := rfl
theorem exec_traceDataRead : exec (.traceDataRead) s = execTraceDataRead s := rfl
theorem exec_dump (writeError : Bool) : exec (.dump writeError) s = execDump writeError s := rfl
theorem exec_dumpRelease (v : W64) : exec (.dumpRelease v) s = execDumpRelease v s := rfl
theorem exec_leaderWaitExpiry : exec (.leaderWaitExpiry) s = execLeaderWaitExpiry s := rfl
theorem exec_waitEntryTimeout (fn queue slot : Nat) : exec (.waitEntryTimeout fn queue slot) s = execWaitEntryTimeout fn queue slot s := rfl
theorem exec_completionTimeout (fn queue slot : Nat) (addr : W64) : exec (.completionTimeout fn queue slot addr) s = execCompletionTimeout fn queue slot addr s := rfl
theorem exec_spdmRequest (version : Nat) (secured : Bool) (request : List Byte) : exec (.spdmRequest version secured request) s = execSpdmRequest version secured request s := rfl
theorem exec_atsInvalidateRequest (fn : Nat) (addr : W64) (size itag : Nat) : exec (.atsInvalidateRequest fn addr size itag) s = execAtsInvalidateRequest fn addr size itag s := rfl

end Commands

end Sys2Proof.Machine
end

