-- ==== Sys2Proof/Laws/Tables.lean ====
section
/-!
SUPPORT. Laws of the sparse tables and of the sets of numbers: what a read gives after a write, and that every
operation keeps the rising order.
-/
namespace Sys2Proof.Machine

variable {α : Type}

/-- Every key of a table lies above a bound. -/
def tabove (n : Nat) (t : Table α) : Bool := t.all fun p => decide (n < p.1)

/-! ## Reads after writes -/

@[simp] theorem tfind_nil (k : Nat) : tfind ([] : Table α) k = none := rfl

@[simp] theorem tget_nil (d : α) (k : Nat) : tget ([] : Table α) d k = d := rfl

@[simp] theorem tfind_tput_same (t : Table α) (k : Nat) (v : α) : tfind (tput t k v) k = some v := by
  induction t with
  | nil => simp [tput, tfind]
  | cons p r ih =>
    obtain ⟨j, w⟩ := p
    simp only [tput]
    split
    · simp [tfind]
    · split
      · simp [tfind]
      · rename_i _ h
        simp only [tfind, if_neg (fun e : j = k => h e.symm), ih]

theorem tfind_tput_other (t : Table α) {j k : Nat} (v : α) (h : j ≠ k) : tfind (tput t k v) j = tfind t j := by
  induction t with
  | nil => simp [tput, tfind, Ne.symm h]
  | cons p r ih =>
    obtain ⟨i, w⟩ := p
    simp only [tput]
    split
    · simp [tfind, Ne.symm h]
    · split
      · rename_i _ e
        subst e
        simp [tfind, Ne.symm h]
      · simp only [tfind, ih]

@[simp] theorem tget_tput_same (t : Table α) (d v : α) (k : Nat) : tget (tput t k v) d k = v := by simp [tget]

theorem tget_tput_other (t : Table α) (d v : α) {j k : Nat} (h : j ≠ k) : tget (tput t k v) d j = tget t d j := by
  simp only [tget, tfind_tput_other t v h]

/-- A read after a write: the value written at its key, the old value elsewhere. -/
theorem tget_tput (t : Table α) (d v : α) (j k : Nat) : tget (tput t k v) d j = if j = k then v else tget t d j := by
  split
  · rename_i h; subst h; simp
  · rename_i h; exact tget_tput_other t d v h

@[simp] theorem tput_tput (t : Table α) (k : Nat) (v w : α) : tput (tput t k v) k w = tput t k w := by
  induction t with
  | nil => simp [tput]
  | cons p r ih =>
    obtain ⟨j, x⟩ := p
    by_cases h1 : k < j
    · simp [tput, h1]
    · by_cases h2 : k = j
      · subst h2; simp [tput]
      · simp [tput, h1, h2, ih]

/-! ## The rising order -/

theorem tsorted_cons (p : Nat × α) (t : Table α) : tsorted (p :: t) = (tabove p.1 t && tsorted t) := by
  induction t generalizing p with
  | nil => rfl
  | cons q r ih =>
    have hq := ih q
    obtain ⟨j, x⟩ := p
    obtain ⟨k, y⟩ := q
    simp only [tsorted, tabove, List.all_cons]
    by_cases h : j < k
    · simp only [h, decide_true, Bool.true_and]
      rw [hq]
      cases h1 : tabove k r with
      | false => simp
      | true =>
        have : tabove j r = true := by
          simp only [tabove, List.all_eq_true, decide_eq_true_eq] at h1 ⊢
          intro z hz
          have := h1 z hz
          omega
        simp only [tabove] at this
        simp [this]
    · simp [h]

theorem tabove_tput {n : Nat} {t : Table α} {k : Nat} {v : α} (h : tabove n t = true) (hk : n < k) :
    tabove n (tput t k v) = true := by
  induction t with
  | nil => simpa [tput, tabove] using hk
  | cons p r ih =>
    obtain ⟨j, x⟩ := p
    simp only [tabove, List.all_cons, Bool.and_eq_true, decide_eq_true_eq] at h
    simp only [tput]
    split
    · simp only [tabove, List.all_cons, Bool.and_eq_true, decide_eq_true_eq]; exact ⟨hk, h⟩
    · split
      · simp only [tabove, List.all_cons, Bool.and_eq_true, decide_eq_true_eq]; exact ⟨hk, h.2⟩
      · have := ih h.2
        simp only [tabove, List.all_cons, Bool.and_eq_true, decide_eq_true_eq] at this ⊢
        exact ⟨h.1, this⟩

/-- Setting an entry keeps a table in order. -/
theorem tsorted_tput {t : Table α} {k : Nat} {v : α} (h : tsorted t = true) : tsorted (tput t k v) = true := by
  induction t with
  | nil => rfl
  | cons p r ih =>
    obtain ⟨j, x⟩ := p
    rw [tsorted_cons, Bool.and_eq_true] at h
    simp only [tput]
    split
    · rename_i hk
      rw [tsorted_cons, Bool.and_eq_true]
      refine ⟨?_, by rw [tsorted_cons, Bool.and_eq_true]; exact h⟩
      have ha := h.1
      simp only [tabove, List.all_cons, Bool.and_eq_true, decide_eq_true_eq, List.all_eq_true] at ha ⊢
      refine ⟨hk, fun z hz => ?_⟩
      have := ha z hz
      omega
    · split
      · rename_i _ e
        subst e
        rw [tsorted_cons, Bool.and_eq_true]
        exact h
      · rename_i h1 h2
        rw [tsorted_cons, Bool.and_eq_true]
        exact ⟨tabove_tput h.1 (by simp only; omega), ih h.2⟩

theorem tabove_tdel {n : Nat} {t : Table α} {k : Nat} (h : tabove n t = true) : tabove n (tdel t k) = true := by
  induction t with
  | nil => rfl
  | cons p r ih =>
    obtain ⟨j, x⟩ := p
    simp only [tabove, List.all_cons, Bool.and_eq_true, decide_eq_true_eq] at h
    simp only [tdel]
    split
    · exact h.2
    · have := ih h.2
      simp only [tabove, List.all_cons, Bool.and_eq_true, decide_eq_true_eq] at this ⊢
      exact ⟨h.1, this⟩

/-- Removing an entry keeps a table in order. -/
theorem tsorted_tdel {t : Table α} {k : Nat} (h : tsorted t = true) : tsorted (tdel t k) = true := by
  induction t with
  | nil => rfl
  | cons p r ih =>
    obtain ⟨j, x⟩ := p
    rw [tsorted_cons, Bool.and_eq_true] at h
    simp only [tdel]
    split
    · exact h.2
    · rw [tsorted_cons, Bool.and_eq_true]
      exact ⟨tabove_tdel h.1, ih h.2⟩

theorem tfind_above {t : Table α} {k : Nat} (h : tabove k t = true) : tfind t k = none := by
  induction t with
  | nil => rfl
  | cons p r ih =>
    obtain ⟨j, x⟩ := p
    simp only [tabove, List.all_cons, Bool.and_eq_true, decide_eq_true_eq] at h
    have hj : ¬ j = k := by omega
    simp only [tfind, if_neg hj]
    exact ih h.2

/-- A read after a removal, in a table in order. -/
theorem tfind_tdel {t : Table α} (j k : Nat) (h : tsorted t = true) :
    tfind (tdel t k) j = if j = k then none else tfind t j := by
  induction t with
  | nil => simp [tdel]
  | cons p r ih =>
    obtain ⟨i, x⟩ := p
    rw [tsorted_cons, Bool.and_eq_true] at h
    simp only [tdel]
    by_cases hi : i = k
    · subst hi
      simp only [if_true]
      by_cases hj : j = i
      · subst hj; simp only [if_true]; exact tfind_above h.1
      · simp only [if_neg hj, tfind, if_neg (Ne.symm hj)]
    · simp only [if_neg hi, tfind, ih h.2]
      by_cases hj : j = k
      · subst hj; simp [hi]
      · simp [hj]

theorem tget_tdel {t : Table α} (d : α) (j k : Nat) (h : tsorted t = true) :
    tget (tdel t k) d j = if j = k then d else tget t d j := by
  simp only [tget, tfind_tdel j k h]
  split <;> rfl

/-- What a filter of entries by value or key leaves of a table in order is in order. -/
theorem tsorted_filter {t : Table α} (f : Nat × α → Bool) (h : tsorted t = true) : tsorted (t.filter f) = true := by
  induction t with
  | nil => rfl
  | cons p r ih =>
    rw [tsorted_cons, Bool.and_eq_true] at h
    simp only [List.filter_cons]
    split
    · rw [tsorted_cons, Bool.and_eq_true]
      refine ⟨?_, ih h.2⟩
      have ha := h.1
      simp only [tabove, List.all_eq_true, decide_eq_true_eq, List.mem_filter] at ha ⊢
      exact fun z hz => ha z hz.1
    · exact ih h.2

/-! ## Sets of numbers -/

/-- Membership after an insertion. -/
@[simp] theorem mem_sinsert (t : List Nat) (k n : Nat) : n ∈ sinsert t k ↔ n = k ∨ n ∈ t := by
  induction t with
  | nil => simp [sinsert]
  | cons j r ih =>
    simp only [sinsert]
    split
    · simp
    · split
      · rename_i _ e; subst e; simp
      · simp only [List.mem_cons, ih]
        constructor
        · rintro (h | h | h) <;> simp [h]
        · rintro (h | h | h) <;> simp [h]

/-- Membership after a removal. -/
@[simp] theorem mem_sremove (t : List Nat) (k n : Nat) : n ∈ sremove t k ↔ n ∈ t ∧ n ≠ k := by
  simp [sremove]

end Sys2Proof.Machine
end

