-- ==== Sys2Proof/Laws/State.lean ====
section
/-!
SUPPORT. One law per field and update of the module and of the state, all true by computation, and what a named read
gives after a named write.
-/
namespace Sys2Proof.Machine

/-! ## Fields that an update leaves -/

section Fields
variable (d : Device)

@[simp] theorem Device.setReg_fresh (o : Nat) (v : W64) : (d.setReg o v).fresh = d.fresh := rfl
@[simp] theorem Device.setReg_clock (o : Nat) (v : W64) : (d.setReg o v).clock = d.clock := rfl
@[simp] theorem Device.setReg_out (o : Nat) (v : W64) : (d.setReg o v).out = d.out := rfl
@[simp] theorem Device.setReg_log (o : Nat) (v : W64) : (d.setReg o v).log = d.log := rfl
@[simp] theorem Device.setReg_fatal (o : Nat) (v : W64) : (d.setReg o v).fatal = d.fatal := rfl
@[simp] theorem Device.setReg_traces (o : Nat) (v : W64) : (d.setReg o v).traces = d.traces := rfl
@[simp] theorem Device.setReg_chutes (o : Nat) (v : W64) : (d.setReg o v).chutes = d.chutes := rfl
@[simp] theorem Device.setReg_routers (o : Nat) (v : W64) : (d.setReg o v).routers = d.routers := rfl
@[simp] theorem Device.setReg_channels (o : Nat) (v : W64) : (d.setReg o v).channels = d.channels := rfl
@[simp] theorem Device.setReg_memsys (o : Nat) (v : W64) : (d.setReg o v).memsys = d.memsys := rfl
@[simp] theorem Device.setReg_fns (o : Nat) (v : W64) : (d.setReg o v).fns = d.fns := rfl
@[simp] theorem Device.setReg_entries (o : Nat) (v : W64) : (d.setReg o v).entries = d.entries := rfl
@[simp] theorem Device.setReg_cores (o : Nat) (v : W64) : (d.setReg o v).cores = d.cores := rfl
@[simp] theorem Device.setReg_clusters (o : Nat) (v : W64) : (d.setReg o v).clusters = d.clusters := rfl
@[simp] theorem Device.setReg_tensors (o : Nat) (v : W64) : (d.setReg o v).tensors = d.tensors := rfl
@[simp] theorem Device.setReg_units (o : Nat) (v : W64) : (d.setReg o v).units = d.units := rfl
@[simp] theorem Device.setReg_surv (o : Nat) (v : W64) : (d.setReg o v).surv = d.surv := rfl
@[simp] theorem Device.setReg_host (o : Nat) (v : W64) : (d.setReg o v).host = d.host := rfl
@[simp] theorem Device.setReg_ports (o : Nat) (v : W64) : (d.setReg o v).ports = d.ports := rfl
@[simp] theorem Device.setReg_peer (o : Nat) (v : W64) : (d.setReg o v).peer = d.peer := rfl
@[simp] theorem Device.setReg_rst (o : Nat) (v : W64) : (d.setReg o v).rst = d.rst := rfl
@[simp] theorem Device.setReg_power (o : Nat) (v : W64) : (d.setReg o v).power = d.power := rfl

@[simp] theorem Device.setRegN_fresh (o v : Nat) : (d.setRegN o v).fresh = d.fresh := rfl
@[simp] theorem Device.setRegN_clock (o v : Nat) : (d.setRegN o v).clock = d.clock := rfl
@[simp] theorem Device.setRegN_out (o v : Nat) : (d.setRegN o v).out = d.out := rfl
@[simp] theorem Device.setRegN_log (o v : Nat) : (d.setRegN o v).log = d.log := rfl
@[simp] theorem Device.setRegN_fatal (o v : Nat) : (d.setRegN o v).fatal = d.fatal := rfl
@[simp] theorem Device.setRegN_traces (o v : Nat) : (d.setRegN o v).traces = d.traces := rfl
@[simp] theorem Device.setRegN_chutes (o v : Nat) : (d.setRegN o v).chutes = d.chutes := rfl
@[simp] theorem Device.setRegN_routers (o v : Nat) : (d.setRegN o v).routers = d.routers := rfl
@[simp] theorem Device.setRegN_channels (o v : Nat) : (d.setRegN o v).channels = d.channels := rfl
@[simp] theorem Device.setRegN_memsys (o v : Nat) : (d.setRegN o v).memsys = d.memsys := rfl
@[simp] theorem Device.setRegN_fns (o v : Nat) : (d.setRegN o v).fns = d.fns := rfl
@[simp] theorem Device.setRegN_entries (o v : Nat) : (d.setRegN o v).entries = d.entries := rfl
@[simp] theorem Device.setRegN_cores (o v : Nat) : (d.setRegN o v).cores = d.cores := rfl
@[simp] theorem Device.setRegN_clusters (o v : Nat) : (d.setRegN o v).clusters = d.clusters := rfl
@[simp] theorem Device.setRegN_tensors (o v : Nat) : (d.setRegN o v).tensors = d.tensors := rfl
@[simp] theorem Device.setRegN_units (o v : Nat) : (d.setRegN o v).units = d.units := rfl
@[simp] theorem Device.setRegN_surv (o v : Nat) : (d.setRegN o v).surv = d.surv := rfl
@[simp] theorem Device.setRegN_host (o v : Nat) : (d.setRegN o v).host = d.host := rfl
@[simp] theorem Device.setRegN_ports (o v : Nat) : (d.setRegN o v).ports = d.ports := rfl
@[simp] theorem Device.setRegN_peer (o v : Nat) : (d.setRegN o v).peer = d.peer := rfl
@[simp] theorem Device.setRegN_rst (o v : Nat) : (d.setRegN o v).rst = d.rst := rfl
@[simp] theorem Device.setRegN_power (o v : Nat) : (d.setRegN o v).power = d.power := rfl

@[simp] theorem Device.setRf_fresh (o hi lo v : Nat) : (d.setRf o hi lo v).fresh = d.fresh := rfl
@[simp] theorem Device.setRf_clock (o hi lo v : Nat) : (d.setRf o hi lo v).clock = d.clock := rfl
@[simp] theorem Device.setRf_out (o hi lo v : Nat) : (d.setRf o hi lo v).out = d.out := rfl
@[simp] theorem Device.setRf_log (o hi lo v : Nat) : (d.setRf o hi lo v).log = d.log := rfl
@[simp] theorem Device.setRf_fatal (o hi lo v : Nat) : (d.setRf o hi lo v).fatal = d.fatal := rfl
@[simp] theorem Device.setRf_traces (o hi lo v : Nat) : (d.setRf o hi lo v).traces = d.traces := rfl
@[simp] theorem Device.setRf_chutes (o hi lo v : Nat) : (d.setRf o hi lo v).chutes = d.chutes := rfl
@[simp] theorem Device.setRf_routers (o hi lo v : Nat) : (d.setRf o hi lo v).routers = d.routers := rfl
@[simp] theorem Device.setRf_channels (o hi lo v : Nat) : (d.setRf o hi lo v).channels = d.channels := rfl
@[simp] theorem Device.setRf_memsys (o hi lo v : Nat) : (d.setRf o hi lo v).memsys = d.memsys := rfl
@[simp] theorem Device.setRf_fns (o hi lo v : Nat) : (d.setRf o hi lo v).fns = d.fns := rfl
@[simp] theorem Device.setRf_entries (o hi lo v : Nat) : (d.setRf o hi lo v).entries = d.entries := rfl
@[simp] theorem Device.setRf_cores (o hi lo v : Nat) : (d.setRf o hi lo v).cores = d.cores := rfl
@[simp] theorem Device.setRf_clusters (o hi lo v : Nat) : (d.setRf o hi lo v).clusters = d.clusters := rfl
@[simp] theorem Device.setRf_tensors (o hi lo v : Nat) : (d.setRf o hi lo v).tensors = d.tensors := rfl
@[simp] theorem Device.setRf_units (o hi lo v : Nat) : (d.setRf o hi lo v).units = d.units := rfl
@[simp] theorem Device.setRf_surv (o hi lo v : Nat) : (d.setRf o hi lo v).surv = d.surv := rfl
@[simp] theorem Device.setRf_host (o hi lo v : Nat) : (d.setRf o hi lo v).host = d.host := rfl
@[simp] theorem Device.setRf_ports (o hi lo v : Nat) : (d.setRf o hi lo v).ports = d.ports := rfl
@[simp] theorem Device.setRf_peer (o hi lo v : Nat) : (d.setRf o hi lo v).peer = d.peer := rfl
@[simp] theorem Device.setRf_rst (o hi lo v : Nat) : (d.setRf o hi lo v).rst = d.rst := rfl
@[simp] theorem Device.setRf_power (o hi lo v : Nat) : (d.setRf o hi lo v).power = d.power := rfl

@[simp] theorem Device.addRf_fresh (o hi lo n : Nat) : (d.addRf o hi lo n).fresh = d.fresh := rfl
@[simp] theorem Device.addRf_clock (o hi lo n : Nat) : (d.addRf o hi lo n).clock = d.clock := rfl
@[simp] theorem Device.addRf_out (o hi lo n : Nat) : (d.addRf o hi lo n).out = d.out := rfl
@[simp] theorem Device.addRf_log (o hi lo n : Nat) : (d.addRf o hi lo n).log = d.log := rfl
@[simp] theorem Device.addRf_fatal (o hi lo n : Nat) : (d.addRf o hi lo n).fatal = d.fatal := rfl
@[simp] theorem Device.addRf_traces (o hi lo n : Nat) : (d.addRf o hi lo n).traces = d.traces := rfl
@[simp] theorem Device.addRf_chutes (o hi lo n : Nat) : (d.addRf o hi lo n).chutes = d.chutes := rfl
@[simp] theorem Device.addRf_routers (o hi lo n : Nat) : (d.addRf o hi lo n).routers = d.routers := rfl
@[simp] theorem Device.addRf_channels (o hi lo n : Nat) : (d.addRf o hi lo n).channels = d.channels := rfl
@[simp] theorem Device.addRf_memsys (o hi lo n : Nat) : (d.addRf o hi lo n).memsys = d.memsys := rfl
@[simp] theorem Device.addRf_fns (o hi lo n : Nat) : (d.addRf o hi lo n).fns = d.fns := rfl
@[simp] theorem Device.addRf_entries (o hi lo n : Nat) : (d.addRf o hi lo n).entries = d.entries := rfl
@[simp] theorem Device.addRf_cores (o hi lo n : Nat) : (d.addRf o hi lo n).cores = d.cores := rfl
@[simp] theorem Device.addRf_clusters (o hi lo n : Nat) : (d.addRf o hi lo n).clusters = d.clusters := rfl
@[simp] theorem Device.addRf_tensors (o hi lo n : Nat) : (d.addRf o hi lo n).tensors = d.tensors := rfl
@[simp] theorem Device.addRf_units (o hi lo n : Nat) : (d.addRf o hi lo n).units = d.units := rfl
@[simp] theorem Device.addRf_surv (o hi lo n : Nat) : (d.addRf o hi lo n).surv = d.surv := rfl
@[simp] theorem Device.addRf_host (o hi lo n : Nat) : (d.addRf o hi lo n).host = d.host := rfl
@[simp] theorem Device.addRf_ports (o hi lo n : Nat) : (d.addRf o hi lo n).ports = d.ports := rfl
@[simp] theorem Device.addRf_peer (o hi lo n : Nat) : (d.addRf o hi lo n).peer = d.peer := rfl
@[simp] theorem Device.addRf_rst (o hi lo n : Nat) : (d.addRf o hi lo n).rst = d.rst := rfl
@[simp] theorem Device.addRf_power (o hi lo n : Nat) : (d.addRf o hi lo n).power = d.power := rfl

@[simp] theorem Device.resetReg_fresh (o : Nat) : (d.resetReg o).fresh = d.fresh := rfl
@[simp] theorem Device.resetReg_clock (o : Nat) : (d.resetReg o).clock = d.clock := rfl
@[simp] theorem Device.resetReg_out (o : Nat) : (d.resetReg o).out = d.out := rfl
@[simp] theorem Device.resetReg_log (o : Nat) : (d.resetReg o).log = d.log := rfl
@[simp] theorem Device.resetReg_fatal (o : Nat) : (d.resetReg o).fatal = d.fatal := rfl
@[simp] theorem Device.resetReg_traces (o : Nat) : (d.resetReg o).traces = d.traces := rfl
@[simp] theorem Device.resetReg_chutes (o : Nat) : (d.resetReg o).chutes = d.chutes := rfl
@[simp] theorem Device.resetReg_routers (o : Nat) : (d.resetReg o).routers = d.routers := rfl
@[simp] theorem Device.resetReg_channels (o : Nat) : (d.resetReg o).channels = d.channels := rfl
@[simp] theorem Device.resetReg_memsys (o : Nat) : (d.resetReg o).memsys = d.memsys := rfl
@[simp] theorem Device.resetReg_fns (o : Nat) : (d.resetReg o).fns = d.fns := rfl
@[simp] theorem Device.resetReg_entries (o : Nat) : (d.resetReg o).entries = d.entries := rfl
@[simp] theorem Device.resetReg_cores (o : Nat) : (d.resetReg o).cores = d.cores := rfl
@[simp] theorem Device.resetReg_clusters (o : Nat) : (d.resetReg o).clusters = d.clusters := rfl
@[simp] theorem Device.resetReg_tensors (o : Nat) : (d.resetReg o).tensors = d.tensors := rfl
@[simp] theorem Device.resetReg_units (o : Nat) : (d.resetReg o).units = d.units := rfl
@[simp] theorem Device.resetReg_surv (o : Nat) : (d.resetReg o).surv = d.surv := rfl
@[simp] theorem Device.resetReg_host (o : Nat) : (d.resetReg o).host = d.host := rfl
@[simp] theorem Device.resetReg_ports (o : Nat) : (d.resetReg o).ports = d.ports := rfl
@[simp] theorem Device.resetReg_peer (o : Nat) : (d.resetReg o).peer = d.peer := rfl
@[simp] theorem Device.resetReg_rst (o : Nat) : (d.resetReg o).rst = d.rst := rfl
@[simp] theorem Device.resetReg_power (o : Nat) : (d.resetReg o).power = d.power := rfl

@[simp] theorem Device.takeFresh_clock : (d.takeFresh).clock = d.clock := rfl
@[simp] theorem Device.takeFresh_out : (d.takeFresh).out = d.out := rfl
@[simp] theorem Device.takeFresh_regs : (d.takeFresh).regs = d.regs := rfl
@[simp] theorem Device.takeFresh_log : (d.takeFresh).log = d.log := rfl
@[simp] theorem Device.takeFresh_fatal : (d.takeFresh).fatal = d.fatal := rfl
@[simp] theorem Device.takeFresh_traces : (d.takeFresh).traces = d.traces := rfl
@[simp] theorem Device.takeFresh_chutes : (d.takeFresh).chutes = d.chutes := rfl
@[simp] theorem Device.takeFresh_routers : (d.takeFresh).routers = d.routers := rfl
@[simp] theorem Device.takeFresh_channels : (d.takeFresh).channels = d.channels := rfl
@[simp] theorem Device.takeFresh_memsys : (d.takeFresh).memsys = d.memsys := rfl
@[simp] theorem Device.takeFresh_fns : (d.takeFresh).fns = d.fns := rfl
@[simp] theorem Device.takeFresh_entries : (d.takeFresh).entries = d.entries := rfl
@[simp] theorem Device.takeFresh_cores : (d.takeFresh).cores = d.cores := rfl
@[simp] theorem Device.takeFresh_clusters : (d.takeFresh).clusters = d.clusters := rfl
@[simp] theorem Device.takeFresh_tensors : (d.takeFresh).tensors = d.tensors := rfl
@[simp] theorem Device.takeFresh_units : (d.takeFresh).units = d.units := rfl
@[simp] theorem Device.takeFresh_surv : (d.takeFresh).surv = d.surv := rfl
@[simp] theorem Device.takeFresh_host : (d.takeFresh).host = d.host := rfl
@[simp] theorem Device.takeFresh_ports : (d.takeFresh).ports = d.ports := rfl
@[simp] theorem Device.takeFresh_peer : (d.takeFresh).peer = d.peer := rfl
@[simp] theorem Device.takeFresh_rst : (d.takeFresh).rst = d.rst := rfl
@[simp] theorem Device.takeFresh_power : (d.takeFresh).power = d.power := rfl

@[simp] theorem Device.setCore_fresh (c : CoreId) (k : Core) : (d.setCore c k).fresh = d.fresh := rfl
@[simp] theorem Device.setCore_clock (c : CoreId) (k : Core) : (d.setCore c k).clock = d.clock := rfl
@[simp] theorem Device.setCore_out (c : CoreId) (k : Core) : (d.setCore c k).out = d.out := rfl
@[simp] theorem Device.setCore_regs (c : CoreId) (k : Core) : (d.setCore c k).regs = d.regs := rfl
@[simp] theorem Device.setCore_log (c : CoreId) (k : Core) : (d.setCore c k).log = d.log := rfl
@[simp] theorem Device.setCore_fatal (c : CoreId) (k : Core) : (d.setCore c k).fatal = d.fatal := rfl
@[simp] theorem Device.setCore_traces (c : CoreId) (k : Core) : (d.setCore c k).traces = d.traces := rfl
@[simp] theorem Device.setCore_chutes (c : CoreId) (k : Core) : (d.setCore c k).chutes = d.chutes := rfl
@[simp] theorem Device.setCore_routers (c : CoreId) (k : Core) : (d.setCore c k).routers = d.routers := rfl
@[simp] theorem Device.setCore_channels (c : CoreId) (k : Core) : (d.setCore c k).channels = d.channels := rfl
@[simp] theorem Device.setCore_memsys (c : CoreId) (k : Core) : (d.setCore c k).memsys = d.memsys := rfl
@[simp] theorem Device.setCore_fns (c : CoreId) (k : Core) : (d.setCore c k).fns = d.fns := rfl
@[simp] theorem Device.setCore_entries (c : CoreId) (k : Core) : (d.setCore c k).entries = d.entries := rfl
@[simp] theorem Device.setCore_clusters (c : CoreId) (k : Core) : (d.setCore c k).clusters = d.clusters := rfl
@[simp] theorem Device.setCore_tensors (c : CoreId) (k : Core) : (d.setCore c k).tensors = d.tensors := rfl
@[simp] theorem Device.setCore_units (c : CoreId) (k : Core) : (d.setCore c k).units = d.units := rfl
@[simp] theorem Device.setCore_surv (c : CoreId) (k : Core) : (d.setCore c k).surv = d.surv := rfl
@[simp] theorem Device.setCore_host (c : CoreId) (k : Core) : (d.setCore c k).host = d.host := rfl
@[simp] theorem Device.setCore_ports (c : CoreId) (k : Core) : (d.setCore c k).ports = d.ports := rfl
@[simp] theorem Device.setCore_peer (c : CoreId) (k : Core) : (d.setCore c k).peer = d.peer := rfl
@[simp] theorem Device.setCore_rst (c : CoreId) (k : Core) : (d.setCore c k).rst = d.rst := rfl
@[simp] theorem Device.setCore_power (c : CoreId) (k : Core) : (d.setCore c k).power = d.power := rfl

@[simp] theorem Device.onCore_fresh (c : CoreId) (f : Core → Core) : (d.onCore c f).fresh = d.fresh := rfl
@[simp] theorem Device.onCore_clock (c : CoreId) (f : Core → Core) : (d.onCore c f).clock = d.clock := rfl
@[simp] theorem Device.onCore_out (c : CoreId) (f : Core → Core) : (d.onCore c f).out = d.out := rfl
@[simp] theorem Device.onCore_regs (c : CoreId) (f : Core → Core) : (d.onCore c f).regs = d.regs := rfl
@[simp] theorem Device.onCore_log (c : CoreId) (f : Core → Core) : (d.onCore c f).log = d.log := rfl
@[simp] theorem Device.onCore_fatal (c : CoreId) (f : Core → Core) : (d.onCore c f).fatal = d.fatal := rfl
@[simp] theorem Device.onCore_traces (c : CoreId) (f : Core → Core) : (d.onCore c f).traces = d.traces := rfl
@[simp] theorem Device.onCore_chutes (c : CoreId) (f : Core → Core) : (d.onCore c f).chutes = d.chutes := rfl
@[simp] theorem Device.onCore_routers (c : CoreId) (f : Core → Core) : (d.onCore c f).routers = d.routers := rfl
@[simp] theorem Device.onCore_channels (c : CoreId) (f : Core → Core) : (d.onCore c f).channels = d.channels := rfl
@[simp] theorem Device.onCore_memsys (c : CoreId) (f : Core → Core) : (d.onCore c f).memsys = d.memsys := rfl
@[simp] theorem Device.onCore_fns (c : CoreId) (f : Core → Core) : (d.onCore c f).fns = d.fns := rfl
@[simp] theorem Device.onCore_entries (c : CoreId) (f : Core → Core) : (d.onCore c f).entries = d.entries := rfl
@[simp] theorem Device.onCore_clusters (c : CoreId) (f : Core → Core) : (d.onCore c f).clusters = d.clusters := rfl
@[simp] theorem Device.onCore_tensors (c : CoreId) (f : Core → Core) : (d.onCore c f).tensors = d.tensors := rfl
@[simp] theorem Device.onCore_units (c : CoreId) (f : Core → Core) : (d.onCore c f).units = d.units := rfl
@[simp] theorem Device.onCore_surv (c : CoreId) (f : Core → Core) : (d.onCore c f).surv = d.surv := rfl
@[simp] theorem Device.onCore_host (c : CoreId) (f : Core → Core) : (d.onCore c f).host = d.host := rfl
@[simp] theorem Device.onCore_ports (c : CoreId) (f : Core → Core) : (d.onCore c f).ports = d.ports := rfl
@[simp] theorem Device.onCore_peer (c : CoreId) (f : Core → Core) : (d.onCore c f).peer = d.peer := rfl
@[simp] theorem Device.onCore_rst (c : CoreId) (f : Core → Core) : (d.onCore c f).rst = d.rst := rfl
@[simp] theorem Device.onCore_power (c : CoreId) (f : Core → Core) : (d.onCore c f).power = d.power := rfl

@[simp] theorem Device.setCluster_fresh (cl : ClusterId) (x : Cluster) : (d.setCluster cl x).fresh = d.fresh := rfl
@[simp] theorem Device.setCluster_clock (cl : ClusterId) (x : Cluster) : (d.setCluster cl x).clock = d.clock := rfl
@[simp] theorem Device.setCluster_out (cl : ClusterId) (x : Cluster) : (d.setCluster cl x).out = d.out := rfl
@[simp] theorem Device.setCluster_regs (cl : ClusterId) (x : Cluster) : (d.setCluster cl x).regs = d.regs := rfl
@[simp] theorem Device.setCluster_log (cl : ClusterId) (x : Cluster) : (d.setCluster cl x).log = d.log := rfl
@[simp] theorem Device.setCluster_fatal (cl : ClusterId) (x : Cluster) : (d.setCluster cl x).fatal = d.fatal := rfl
@[simp] theorem Device.setCluster_traces (cl : ClusterId) (x : Cluster) : (d.setCluster cl x).traces = d.traces := rfl
@[simp] theorem Device.setCluster_chutes (cl : ClusterId) (x : Cluster) : (d.setCluster cl x).chutes = d.chutes := rfl
@[simp] theorem Device.setCluster_routers (cl : ClusterId) (x : Cluster) : (d.setCluster cl x).routers = d.routers := rfl
@[simp] theorem Device.setCluster_channels (cl : ClusterId) (x : Cluster) : (d.setCluster cl x).channels = d.channels := rfl
@[simp] theorem Device.setCluster_memsys (cl : ClusterId) (x : Cluster) : (d.setCluster cl x).memsys = d.memsys := rfl
@[simp] theorem Device.setCluster_fns (cl : ClusterId) (x : Cluster) : (d.setCluster cl x).fns = d.fns := rfl
@[simp] theorem Device.setCluster_entries (cl : ClusterId) (x : Cluster) : (d.setCluster cl x).entries = d.entries := rfl
@[simp] theorem Device.setCluster_cores (cl : ClusterId) (x : Cluster) : (d.setCluster cl x).cores = d.cores := rfl
@[simp] theorem Device.setCluster_tensors (cl : ClusterId) (x : Cluster) : (d.setCluster cl x).tensors = d.tensors := rfl
@[simp] theorem Device.setCluster_units (cl : ClusterId) (x : Cluster) : (d.setCluster cl x).units = d.units := rfl
@[simp] theorem Device.setCluster_surv (cl : ClusterId) (x : Cluster) : (d.setCluster cl x).surv = d.surv := rfl
@[simp] theorem Device.setCluster_host (cl : ClusterId) (x : Cluster) : (d.setCluster cl x).host = d.host := rfl
@[simp] theorem Device.setCluster_ports (cl : ClusterId) (x : Cluster) : (d.setCluster cl x).ports = d.ports := rfl
@[simp] theorem Device.setCluster_peer (cl : ClusterId) (x : Cluster) : (d.setCluster cl x).peer = d.peer := rfl
@[simp] theorem Device.setCluster_rst (cl : ClusterId) (x : Cluster) : (d.setCluster cl x).rst = d.rst := rfl
@[simp] theorem Device.setCluster_power (cl : ClusterId) (x : Cluster) : (d.setCluster cl x).power = d.power := rfl

@[simp] theorem Device.setChute_fresh (ch : ChuteId) (x : Chute) : (d.setChute ch x).fresh = d.fresh := rfl
@[simp] theorem Device.setChute_clock (ch : ChuteId) (x : Chute) : (d.setChute ch x).clock = d.clock := rfl
@[simp] theorem Device.setChute_out (ch : ChuteId) (x : Chute) : (d.setChute ch x).out = d.out := rfl
@[simp] theorem Device.setChute_regs (ch : ChuteId) (x : Chute) : (d.setChute ch x).regs = d.regs := rfl
@[simp] theorem Device.setChute_log (ch : ChuteId) (x : Chute) : (d.setChute ch x).log = d.log := rfl
@[simp] theorem Device.setChute_fatal (ch : ChuteId) (x : Chute) : (d.setChute ch x).fatal = d.fatal := rfl
@[simp] theorem Device.setChute_traces (ch : ChuteId) (x : Chute) : (d.setChute ch x).traces = d.traces := rfl
@[simp] theorem Device.setChute_routers (ch : ChuteId) (x : Chute) : (d.setChute ch x).routers = d.routers := rfl
@[simp] theorem Device.setChute_channels (ch : ChuteId) (x : Chute) : (d.setChute ch x).channels = d.channels := rfl
@[simp] theorem Device.setChute_memsys (ch : ChuteId) (x : Chute) : (d.setChute ch x).memsys = d.memsys := rfl
@[simp] theorem Device.setChute_fns (ch : ChuteId) (x : Chute) : (d.setChute ch x).fns = d.fns := rfl
@[simp] theorem Device.setChute_entries (ch : ChuteId) (x : Chute) : (d.setChute ch x).entries = d.entries := rfl
@[simp] theorem Device.setChute_cores (ch : ChuteId) (x : Chute) : (d.setChute ch x).cores = d.cores := rfl
@[simp] theorem Device.setChute_clusters (ch : ChuteId) (x : Chute) : (d.setChute ch x).clusters = d.clusters := rfl
@[simp] theorem Device.setChute_tensors (ch : ChuteId) (x : Chute) : (d.setChute ch x).tensors = d.tensors := rfl
@[simp] theorem Device.setChute_units (ch : ChuteId) (x : Chute) : (d.setChute ch x).units = d.units := rfl
@[simp] theorem Device.setChute_surv (ch : ChuteId) (x : Chute) : (d.setChute ch x).surv = d.surv := rfl
@[simp] theorem Device.setChute_host (ch : ChuteId) (x : Chute) : (d.setChute ch x).host = d.host := rfl
@[simp] theorem Device.setChute_ports (ch : ChuteId) (x : Chute) : (d.setChute ch x).ports = d.ports := rfl
@[simp] theorem Device.setChute_peer (ch : ChuteId) (x : Chute) : (d.setChute ch x).peer = d.peer := rfl
@[simp] theorem Device.setChute_rst (ch : ChuteId) (x : Chute) : (d.setChute ch x).rst = d.rst := rfl
@[simp] theorem Device.setChute_power (ch : ChuteId) (x : Chute) : (d.setChute ch x).power = d.power := rfl

@[simp] theorem Device.setRouter_fresh (cl : ClusterId) (x : Router) : (d.setRouter cl x).fresh = d.fresh := rfl
@[simp] theorem Device.setRouter_clock (cl : ClusterId) (x : Router) : (d.setRouter cl x).clock = d.clock := rfl
@[simp] theorem Device.setRouter_out (cl : ClusterId) (x : Router) : (d.setRouter cl x).out = d.out := rfl
@[simp] theorem Device.setRouter_regs (cl : ClusterId) (x : Router) : (d.setRouter cl x).regs = d.regs := rfl
@[simp] theorem Device.setRouter_log (cl : ClusterId) (x : Router) : (d.setRouter cl x).log = d.log := rfl
@[simp] theorem Device.setRouter_fatal (cl : ClusterId) (x : Router) : (d.setRouter cl x).fatal = d.fatal := rfl
@[simp] theorem Device.setRouter_traces (cl : ClusterId) (x : Router) : (d.setRouter cl x).traces = d.traces := rfl
@[simp] theorem Device.setRouter_chutes (cl : ClusterId) (x : Router) : (d.setRouter cl x).chutes = d.chutes := rfl
@[simp] theorem Device.setRouter_channels (cl : ClusterId) (x : Router) : (d.setRouter cl x).channels = d.channels := rfl
@[simp] theorem Device.setRouter_memsys (cl : ClusterId) (x : Router) : (d.setRouter cl x).memsys = d.memsys := rfl
@[simp] theorem Device.setRouter_fns (cl : ClusterId) (x : Router) : (d.setRouter cl x).fns = d.fns := rfl
@[simp] theorem Device.setRouter_entries (cl : ClusterId) (x : Router) : (d.setRouter cl x).entries = d.entries := rfl
@[simp] theorem Device.setRouter_cores (cl : ClusterId) (x : Router) : (d.setRouter cl x).cores = d.cores := rfl
@[simp] theorem Device.setRouter_clusters (cl : ClusterId) (x : Router) : (d.setRouter cl x).clusters = d.clusters := rfl
@[simp] theorem Device.setRouter_tensors (cl : ClusterId) (x : Router) : (d.setRouter cl x).tensors = d.tensors := rfl
@[simp] theorem Device.setRouter_units (cl : ClusterId) (x : Router) : (d.setRouter cl x).units = d.units := rfl
@[simp] theorem Device.setRouter_surv (cl : ClusterId) (x : Router) : (d.setRouter cl x).surv = d.surv := rfl
@[simp] theorem Device.setRouter_host (cl : ClusterId) (x : Router) : (d.setRouter cl x).host = d.host := rfl
@[simp] theorem Device.setRouter_ports (cl : ClusterId) (x : Router) : (d.setRouter cl x).ports = d.ports := rfl
@[simp] theorem Device.setRouter_peer (cl : ClusterId) (x : Router) : (d.setRouter cl x).peer = d.peer := rfl
@[simp] theorem Device.setRouter_rst (cl : ClusterId) (x : Router) : (d.setRouter cl x).rst = d.rst := rfl
@[simp] theorem Device.setRouter_power (cl : ClusterId) (x : Router) : (d.setRouter cl x).power = d.power := rfl

@[simp] theorem Device.setChannel_fresh (n : Nat) (x : Channel) : (d.setChannel n x).fresh = d.fresh := rfl
@[simp] theorem Device.setChannel_clock (n : Nat) (x : Channel) : (d.setChannel n x).clock = d.clock := rfl
@[simp] theorem Device.setChannel_out (n : Nat) (x : Channel) : (d.setChannel n x).out = d.out := rfl
@[simp] theorem Device.setChannel_regs (n : Nat) (x : Channel) : (d.setChannel n x).regs = d.regs := rfl
@[simp] theorem Device.setChannel_log (n : Nat) (x : Channel) : (d.setChannel n x).log = d.log := rfl
@[simp] theorem Device.setChannel_fatal (n : Nat) (x : Channel) : (d.setChannel n x).fatal = d.fatal := rfl
@[simp] theorem Device.setChannel_traces (n : Nat) (x : Channel) : (d.setChannel n x).traces = d.traces := rfl
@[simp] theorem Device.setChannel_chutes (n : Nat) (x : Channel) : (d.setChannel n x).chutes = d.chutes := rfl
@[simp] theorem Device.setChannel_routers (n : Nat) (x : Channel) : (d.setChannel n x).routers = d.routers := rfl
@[simp] theorem Device.setChannel_memsys (n : Nat) (x : Channel) : (d.setChannel n x).memsys = d.memsys := rfl
@[simp] theorem Device.setChannel_fns (n : Nat) (x : Channel) : (d.setChannel n x).fns = d.fns := rfl
@[simp] theorem Device.setChannel_entries (n : Nat) (x : Channel) : (d.setChannel n x).entries = d.entries := rfl
@[simp] theorem Device.setChannel_cores (n : Nat) (x : Channel) : (d.setChannel n x).cores = d.cores := rfl
@[simp] theorem Device.setChannel_clusters (n : Nat) (x : Channel) : (d.setChannel n x).clusters = d.clusters := rfl
@[simp] theorem Device.setChannel_tensors (n : Nat) (x : Channel) : (d.setChannel n x).tensors = d.tensors := rfl
@[simp] theorem Device.setChannel_units (n : Nat) (x : Channel) : (d.setChannel n x).units = d.units := rfl
@[simp] theorem Device.setChannel_surv (n : Nat) (x : Channel) : (d.setChannel n x).surv = d.surv := rfl
@[simp] theorem Device.setChannel_host (n : Nat) (x : Channel) : (d.setChannel n x).host = d.host := rfl
@[simp] theorem Device.setChannel_ports (n : Nat) (x : Channel) : (d.setChannel n x).ports = d.ports := rfl
@[simp] theorem Device.setChannel_peer (n : Nat) (x : Channel) : (d.setChannel n x).peer = d.peer := rfl
@[simp] theorem Device.setChannel_rst (n : Nat) (x : Channel) : (d.setChannel n x).rst = d.rst := rfl
@[simp] theorem Device.setChannel_power (n : Nat) (x : Channel) : (d.setChannel n x).power = d.power := rfl

@[simp] theorem Device.setFn_fresh (f : Nat) (x : Function) : (d.setFn f x).fresh = d.fresh := rfl
@[simp] theorem Device.setFn_clock (f : Nat) (x : Function) : (d.setFn f x).clock = d.clock := rfl
@[simp] theorem Device.setFn_out (f : Nat) (x : Function) : (d.setFn f x).out = d.out := rfl
@[simp] theorem Device.setFn_regs (f : Nat) (x : Function) : (d.setFn f x).regs = d.regs := rfl
@[simp] theorem Device.setFn_log (f : Nat) (x : Function) : (d.setFn f x).log = d.log := rfl
@[simp] theorem Device.setFn_fatal (f : Nat) (x : Function) : (d.setFn f x).fatal = d.fatal := rfl
@[simp] theorem Device.setFn_traces (f : Nat) (x : Function) : (d.setFn f x).traces = d.traces := rfl
@[simp] theorem Device.setFn_chutes (f : Nat) (x : Function) : (d.setFn f x).chutes = d.chutes := rfl
@[simp] theorem Device.setFn_routers (f : Nat) (x : Function) : (d.setFn f x).routers = d.routers := rfl
@[simp] theorem Device.setFn_channels (f : Nat) (x : Function) : (d.setFn f x).channels = d.channels := rfl
@[simp] theorem Device.setFn_memsys (f : Nat) (x : Function) : (d.setFn f x).memsys = d.memsys := rfl
@[simp] theorem Device.setFn_entries (f : Nat) (x : Function) : (d.setFn f x).entries = d.entries := rfl
@[simp] theorem Device.setFn_cores (f : Nat) (x : Function) : (d.setFn f x).cores = d.cores := rfl
@[simp] theorem Device.setFn_clusters (f : Nat) (x : Function) : (d.setFn f x).clusters = d.clusters := rfl
@[simp] theorem Device.setFn_tensors (f : Nat) (x : Function) : (d.setFn f x).tensors = d.tensors := rfl
@[simp] theorem Device.setFn_units (f : Nat) (x : Function) : (d.setFn f x).units = d.units := rfl
@[simp] theorem Device.setFn_surv (f : Nat) (x : Function) : (d.setFn f x).surv = d.surv := rfl
@[simp] theorem Device.setFn_host (f : Nat) (x : Function) : (d.setFn f x).host = d.host := rfl
@[simp] theorem Device.setFn_ports (f : Nat) (x : Function) : (d.setFn f x).ports = d.ports := rfl
@[simp] theorem Device.setFn_peer (f : Nat) (x : Function) : (d.setFn f x).peer = d.peer := rfl
@[simp] theorem Device.setFn_rst (f : Nat) (x : Function) : (d.setFn f x).rst = d.rst := rfl
@[simp] theorem Device.setFn_power (f : Nat) (x : Function) : (d.setFn f x).power = d.power := rfl

@[simp] theorem Device.setTrace_fresh (p : Nat) (x : Trace) : (d.setTrace p x).fresh = d.fresh := rfl
@[simp] theorem Device.setTrace_clock (p : Nat) (x : Trace) : (d.setTrace p x).clock = d.clock := rfl
@[simp] theorem Device.setTrace_out (p : Nat) (x : Trace) : (d.setTrace p x).out = d.out := rfl
@[simp] theorem Device.setTrace_regs (p : Nat) (x : Trace) : (d.setTrace p x).regs = d.regs := rfl
@[simp] theorem Device.setTrace_log (p : Nat) (x : Trace) : (d.setTrace p x).log = d.log := rfl
@[simp] theorem Device.setTrace_fatal (p : Nat) (x : Trace) : (d.setTrace p x).fatal = d.fatal := rfl
@[simp] theorem Device.setTrace_chutes (p : Nat) (x : Trace) : (d.setTrace p x).chutes = d.chutes := rfl
@[simp] theorem Device.setTrace_routers (p : Nat) (x : Trace) : (d.setTrace p x).routers = d.routers := rfl
@[simp] theorem Device.setTrace_channels (p : Nat) (x : Trace) : (d.setTrace p x).channels = d.channels := rfl
@[simp] theorem Device.setTrace_memsys (p : Nat) (x : Trace) : (d.setTrace p x).memsys = d.memsys := rfl
@[simp] theorem Device.setTrace_fns (p : Nat) (x : Trace) : (d.setTrace p x).fns = d.fns := rfl
@[simp] theorem Device.setTrace_entries (p : Nat) (x : Trace) : (d.setTrace p x).entries = d.entries := rfl
@[simp] theorem Device.setTrace_cores (p : Nat) (x : Trace) : (d.setTrace p x).cores = d.cores := rfl
@[simp] theorem Device.setTrace_clusters (p : Nat) (x : Trace) : (d.setTrace p x).clusters = d.clusters := rfl
@[simp] theorem Device.setTrace_tensors (p : Nat) (x : Trace) : (d.setTrace p x).tensors = d.tensors := rfl
@[simp] theorem Device.setTrace_units (p : Nat) (x : Trace) : (d.setTrace p x).units = d.units := rfl
@[simp] theorem Device.setTrace_surv (p : Nat) (x : Trace) : (d.setTrace p x).surv = d.surv := rfl
@[simp] theorem Device.setTrace_host (p : Nat) (x : Trace) : (d.setTrace p x).host = d.host := rfl
@[simp] theorem Device.setTrace_ports (p : Nat) (x : Trace) : (d.setTrace p x).ports = d.ports := rfl
@[simp] theorem Device.setTrace_peer (p : Nat) (x : Trace) : (d.setTrace p x).peer = d.peer := rfl
@[simp] theorem Device.setTrace_rst (p : Nat) (x : Trace) : (d.setTrace p x).rst = d.rst := rfl
@[simp] theorem Device.setTrace_power (p : Nat) (x : Trace) : (d.setTrace p x).power = d.power := rfl

@[simp] theorem Device.setPort_fresh (p : Nat) (x : Port) : (d.setPort p x).fresh = d.fresh := rfl
@[simp] theorem Device.setPort_clock (p : Nat) (x : Port) : (d.setPort p x).clock = d.clock := rfl
@[simp] theorem Device.setPort_out (p : Nat) (x : Port) : (d.setPort p x).out = d.out := rfl
@[simp] theorem Device.setPort_regs (p : Nat) (x : Port) : (d.setPort p x).regs = d.regs := rfl
@[simp] theorem Device.setPort_log (p : Nat) (x : Port) : (d.setPort p x).log = d.log := rfl
@[simp] theorem Device.setPort_fatal (p : Nat) (x : Port) : (d.setPort p x).fatal = d.fatal := rfl
@[simp] theorem Device.setPort_traces (p : Nat) (x : Port) : (d.setPort p x).traces = d.traces := rfl
@[simp] theorem Device.setPort_chutes (p : Nat) (x : Port) : (d.setPort p x).chutes = d.chutes := rfl
@[simp] theorem Device.setPort_routers (p : Nat) (x : Port) : (d.setPort p x).routers = d.routers := rfl
@[simp] theorem Device.setPort_channels (p : Nat) (x : Port) : (d.setPort p x).channels = d.channels := rfl
@[simp] theorem Device.setPort_memsys (p : Nat) (x : Port) : (d.setPort p x).memsys = d.memsys := rfl
@[simp] theorem Device.setPort_fns (p : Nat) (x : Port) : (d.setPort p x).fns = d.fns := rfl
@[simp] theorem Device.setPort_entries (p : Nat) (x : Port) : (d.setPort p x).entries = d.entries := rfl
@[simp] theorem Device.setPort_cores (p : Nat) (x : Port) : (d.setPort p x).cores = d.cores := rfl
@[simp] theorem Device.setPort_clusters (p : Nat) (x : Port) : (d.setPort p x).clusters = d.clusters := rfl
@[simp] theorem Device.setPort_tensors (p : Nat) (x : Port) : (d.setPort p x).tensors = d.tensors := rfl
@[simp] theorem Device.setPort_units (p : Nat) (x : Port) : (d.setPort p x).units = d.units := rfl
@[simp] theorem Device.setPort_surv (p : Nat) (x : Port) : (d.setPort p x).surv = d.surv := rfl
@[simp] theorem Device.setPort_host (p : Nat) (x : Port) : (d.setPort p x).host = d.host := rfl
@[simp] theorem Device.setPort_peer (p : Nat) (x : Port) : (d.setPort p x).peer = d.peer := rfl
@[simp] theorem Device.setPort_rst (p : Nat) (x : Port) : (d.setPort p x).rst = d.rst := rfl
@[simp] theorem Device.setPort_power (p : Nat) (x : Port) : (d.setPort p x).power = d.power := rfl

@[simp] theorem Device.onPort_fresh (p : Nat) (f : Port → Port) : (d.onPort p f).fresh = d.fresh := rfl
@[simp] theorem Device.onPort_clock (p : Nat) (f : Port → Port) : (d.onPort p f).clock = d.clock := rfl
@[simp] theorem Device.onPort_out (p : Nat) (f : Port → Port) : (d.onPort p f).out = d.out := rfl
@[simp] theorem Device.onPort_regs (p : Nat) (f : Port → Port) : (d.onPort p f).regs = d.regs := rfl
@[simp] theorem Device.onPort_log (p : Nat) (f : Port → Port) : (d.onPort p f).log = d.log := rfl
@[simp] theorem Device.onPort_fatal (p : Nat) (f : Port → Port) : (d.onPort p f).fatal = d.fatal := rfl
@[simp] theorem Device.onPort_traces (p : Nat) (f : Port → Port) : (d.onPort p f).traces = d.traces := rfl
@[simp] theorem Device.onPort_chutes (p : Nat) (f : Port → Port) : (d.onPort p f).chutes = d.chutes := rfl
@[simp] theorem Device.onPort_routers (p : Nat) (f : Port → Port) : (d.onPort p f).routers = d.routers := rfl
@[simp] theorem Device.onPort_channels (p : Nat) (f : Port → Port) : (d.onPort p f).channels = d.channels := rfl
@[simp] theorem Device.onPort_memsys (p : Nat) (f : Port → Port) : (d.onPort p f).memsys = d.memsys := rfl
@[simp] theorem Device.onPort_fns (p : Nat) (f : Port → Port) : (d.onPort p f).fns = d.fns := rfl
@[simp] theorem Device.onPort_entries (p : Nat) (f : Port → Port) : (d.onPort p f).entries = d.entries := rfl
@[simp] theorem Device.onPort_cores (p : Nat) (f : Port → Port) : (d.onPort p f).cores = d.cores := rfl
@[simp] theorem Device.onPort_clusters (p : Nat) (f : Port → Port) : (d.onPort p f).clusters = d.clusters := rfl
@[simp] theorem Device.onPort_tensors (p : Nat) (f : Port → Port) : (d.onPort p f).tensors = d.tensors := rfl
@[simp] theorem Device.onPort_units (p : Nat) (f : Port → Port) : (d.onPort p f).units = d.units := rfl
@[simp] theorem Device.onPort_surv (p : Nat) (f : Port → Port) : (d.onPort p f).surv = d.surv := rfl
@[simp] theorem Device.onPort_host (p : Nat) (f : Port → Port) : (d.onPort p f).host = d.host := rfl
@[simp] theorem Device.onPort_peer (p : Nat) (f : Port → Port) : (d.onPort p f).peer = d.peer := rfl
@[simp] theorem Device.onPort_rst (p : Nat) (f : Port → Port) : (d.onPort p f).rst = d.rst := rfl
@[simp] theorem Device.onPort_power (p : Nat) (f : Port → Port) : (d.onPort p f).power = d.power := rfl

@[simp] theorem Device.onPeer_fresh (f : PeerUnit → PeerUnit) : (d.onPeer f).fresh = d.fresh := rfl
@[simp] theorem Device.onPeer_clock (f : PeerUnit → PeerUnit) : (d.onPeer f).clock = d.clock := rfl
@[simp] theorem Device.onPeer_out (f : PeerUnit → PeerUnit) : (d.onPeer f).out = d.out := rfl
@[simp] theorem Device.onPeer_regs (f : PeerUnit → PeerUnit) : (d.onPeer f).regs = d.regs := rfl
@[simp] theorem Device.onPeer_log (f : PeerUnit → PeerUnit) : (d.onPeer f).log = d.log := rfl
@[simp] theorem Device.onPeer_fatal (f : PeerUnit → PeerUnit) : (d.onPeer f).fatal = d.fatal := rfl
@[simp] theorem Device.onPeer_traces (f : PeerUnit → PeerUnit) : (d.onPeer f).traces = d.traces := rfl
@[simp] theorem Device.onPeer_chutes (f : PeerUnit → PeerUnit) : (d.onPeer f).chutes = d.chutes := rfl
@[simp] theorem Device.onPeer_routers (f : PeerUnit → PeerUnit) : (d.onPeer f).routers = d.routers := rfl
@[simp] theorem Device.onPeer_channels (f : PeerUnit → PeerUnit) : (d.onPeer f).channels = d.channels := rfl
@[simp] theorem Device.onPeer_memsys (f : PeerUnit → PeerUnit) : (d.onPeer f).memsys = d.memsys := rfl
@[simp] theorem Device.onPeer_fns (f : PeerUnit → PeerUnit) : (d.onPeer f).fns = d.fns := rfl
@[simp] theorem Device.onPeer_entries (f : PeerUnit → PeerUnit) : (d.onPeer f).entries = d.entries := rfl
@[simp] theorem Device.onPeer_cores (f : PeerUnit → PeerUnit) : (d.onPeer f).cores = d.cores := rfl
@[simp] theorem Device.onPeer_clusters (f : PeerUnit → PeerUnit) : (d.onPeer f).clusters = d.clusters := rfl
@[simp] theorem Device.onPeer_tensors (f : PeerUnit → PeerUnit) : (d.onPeer f).tensors = d.tensors := rfl
@[simp] theorem Device.onPeer_units (f : PeerUnit → PeerUnit) : (d.onPeer f).units = d.units := rfl
@[simp] theorem Device.onPeer_surv (f : PeerUnit → PeerUnit) : (d.onPeer f).surv = d.surv := rfl
@[simp] theorem Device.onPeer_host (f : PeerUnit → PeerUnit) : (d.onPeer f).host = d.host := rfl
@[simp] theorem Device.onPeer_ports (f : PeerUnit → PeerUnit) : (d.onPeer f).ports = d.ports := rfl
@[simp] theorem Device.onPeer_rst (f : PeerUnit → PeerUnit) : (d.onPeer f).rst = d.rst := rfl
@[simp] theorem Device.onPeer_power (f : PeerUnit → PeerUnit) : (d.onPeer f).power = d.power := rfl

@[simp] theorem Device.setTensor_fresh (c : CoreId) (x : Tensor) : (d.setTensor c x).fresh = d.fresh := rfl
@[simp] theorem Device.setTensor_clock (c : CoreId) (x : Tensor) : (d.setTensor c x).clock = d.clock := rfl
@[simp] theorem Device.setTensor_out (c : CoreId) (x : Tensor) : (d.setTensor c x).out = d.out := rfl
@[simp] theorem Device.setTensor_regs (c : CoreId) (x : Tensor) : (d.setTensor c x).regs = d.regs := rfl
@[simp] theorem Device.setTensor_log (c : CoreId) (x : Tensor) : (d.setTensor c x).log = d.log := rfl
@[simp] theorem Device.setTensor_fatal (c : CoreId) (x : Tensor) : (d.setTensor c x).fatal = d.fatal := rfl
@[simp] theorem Device.setTensor_traces (c : CoreId) (x : Tensor) : (d.setTensor c x).traces = d.traces := rfl
@[simp] theorem Device.setTensor_chutes (c : CoreId) (x : Tensor) : (d.setTensor c x).chutes = d.chutes := rfl
@[simp] theorem Device.setTensor_routers (c : CoreId) (x : Tensor) : (d.setTensor c x).routers = d.routers := rfl
@[simp] theorem Device.setTensor_channels (c : CoreId) (x : Tensor) : (d.setTensor c x).channels = d.channels := rfl
@[simp] theorem Device.setTensor_memsys (c : CoreId) (x : Tensor) : (d.setTensor c x).memsys = d.memsys := rfl
@[simp] theorem Device.setTensor_fns (c : CoreId) (x : Tensor) : (d.setTensor c x).fns = d.fns := rfl
@[simp] theorem Device.setTensor_entries (c : CoreId) (x : Tensor) : (d.setTensor c x).entries = d.entries := rfl
@[simp] theorem Device.setTensor_cores (c : CoreId) (x : Tensor) : (d.setTensor c x).cores = d.cores := rfl
@[simp] theorem Device.setTensor_clusters (c : CoreId) (x : Tensor) : (d.setTensor c x).clusters = d.clusters := rfl
@[simp] theorem Device.setTensor_units (c : CoreId) (x : Tensor) : (d.setTensor c x).units = d.units := rfl
@[simp] theorem Device.setTensor_surv (c : CoreId) (x : Tensor) : (d.setTensor c x).surv = d.surv := rfl
@[simp] theorem Device.setTensor_host (c : CoreId) (x : Tensor) : (d.setTensor c x).host = d.host := rfl
@[simp] theorem Device.setTensor_ports (c : CoreId) (x : Tensor) : (d.setTensor c x).ports = d.ports := rfl
@[simp] theorem Device.setTensor_peer (c : CoreId) (x : Tensor) : (d.setTensor c x).peer = d.peer := rfl
@[simp] theorem Device.setTensor_rst (c : CoreId) (x : Tensor) : (d.setTensor c x).rst = d.rst := rfl
@[simp] theorem Device.setTensor_power (c : CoreId) (x : Tensor) : (d.setTensor c x).power = d.power := rfl

@[simp] theorem Device.onTensor_fresh (c : CoreId) (f : Tensor → Tensor) : (d.onTensor c f).fresh = d.fresh := rfl
@[simp] theorem Device.onTensor_clock (c : CoreId) (f : Tensor → Tensor) : (d.onTensor c f).clock = d.clock := rfl
@[simp] theorem Device.onTensor_out (c : CoreId) (f : Tensor → Tensor) : (d.onTensor c f).out = d.out := rfl
@[simp] theorem Device.onTensor_regs (c : CoreId) (f : Tensor → Tensor) : (d.onTensor c f).regs = d.regs := rfl
@[simp] theorem Device.onTensor_log (c : CoreId) (f : Tensor → Tensor) : (d.onTensor c f).log = d.log := rfl
@[simp] theorem Device.onTensor_fatal (c : CoreId) (f : Tensor → Tensor) : (d.onTensor c f).fatal = d.fatal := rfl
@[simp] theorem Device.onTensor_traces (c : CoreId) (f : Tensor → Tensor) : (d.onTensor c f).traces = d.traces := rfl
@[simp] theorem Device.onTensor_chutes (c : CoreId) (f : Tensor → Tensor) : (d.onTensor c f).chutes = d.chutes := rfl
@[simp] theorem Device.onTensor_routers (c : CoreId) (f : Tensor → Tensor) : (d.onTensor c f).routers = d.routers := rfl
@[simp] theorem Device.onTensor_channels (c : CoreId) (f : Tensor → Tensor) : (d.onTensor c f).channels = d.channels := rfl
@[simp] theorem Device.onTensor_memsys (c : CoreId) (f : Tensor → Tensor) : (d.onTensor c f).memsys = d.memsys := rfl
@[simp] theorem Device.onTensor_fns (c : CoreId) (f : Tensor → Tensor) : (d.onTensor c f).fns = d.fns := rfl
@[simp] theorem Device.onTensor_entries (c : CoreId) (f : Tensor → Tensor) : (d.onTensor c f).entries = d.entries := rfl
@[simp] theorem Device.onTensor_cores (c : CoreId) (f : Tensor → Tensor) : (d.onTensor c f).cores = d.cores := rfl
@[simp] theorem Device.onTensor_clusters (c : CoreId) (f : Tensor → Tensor) : (d.onTensor c f).clusters = d.clusters := rfl
@[simp] theorem Device.onTensor_units (c : CoreId) (f : Tensor → Tensor) : (d.onTensor c f).units = d.units := rfl
@[simp] theorem Device.onTensor_surv (c : CoreId) (f : Tensor → Tensor) : (d.onTensor c f).surv = d.surv := rfl
@[simp] theorem Device.onTensor_host (c : CoreId) (f : Tensor → Tensor) : (d.onTensor c f).host = d.host := rfl
@[simp] theorem Device.onTensor_ports (c : CoreId) (f : Tensor → Tensor) : (d.onTensor c f).ports = d.ports := rfl
@[simp] theorem Device.onTensor_peer (c : CoreId) (f : Tensor → Tensor) : (d.onTensor c f).peer = d.peer := rfl
@[simp] theorem Device.onTensor_rst (c : CoreId) (f : Tensor → Tensor) : (d.onTensor c f).rst = d.rst := rfl
@[simp] theorem Device.onTensor_power (c : CoreId) (f : Tensor → Tensor) : (d.onTensor c f).power = d.power := rfl

@[simp] theorem Device.setUnits_fresh (cl : ClusterId) (x : CluUnits) : (d.setUnits cl x).fresh = d.fresh := rfl
@[simp] theorem Device.setUnits_clock (cl : ClusterId) (x : CluUnits) : (d.setUnits cl x).clock = d.clock := rfl
@[simp] theorem Device.setUnits_out (cl : ClusterId) (x : CluUnits) : (d.setUnits cl x).out = d.out := rfl
@[simp] theorem Device.setUnits_regs (cl : ClusterId) (x : CluUnits) : (d.setUnits cl x).regs = d.regs := rfl
@[simp] theorem Device.setUnits_log (cl : ClusterId) (x : CluUnits) : (d.setUnits cl x).log = d.log := rfl
@[simp] theorem Device.setUnits_fatal (cl : ClusterId) (x : CluUnits) : (d.setUnits cl x).fatal = d.fatal := rfl
@[simp] theorem Device.setUnits_traces (cl : ClusterId) (x : CluUnits) : (d.setUnits cl x).traces = d.traces := rfl
@[simp] theorem Device.setUnits_chutes (cl : ClusterId) (x : CluUnits) : (d.setUnits cl x).chutes = d.chutes := rfl
@[simp] theorem Device.setUnits_routers (cl : ClusterId) (x : CluUnits) : (d.setUnits cl x).routers = d.routers := rfl
@[simp] theorem Device.setUnits_channels (cl : ClusterId) (x : CluUnits) : (d.setUnits cl x).channels = d.channels := rfl
@[simp] theorem Device.setUnits_memsys (cl : ClusterId) (x : CluUnits) : (d.setUnits cl x).memsys = d.memsys := rfl
@[simp] theorem Device.setUnits_fns (cl : ClusterId) (x : CluUnits) : (d.setUnits cl x).fns = d.fns := rfl
@[simp] theorem Device.setUnits_entries (cl : ClusterId) (x : CluUnits) : (d.setUnits cl x).entries = d.entries := rfl
@[simp] theorem Device.setUnits_cores (cl : ClusterId) (x : CluUnits) : (d.setUnits cl x).cores = d.cores := rfl
@[simp] theorem Device.setUnits_clusters (cl : ClusterId) (x : CluUnits) : (d.setUnits cl x).clusters = d.clusters := rfl
@[simp] theorem Device.setUnits_tensors (cl : ClusterId) (x : CluUnits) : (d.setUnits cl x).tensors = d.tensors := rfl
@[simp] theorem Device.setUnits_surv (cl : ClusterId) (x : CluUnits) : (d.setUnits cl x).surv = d.surv := rfl
@[simp] theorem Device.setUnits_host (cl : ClusterId) (x : CluUnits) : (d.setUnits cl x).host = d.host := rfl
@[simp] theorem Device.setUnits_ports (cl : ClusterId) (x : CluUnits) : (d.setUnits cl x).ports = d.ports := rfl
@[simp] theorem Device.setUnits_peer (cl : ClusterId) (x : CluUnits) : (d.setUnits cl x).peer = d.peer := rfl
@[simp] theorem Device.setUnits_rst (cl : ClusterId) (x : CluUnits) : (d.setUnits cl x).rst = d.rst := rfl
@[simp] theorem Device.setUnits_power (cl : ClusterId) (x : CluUnits) : (d.setUnits cl x).power = d.power := rfl

end Fields

/-! ## The state -/

section States
variable (s : State) (f g : Device → Device)

@[simp] theorem State.onDev_dev : (s.onDev f).dev = f s.dev := rfl
@[simp] theorem State.onDev_mem : (s.onDev f).mem = s.mem := rfl
@[simp] theorem State.onDev_pending : (s.onDev f).pending = s.pending := rfl
@[simp] theorem State.onDev_onDev : (s.onDev f).onDev g = s.onDev fun d => g (f d) := rfl
@[simp] theorem State.onDev_id : (s.onDev fun d => d) = s := rfl

end States

/-! ## Registers -/

section Registers
variable (d : Device)

@[simp] theorem Device.reg_setReg_same (o : Nat) (v : W64) : (d.setReg o v).reg o = v := tget_tput_same ..

theorem Device.reg_setReg (o p : Nat) (v : W64) : (d.setReg o v).reg p = if p = o then v else d.reg p := by
  by_cases h : p = o
  · subst h; simp
  · rw [if_neg h]; exact tget_tput_other _ _ _ h

theorem Device.reg_setReg_other {o p : Nat} (v : W64) (h : p ≠ o) : (d.setReg o v).reg p = d.reg p :=
  tget_tput_other _ _ _ h

theorem Device.reg_setRf_other {o p : Nat} (hi lo v : Nat) (h : p ≠ o) : (d.setRf o hi lo v).reg p = d.reg p :=
  tget_tput_other _ _ _ h

theorem Device.reg_addRf_other {o p : Nat} (hi lo n : Nat) (h : p ≠ o) : (d.addRf o hi lo n).reg p = d.reg p :=
  tget_tput_other _ _ _ h

/-- Two writes of one register: the second one stands. -/
@[simp] theorem Device.setReg_setReg (o : Nat) (v w : W64) : (d.setReg o v).setReg o w = d.setReg o w := by
  simp [Device.setReg]

end Registers

/-! ## Units by key -/

/-- Keys of two cores of the module differ where the cores do. -/
theorem coreKey_inj {c e : CoreId} (hc : c.core < 64 ∧ c.cluster < 16) (he : e.core < 64 ∧ e.cluster < 16)
    (h : coreKey c = coreKey e) : c = e := by
  obtain ⟨a, b, x⟩ := c
  obtain ⟨a', b', x'⟩ := e
  simp only [coreKey] at *
  have h1 : x = x' := by omega
  have h2 : b = b' := by omega
  have h3 : a = a' := by omega
  subst h1; subst h2; subst h3
  rfl

/-- A present core has its cluster and core numbers in range. -/
theorem corePresent_bounds {c : CoreId} (h : corePresent c = true) : c.core < 64 ∧ c.cluster < 16 := by
  simp only [corePresent] at h
  split at h <;> simp only [Bool.and_eq_true, decide_eq_true_eq] at h <;> omega

section Units
variable (d : Device)

@[simp] theorem Device.core_setCore_same (c : CoreId) (k : Core) : (d.setCore c k).core c = k := tget_tput_same ..

theorem Device.core_setCore_other {c e : CoreId} (k : Core) (h : coreKey e ≠ coreKey c) :
    (d.setCore c k).core e = d.core e := by
  simp only [Device.core, Device.setCore, tget_tput_other _ _ _ h]

@[simp] theorem Device.setCore_setCore (c : CoreId) (k l : Core) : (d.setCore c k).setCore c l = d.setCore c l := by
  simp [Device.setCore]

@[simp] theorem Device.core_onCore_same (c : CoreId) (f : Core → Core) : (d.onCore c f).core c = f (d.core c) :=
  Device.core_setCore_same ..

@[simp] theorem Device.onCore_onCore (c : CoreId) (f g : Core → Core) :
    (d.onCore c f).onCore c g = d.onCore c fun k => g (f k) := by
  simp [Device.onCore]

theorem Device.core_onCore_other {c e : CoreId} (f : Core → Core) (h : coreKey e ≠ coreKey c) :
    (d.onCore c f).core e = d.core e := Device.core_setCore_other d _ h

@[simp] theorem Device.cluster_setCluster_same (cl : ClusterId) (x : Cluster) : (d.setCluster cl x).cluster cl = x := tget_tput_same ..
@[simp] theorem Device.setCluster_setCluster (cl : ClusterId) (x : Cluster) (y : Cluster) : (d.setCluster cl x).setCluster cl y = d.setCluster cl y := by
  simp [Device.setCluster]
@[simp] theorem Device.chute_setChute_same (ch : ChuteId) (x : Chute) : (d.setChute ch x).chute ch = x := tget_tput_same ..
@[simp] theorem Device.setChute_setChute (ch : ChuteId) (x : Chute) (y : Chute) : (d.setChute ch x).setChute ch y = d.setChute ch y := by
  simp [Device.setChute]
@[simp] theorem Device.router_setRouter_same (cl : ClusterId) (x : Router) : (d.setRouter cl x).router cl = x := tget_tput_same ..
@[simp] theorem Device.setRouter_setRouter (cl : ClusterId) (x : Router) (y : Router) : (d.setRouter cl x).setRouter cl y = d.setRouter cl y := by
  simp [Device.setRouter]
@[simp] theorem Device.channel_setChannel_same (n : Nat) (x : Channel) : (d.setChannel n x).channel n = x := tget_tput_same ..
@[simp] theorem Device.setChannel_setChannel (n : Nat) (x : Channel) (y : Channel) : (d.setChannel n x).setChannel n y = d.setChannel n y := by
  simp [Device.setChannel]
@[simp] theorem Device.fn_setFn_same (f : Nat) (x : Function) : (d.setFn f x).fn f = x := tget_tput_same ..
@[simp] theorem Device.setFn_setFn (f : Nat) (x : Function) (y : Function) : (d.setFn f x).setFn f y = d.setFn f y := by
  simp [Device.setFn]
@[simp] theorem Device.trace_setTrace_same (p : Nat) (x : Trace) : (d.setTrace p x).trace p = x := tget_tput_same ..
@[simp] theorem Device.setTrace_setTrace (p : Nat) (x : Trace) (y : Trace) : (d.setTrace p x).setTrace p y = d.setTrace p y := by
  simp [Device.setTrace]
@[simp] theorem Device.port_setPort_same (p : Nat) (x : Port) : (d.setPort p x).port p = x := tget_tput_same ..
@[simp] theorem Device.setPort_setPort (p : Nat) (x : Port) (y : Port) : (d.setPort p x).setPort p y = d.setPort p y := by
  simp [Device.setPort]
@[simp] theorem Device.tensor_setTensor_same (c : CoreId) (x : Tensor) : (d.setTensor c x).tensor c = x := tget_tput_same ..
@[simp] theorem Device.setTensor_setTensor (c : CoreId) (x : Tensor) (y : Tensor) : (d.setTensor c x).setTensor c y = d.setTensor c y := by
  simp [Device.setTensor]
@[simp] theorem Device.unitsOf_setUnits_same (cl : ClusterId) (x : CluUnits) : (d.setUnits cl x).unitsOf cl = x := tget_tput_same ..
@[simp] theorem Device.setUnits_setUnits (cl : ClusterId) (x : CluUnits) (y : CluUnits) : (d.setUnits cl x).setUnits cl y = d.setUnits cl y := by
  simp [Device.setUnits]

theorem Device.channel_setChannel_other {n m : Nat} (x : Channel) (h : m ≠ n) : (d.setChannel n x).channel m = d.channel m :=
  tget_tput_other _ _ _ h

theorem Device.fn_setFn_other {n m : Nat} (x : Function) (h : m ≠ n) : (d.setFn n x).fn m = d.fn m :=
  tget_tput_other _ _ _ h

theorem Device.trace_setTrace_other {n m : Nat} (x : Trace) (h : m ≠ n) : (d.setTrace n x).trace m = d.trace m :=
  tget_tput_other _ _ _ h

theorem Device.port_setPort_other {n m : Nat} (x : Port) (h : m ≠ n) : (d.setPort n x).port m = d.port m :=
  tget_tput_other _ _ _ h

end Units

/-! ## Scalar registers (R225) -/

section Scalars
variable (k : Core)

/-- s0 reads zero. -/
@[simp] theorem Core.getS_zero : k.getS 0 = PVal.zero := rfl
/-- p0 reads one. -/
@[simp] theorem Core.getP_zero : k.getP 0 = ⟨true, false⟩ := rfl
/-- A write of s0 is discarded. -/
@[simp] theorem Core.setS_zero (v : PVal) : k.setS 0 v = k := rfl
/-- A write of p0 is discarded. -/
@[simp] theorem Core.setP_zero (v : PBit) : k.setP 0 v = k := rfl

/-- An s register after a write. -/
theorem Core.getS_setS (r n : Nat) (v : PVal) : (k.setS r v).getS n = if n = r ∧ r ≠ 0 then v else k.getS n := by
  simp only [Core.setS, Core.getS]
  by_cases hr : r = 0
  · simp [hr]
  · simp only [if_neg hr]
    by_cases hn : n = 0
    · subst hn; simp [Ne.symm hr]
    · simp only [if_neg hn, tget_tput]
      by_cases h : n = r <;> simp [h, hr]

/-- A p register after a write. -/
theorem Core.getP_setP (r n : Nat) (v : PBit) : (k.setP r v).getP n = if n = r ∧ r ≠ 0 then v else k.getP n := by
  simp only [Core.setP, Core.getP]
  by_cases hr : r = 0
  · simp [hr]
  · simp only [if_neg hr]
    by_cases hn : n = 0
    · subst hn; simp [Ne.symm hr]
    · simp only [if_neg hn, tget_tput]
      by_cases h : n = r <;> simp [h, hr]

@[simp] theorem Core.setS_run (r : Nat) (v : PVal) : (k.setS r v).run = k.run := by
  unfold Core.setS; split <;> rfl
@[simp] theorem Core.setS_pc (r : Nat) (v : PVal) : (k.setS r v).pc = k.pc := by
  unfold Core.setS; split <;> rfl
@[simp] theorem Core.setS_p (r : Nat) (v : PVal) : (k.setS r v).p = k.p := by
  unfold Core.setS; split <;> rfl
@[simp] theorem Core.setS_csr (r : Nat) (v : PVal) : (k.setS r v).csr = k.csr := by
  unfold Core.setS; split <;> rfl
@[simp] theorem Core.setS_wdogAt (r : Nat) (v : PVal) : (k.setS r v).wdogAt = k.wdogAt := by
  unfold Core.setS; split <;> rfl
@[simp] theorem Core.setS_poisonTags (r : Nat) (v : PVal) : (k.setS r v).poisonTags = k.poisonTags := by
  unfold Core.setS; split <;> rfl
@[simp] theorem Core.setS_pendingS (r : Nat) (v : PVal) : (k.setS r v).pendingS = k.pendingS := by
  unfold Core.setS; split <;> rfl
@[simp] theorem Core.setS_parked (r : Nat) (v : PVal) : (k.setS r v).parked = k.parked := by
  unfold Core.setS; split <;> rfl
@[simp] theorem Core.setS_launch (r : Nat) (v : PVal) : (k.setS r v).launch = k.launch := by
  unfold Core.setS; split <;> rfl
@[simp] theorem Core.setP_run (r : Nat) (v : PBit) : (k.setP r v).run = k.run := by
  unfold Core.setP; split <;> rfl
@[simp] theorem Core.setP_pc (r : Nat) (v : PBit) : (k.setP r v).pc = k.pc := by
  unfold Core.setP; split <;> rfl
@[simp] theorem Core.setP_s (r : Nat) (v : PBit) : (k.setP r v).s = k.s := by
  unfold Core.setP; split <;> rfl
@[simp] theorem Core.setP_csr (r : Nat) (v : PBit) : (k.setP r v).csr = k.csr := by
  unfold Core.setP; split <;> rfl
@[simp] theorem Core.setP_wdogAt (r : Nat) (v : PBit) : (k.setP r v).wdogAt = k.wdogAt := by
  unfold Core.setP; split <;> rfl
@[simp] theorem Core.setP_poisonTags (r : Nat) (v : PBit) : (k.setP r v).poisonTags = k.poisonTags := by
  unfold Core.setP; split <;> rfl
@[simp] theorem Core.setP_pendingS (r : Nat) (v : PBit) : (k.setP r v).pendingS = k.pendingS := by
  unfold Core.setP; split <;> rfl
@[simp] theorem Core.setP_parked (r : Nat) (v : PBit) : (k.setP r v).parked = k.parked := by
  unfold Core.setP; split <;> rfl
@[simp] theorem Core.setP_launch (r : Nat) (v : PBit) : (k.setP r v).launch = k.launch := by
  unfold Core.setP; split <;> rfl

end Scalars

/-! ## Outcomes -/

/-- What a command on the module answers. -/
theorem devNext_eq (s : State) (f : Device → Device) :
    devNext s f = .next (if s.dev.power.input then s.onDev f else s) := rfl

theorem devNext_on {s : State} (f : Device → Device) (h : s.dev.power.input = true) : devNext s f = .next (s.onDev f) := by
  simp [devNext, h]

theorem memNext_on {s : State} (f : State → State) (h : s.dev.power.input = true) :
    memNext s f = .next { s with mem := (f s).mem, dev := (f s).dev } := by
  simp [memNext, h]

theorem devNext_off {s : State} (f : Device → Device) (h : s.dev.power.input = false) : devNext s f = .next s := by
  simp [devNext, h]

theorem memNext_off {s : State} (f : State → State) (h : s.dev.power.input = false) : memNext s f = .next s := by
  simp [memNext, h]

/-- A command whose function keeps the queue answers its result. -/
theorem memNext_keep {s : State} {f : State → State} (h : s.dev.power.input = true) (hp : (f s).pending = s.pending) :
    memNext s f = .next (f s) := by
  rw [memNext_on f h]
  congr 1
  cases hf : f s
  simp [hf] at hp
  simp [hp]

end Sys2Proof.Machine
end

