-- ==== Sys2Proof/Laws/Events.lean ====
section
/-!
SUPPORT. Laws of event records: everything that emitting records, recording trace packets and sending outputs can change, said
once.
-/
namespace Sys2Proof.Machine

/-- The registers that reporting counts in: the counters of the module, TRACE_STAT and FN_STAT (R449, R608, R618). -/
def reportReg (o : Nat) : Prop :=
  (∃ k < 8, o = Reg.dbgCnt k) ∨ (∃ p < 132, o = Reg.traceStat p) ∨ ∃ f < 64, o = Reg.fnStat f

/-- A core after records: only csr.ipend may differ. -/
def Core.Notified (k l : Core) : Prop := ∃ b, l = { k with csr := { k.csr with ipend := b } }

/-- A function after records: only its rings and pending bits may differ. -/
def Function.Signalled (x y : Function) : Prop :=
  y.queues = x.queues ∧ y.msix = x.msix ∧ y.config = x.config ∧ y.apErrors = x.apErrors ∧ y.command = x.command

/-- The module after records, trace packets or outputs: all but the history, the counters, the rings, the trace partitions,
the outputs, the fatal mark and csr.ipend is as before. -/
structure Device.Reports (d e : Device) : Prop where
  fresh : e.fresh = d.fresh
  clock : e.clock = d.clock
  regs : ∀ o, ¬ reportReg o → e.reg o = d.reg o
  chutes : e.chutes = d.chutes
  routers : e.routers = d.routers
  channels : e.channels = d.channels
  memsys : e.memsys = d.memsys
  fns : ∀ f, (d.fn f).Signalled (e.fn f)
  entries : e.entries = d.entries
  cores : ∀ c : CoreId, c.core < 64 ∧ c.cluster < 16 → (d.core c).Notified (e.core c)
  clusters : e.clusters = d.clusters
  tensors : e.tensors = d.tensors
  units : e.units = d.units
  surv : e.surv = d.surv
  host : e.host = d.host
  ports : e.ports = d.ports
  peer : e.peer = d.peer
  rst : e.rst = d.rst
  power : e.power = d.power

theorem Core.Notified.refl (k : Core) : k.Notified k := ⟨k.csr.ipend, rfl⟩

theorem Core.Notified.trans {k l m : Core} (h : k.Notified l) (h' : l.Notified m) : k.Notified m := by
  obtain ⟨b, rfl⟩ := h
  obtain ⟨b', rfl⟩ := h'
  exact ⟨b', rfl⟩

theorem Function.Signalled.refl (x : Function) : x.Signalled x := ⟨rfl, rfl, rfl, rfl, rfl⟩

theorem Function.Signalled.trans {x y z : Function} (h : x.Signalled y) (h' : y.Signalled z) : x.Signalled z := by
  obtain ⟨a, b, c, d, e⟩ := h
  obtain ⟨a', b', c', d', e'⟩ := h'
  exact ⟨a'.trans a, b'.trans b, c'.trans c, d'.trans d, e'.trans e⟩

namespace Device.Reports

theorem refl (d : Device) : d.Reports d :=
  ⟨rfl, rfl, fun _ _ => rfl, rfl, rfl, rfl, rfl, fun _ => .refl _, rfl, fun _ _ => .refl _, rfl, rfl, rfl, rfl, rfl, rfl, rfl, rfl, rfl⟩

theorem trans {d e f : Device} (h : d.Reports e) (h' : e.Reports f) : d.Reports f where
  fresh := h'.fresh.trans h.fresh
  clock := h'.clock.trans h.clock
  regs o ho := (h'.regs o ho).trans (h.regs o ho)
  chutes := h'.chutes.trans h.chutes
  routers := h'.routers.trans h.routers
  channels := h'.channels.trans h.channels
  memsys := h'.memsys.trans h.memsys
  fns f := (h.fns f).trans (h'.fns f)
  entries := h'.entries.trans h.entries
  cores c hc := (h.cores c hc).trans (h'.cores c hc)
  clusters := h'.clusters.trans h.clusters
  tensors := h'.tensors.trans h.tensors
  units := h'.units.trans h.units
  surv := h'.surv.trans h.surv
  host := h'.host.trans h.host
  ports := h'.ports.trans h.ports
  peer := h'.peer.trans h.peer
  rst := h'.rst.trans h.rst
  power := h'.power.trans h.power

/-- A register that reporting counts in is written. -/
theorem setReg (d : Device) {o : Nat} (v : W64) (h : reportReg o) : d.Reports (d.setReg o v) where
  fresh := rfl
  clock := rfl
  regs p hp := Device.reg_setReg_other d v (fun e => hp (e ▸ h))
  chutes := rfl
  routers := rfl
  channels := rfl
  memsys := rfl
  fns _ := .refl _
  entries := rfl
  cores _ _ := .refl _
  clusters := rfl
  tensors := rfl
  units := rfl
  surv := rfl
  host := rfl
  ports := rfl
  peer := rfl
  rst := rfl
  power := rfl

theorem setRf (d : Device) {o : Nat} (hi lo v : Nat) (h : reportReg o) : d.Reports (d.setRf o hi lo v) := setReg d _ h
theorem addRf (d : Device) {o : Nat} (hi lo n : Nat) (h : reportReg o) : d.Reports (d.addRf o hi lo n) := setReg d _ h
theorem setRegN (d : Device) {o : Nat} (v : Nat) (h : reportReg o) : d.Reports (d.setRegN o v) := setReg d _ h

theorem dbgCnt {k : Nat} (h : k < 8) : reportReg (Reg.dbgCnt k) := .inl ⟨k, h, rfl⟩
theorem traceStat {p : Nat} (h : p < 132) : reportReg (Reg.traceStat p) := .inr (.inl ⟨p, h, rfl⟩)
theorem fnStat {f : Nat} (h : f < 64) : reportReg (Reg.fnStat f) := .inr (.inr ⟨f, h, rfl⟩)

theorem setTrace (d : Device) (p : Nat) (t : Trace) : d.Reports (d.setTrace p t) :=
  ⟨rfl, rfl, fun _ _ => rfl, rfl, rfl, rfl, rfl, fun _ => .refl _, rfl, fun _ _ => .refl _, rfl, rfl, rfl, rfl, rfl, rfl, rfl, rfl, rfl⟩

theorem setLog (d : Device) (l : EventLog) : d.Reports { d with log := l } :=
  ⟨rfl, rfl, fun _ _ => rfl, rfl, rfl, rfl, rfl, fun _ => .refl _, rfl, fun _ _ => .refl _, rfl, rfl, rfl, rfl, rfl, rfl, rfl, rfl, rfl⟩

theorem setFatal (d : Device) (f : Option FatalState) : d.Reports { d with fatal := f } :=
  ⟨rfl, rfl, fun _ _ => rfl, rfl, rfl, rfl, rfl, fun _ => .refl _, rfl, fun _ _ => .refl _, rfl, rfl, rfl, rfl, rfl, rfl, rfl, rfl, rfl⟩

theorem setOut (d : Device) (l : List Output) : d.Reports { d with out := l } :=
  ⟨rfl, rfl, fun _ _ => rfl, rfl, rfl, rfl, rfl, fun _ => .refl _, rfl, fun _ _ => .refl _, rfl, rfl, rfl, rfl, rfl, rfl, rfl, rfl, rfl⟩

theorem setFn (d : Device) (f : Nat) (x : Function) (h : (d.fn f).Signalled x) : d.Reports (d.setFn f x) where
  fresh := rfl
  clock := rfl
  regs _ _ := rfl
  chutes := rfl
  routers := rfl
  channels := rfl
  memsys := rfl
  fns g := by
    by_cases hg : g = f
    · subst hg; simpa using h
    · rw [Device.fn_setFn_other d x hg]; exact .refl _
  entries := rfl
  cores _ _ := .refl _
  clusters := rfl
  tensors := rfl
  units := rfl
  surv := rfl
  host := rfl
  ports := rfl
  peer := rfl
  rst := rfl
  power := rfl

/-- A core's csr.ipend takes a notification. -/
theorem notify (d : Device) (c : CoreId) (b : Nat) (hc : c.core < 64 ∧ c.cluster < 16) :
    d.Reports (d.onCore c fun k => k.notify b) where
  fresh := rfl
  clock := rfl
  regs _ _ := rfl
  chutes := rfl
  routers := rfl
  channels := rfl
  memsys := rfl
  fns _ := .refl _
  entries := rfl
  cores e he := by
    by_cases h : coreKey e = coreKey c
    · obtain rfl := coreKey_inj he hc h
      rw [Device.core_onCore_same]
      exact ⟨_, rfl⟩
    · rw [Device.core_onCore_other d _ h]; exact .refl _
  clusters := rfl
  tensors := rfl
  units := rfl
  surv := rfl
  host := rfl
  ports := rfl
  peer := rfl
  rst := rfl
  power := rfl

/-- An output leaves the module. -/
theorem send (d : Device) (o : Output) : d.Reports (d.send o) := by
  unfold Device.send
  split
  · exact setOut d _
  · exact (setOut d _).trans (addRf _ _ _ _ (dbgCnt (by decide)))

theorem signal (d : Device) (f v : Nat) : d.Reports (d.signal f v) := by
  unfold Device.signal
  simp only
  split
  · exact refl d
  · split
    · exact setFn d f _ ⟨rfl, rfl, rfl, rfl, rfl⟩
    · exact send d _

theorem setRing (d : Device) (f : Nat) (ev : Bool) (i : Nat) (r : RingState) : d.Reports (d.setRing f ev i r) := by
  unfold Device.setRing
  refine setFn d f _ ?_
  split <;> exact ⟨rfl, rfl, rfl, rfl, rfl⟩

theorem signalRing (d : Device) (f : Nat) (ev : Bool) (i : Nat) : d.Reports (d.signalRing f ev i) := by
  unfold Device.signalRing
  split
  · exact refl d
  · exact (setRing d _ _ _ _).trans (signal _ _ _)

theorem ringPut (d : Device) (f : Nat) (ev : Bool) (i n : Nat) (bs : List Byte) (r : RingState) :
    d.Reports (d.ringPut f ev i n bs r) := by
  unfold Device.ringPut
  simp only
  split
  · exact ((setRing d _ _ _ _).trans (send _ _)).trans (signalRing _ _ _ _)
  · exact (setRing d _ _ _ _).trans (send _ _)

theorem dropEvent (d : Device) (f : Nat) : d.Reports (d.dropEvent f) := by
  unfold Device.dropEvent
  split
  · exact (addRf d _ _ _ (fnStat ‹_›)).trans (addRf _ _ _ _ (dbgCnt (by decide)))
  · exact addRf _ _ _ _ (dbgCnt (by decide))

theorem ringEvent (d : Device) (o : Option (Nat × Nat)) (r : EventRec) : d.Reports (d.ringEvent o r) := by
  unfold Device.ringEvent
  split
  · exact dropEvent d _
  · split
    · exact dropEvent d _
    · split
      · exact (setRing d _ _ _ _).trans (dropEvent _ _)
      · exact ringPut d _ _ _ _ _ _

theorem traceAppend (d : Device) {p : Nat} (hp : p < 132) (bs : List Byte) : d.Reports (d.traceAppend p bs) := by
  unfold Device.traceAppend
  simp only
  split
  · exact ((setTrace d _ _).trans (setRf _ _ _ _ (traceStat hp))).trans (setRf _ _ _ _ (traceStat hp))
  · exact (setTrace d _ _).trans (setRf _ _ _ _ (traceStat hp))

theorem traceFull (d : Device) {p : Nat} (hp : p < 132) : d.Reports (d.traceFull p).1 := by
  unfold Device.traceFull
  simp only
  split
  · exact ((traceAppend d hp _).trans (setRf _ _ _ _ (traceStat hp))).trans (setRf _ _ _ _ (traceStat hp))
  · exact (setRf _ _ _ _ (traceStat hp)).trans (setRf _ _ _ _ (traceStat hp))

theorem tracePacket (d : Device) {p : Nat} (hp : p < 132) (bs : List Byte) : d.Reports (d.tracePacket p bs).1 := by
  unfold Device.tracePacket
  split
  · exact refl d
  · split
    · exact traceAppend d hp _
    · exact traceFull d hp

theorem traceSync (d : Device) {p : Nat} (hp : p < 132) : d.Reports (d.traceSync p).1 := by
  unfold Device.traceSync
  split
  · exact (tracePacket d hp _).trans (setTrace _ _ _)
  · exact refl d

theorem traceStage (d : Device) {p : Nat} (hp : p < 132) (bs : List Byte) : d.Reports (d.traceStage p bs).1 := by
  unfold Device.traceStage
  simp only
  split
  · exact refl d
  · split
    · split
      · exact setTrace d _ _
      · exact (setTrace d _ _).trans (addRf _ _ _ _ (traceStat hp))
    · exact (tracePacket d hp _).trans (traceSync _ hp)

theorem brWrite (d : Device) {p : Nat} (hp : p < 132) : d.Reports (d.brWrite p).1 := by
  unfold Device.brWrite
  simp only
  split
  · exact refl d
  · exact (setTrace d _ _).trans (traceStage _ hp _)

theorem traceWrite (d : Device) {p : Nat} (hp : p < 132) (bs : List Byte) : d.Reports (d.traceWrite p bs).1 :=
  (brWrite d hp).trans (traceStage _ hp _)

theorem brOutcome (d : Device) {p : Nat} (hp : p < 132) (t : Bool) : d.Reports (d.brOutcome p t).1 := by
  unfold Device.brOutcome
  split
  · exact refl d
  · simp only
    split
    · exact (setTrace d _ _).trans (brWrite _ hp)
    · exact setTrace d _ _

theorem traceStart (d : Device) {p : Nat} (hp : p < 132) : d.Reports (d.traceStart p).1 := by
  unfold Device.traceStart
  exact (((setTrace d _ _).trans (setRegN _ _ (traceStat hp))).trans (traceStage _ hp _)).trans (setTrace _ _ _)

theorem traceStop (d : Device) {p : Nat} (hp : p < 132) : d.Reports (d.traceStop p).1 := by
  unfold Device.traceStop
  split
  · exact refl d
  · exact (traceWrite d hp _).trans (setRf _ _ _ _ (traceStat hp))

theorem traceTrigger (d : Device) {p : Nat} (hp : p < 132) (a : Nat) : d.Reports (d.traceTrigger p a).1 := by
  unfold Device.traceTrigger
  split
  · exact refl d
  · exact ((traceWrite d hp _).trans (setTrace _ _ _)).trans (setRf _ _ _ _ (traceStat hp))

theorem foldl {α : Type} (f : Device → α → Device) (hf : ∀ (d : Device) a, d.Reports (f d a)) (l : List α) (d : Device) :
    d.Reports (l.foldl f d) := by
  induction l generalizing d with
  | nil => exact refl d
  | cons a r ih => exact (hf d a).trans (ih (f d a))

theorem foldlPair {α β : Type} (f : Device × β → α → Device × β) (l : List α)
    (hf : ∀ (d : Device × β), ∀ a ∈ l, d.1.Reports (f d a).1) (d : Device × β) : d.1.Reports (l.foldl f d).1 := by
  induction l generalizing d with
  | nil => exact refl d.1
  | cons a r ih =>
    exact (hf d a (List.mem_cons_self ..)).trans (ih (fun d b hb => hf d b (List.mem_cons_of_mem _ hb)) (f d a))

theorem traceResume (d : Device) {p : Nat} (hp : p < 132) : d.Reports (d.traceResume p).1 := by
  unfold Device.traceResume
  simp only
  split
  · exact refl d
  · have h0 := (setTrace d p { d.trace p with staged := [], lost := 0 }).trans
      (foldlPair (fun (a : Device × List Ev) bs => ((a.1.tracePacket p bs).1, a.2 ++ (a.1.tracePacket p bs).2))
        (d.trace p).staged (fun a bs _ => tracePacket a.1 hp bs) (d.setTrace p { d.trace p with staged := [], lost := 0 }, []))
    split
    · exact h0
    · exact ((h0.trans (tracePacket _ hp _)).trans (tracePacket _ hp _)).trans (setTrace _ _ _)

/-- The control core that watches a source is a core of the module's numbering. -/
theorem watcher_bounds {s : EvSrc} {p : Nat} (h : p ∈ watchers s) : (partCore p).core < 64 ∧ (partCore p).cluster < 16 := by
  unfold watchers at h
  unfold partCore
  split
  · simp only [ctrlOf, clusterOf]; omega
  · simp only [steward]
    split at h
    · simp only [List.mem_cons, List.not_mem_nil, or_false] at h
      omega
    · split at h
      · split at h
        · simp only [List.mem_cons, List.not_mem_nil, or_false] at h
          omega
        · simp at h
      · simp at h

theorem watcher_part {s : EvSrc} {p : Nat} (h : p ∈ watchers s) : p < 132 := by
  unfold watchers at h
  split at h
  · simp only [List.mem_cons, List.not_mem_nil, or_false] at h
    omega
  · split at h
    · split at h
      · simp only [List.mem_cons, List.not_mem_nil, or_false] at h
        omega
      · simp at h
    · simp at h

theorem watcherFold (l : List Nat) (d : Device) (h : ∀ p ∈ l, (partCore p).core < 64 ∧ (partCore p).cluster < 16) :
    d.Reports (l.foldl (fun d p => d.onCore (partCore p) (fun k => k.notify 2)) d) := by
  induction l generalizing d with
  | nil => exact refl d
  | cons p r ih =>
    exact (notify d _ _ (h p (List.mem_cons_self ..))).trans (ih _ fun q hq => h q (List.mem_cons_of_mem _ hq))

theorem emitOne (d : Device) (e : Ev) : d.Reports (d.emitOne e).1 := by
  unfold Device.emitOne
  simp only
  refine trans ?_ (foldlPair _ _ ?_ _)
  · have h : ∀ (l : EventLog) (r : EventRec), d.Reports ((watchers e.src).foldl
        (fun d p => d.onCore (partCore p) (fun k => k.notify 2))
        ((({ d with log := l } : Device).addRf (Reg.dbgCnt 5) 47 0 1).ringEvent e.origin r)) := fun l r =>
      (((setLog d l).trans (addRf _ 47 0 1 (dbgCnt (by decide)))).trans (ringEvent _ e.origin r)).trans
        (watcherFold (watchers e.src) _ fun p hp => watcher_bounds hp)
    simp only
    split
    · exact (h _ _).trans (setFatal _ _)
    · exact h _ _
  · intro a p hw
    split
    · exact traceTrigger a.1 (watcher_part hw) 2
    · exact refl _

theorem emitFuel (n : Nat) (d : Device) (es : List Ev) : d.Reports (Device.emitFuel n d es) := by
  induction n generalizing d es with
  | zero => exact refl d
  | succ n ih =>
    unfold Device.emitFuel
    exact foldl _ (fun d e => (emitOne d e).trans (ih _ _)) es d

/-- Emitting records changes nothing but the reports. -/
theorem emitAll (d : Device) (es : List Ev) : d.Reports (d.emitAll es) := emitFuel 8 d es

/-- Emitting one record changes nothing but the reports. -/
theorem emit (d : Device) (src : EvSrc) (code : Nat) (cls : EvClass) (p : Bool) (det : List Byte) (o : Option (Nat × Nat)) :
    d.Reports (d.emit src code cls p det o) := emitAll d _

/-- A trace step with its records changes nothing but the reports. -/
theorem traced {d : Device} {r : Device × List Ev} (h : d.Reports r.1) : d.Reports (Device.traced r) := h.trans (emitAll _ _)

theorem islandNote (d : Device) {cl : ClusterId} (hp : partOf (ctrlOf cl) < 132) (b : Bool) (i : Nat) : d.Reports (d.islandNote cl b i) := by
  unfold Device.islandNote
  simp only
  split
  · exact traced (traceWrite d hp _)
  · exact refl d

theorem ownIslandStop (d : Device) (c : CoreId) : d.Reports (d.ownIslandStop c) := setTrace d _ _

theorem ownIslandStart (d : Device) {c : CoreId} (hp : partOf c < 132) :
    d.Reports (d.ownIslandStart c) := by
  unfold Device.ownIslandStart
  simp only
  split
  · exact refl d
  · rename_i t _
    have h1 := setTrace d (partOf c) { d.trace (partOf c) with ownStop := none }
    have h2 : d.Reports (if c.die < 8 ∧ (d.setTrace (partOf c) { d.trace (partOf c) with ownStop := none }).rbit
        (Reg.traceCtl (partOf c)) 3 = true then
        (Device.traced ((d.setTrace (partOf c) { d.trace (partOf c) with ownStop := none }).traceWrite (partOf c)
          (islandPacket true 0x22 t))).islandNote (cluOfCore c) false 0x22
        else d.setTrace (partOf c) { d.trace (partOf c) with ownStop := none }) := by
      split
      · rename_i hc
        have hq : partOf (ctrlOf (cluOfCore c)) < 132 := by
          have h8 : c.die ≠ 8 := by omega
          simpa [partOf, ctrlOf, cluOfCore, h8] using hp
        exact (h1.trans (traced (traceWrite _ hp _))).trans (islandNote _ hq _ _)
      · exact h1
    have h3 : ∀ e : Device, d.Reports e → d.Reports (Device.traced (e.traceWrite (partOf c) (e.syncPacket (partOf c)))) :=
      fun e he => he.trans (traced (traceWrite _ hp _))
    have h4 : ∀ (e : Device) (b : Bool) (t : Trace), d.Reports e → d.Reports (if b = true then e.setTrace (partOf c) t else e) := by
      intro e b t he
      split
      · exact he.trans (setTrace _ _ _)
      · exact he
    exact h4 _ _ _ (h3 _ h2)

end Device.Reports

/-- Where the registers that reporting counts in stand. -/
theorem reportReg_bounds {o : Nat} (h : reportReg o) : (0x11_0000 ≤ o ∧ o < 0x15_0000) ∨ (0x30_0000 ≤ o ∧ o < 0x30_2000) := by
  rcases h with ⟨k, hk, rfl⟩ | ⟨p, hp, rfl⟩ | ⟨f, hf, rfl⟩
  · simp only [Reg.dbgCnt]; omega
  · simp only [Reg.traceStat]; omega
  · simp only [Reg.fnStat, Reg.fn]; omega

/-- Partition numbers of cores of the module. -/
theorem partOf_lt {c : CoreId} (h : corePresent c = true) : partOf c < 132 := by
  simp only [corePresent] at h
  simp only [partOf]
  split at h <;> simp only [Bool.and_eq_true, decide_eq_true_eq] at h
  · rename_i h8; simp only [h8, if_true]; omega
  · rename_i h8; simp only [h8, if_false]; omega

/-! ## The newest record -/

@[simp] theorem Device.send_log (d : Device) (o : Output) : (d.send o).log = d.log := by
  unfold Device.send; split <;> rfl

theorem Device.signal_log (d : Device) (f v : Nat) : (d.signal f v).log = d.log := by
  unfold Device.signal; simp only; split
  · rfl
  · split
    · rfl
    · simp

theorem Device.ringPut_log (d : Device) (f : Nat) (ev : Bool) (i n : Nat) (bs : List Byte) (r : RingState) :
    (d.ringPut f ev i n bs r).log = d.log := by
  unfold Device.ringPut
  simp only
  split
  · unfold Device.signalRing
    split
    · simp [Device.setRing]
    · rw [Device.signal_log]; simp [Device.setRing]
  · simp [Device.setRing]

theorem Device.dropEvent_log (d : Device) (f : Nat) : (d.dropEvent f).log = d.log := by
  unfold Device.dropEvent; split <;> rfl

theorem Device.ringEvent_log (d : Device) (o : Option (Nat × Nat)) (r : EventRec) : (d.ringEvent o r).log = d.log := by
  unfold Device.ringEvent
  split
  · exact dropEvent_log d _
  · split
    · exact dropEvent_log d _
    · split
      · rw [dropEvent_log]; rfl
      · exact ringPut_log d _ _ _ _ _ _

theorem Device.watcherFold_log (l : List Nat) (d : Device) :
    (l.foldl (fun d p => d.onCore (partCore p) (fun k => k.notify 2)) d).log = d.log := by
  induction l generalizing d with
  | nil => rfl
  | cons p r ih => rw [List.foldl_cons, ih]; rfl

/-- Where no partition is writing, an emitted record is the newest of the history, and one more is counted (R37, R628). -/
theorem Device.emit_log {d : Device} (h : ∀ p < 132, d.rbit (Reg.traceStat p) 0 = false) (src : EvSrc) (code : Nat) (cls : EvClass)
    (poison : Bool) (det : List Byte) (o : Option (Nat × Nat)) :
    (d.emit src code cls poison det o).log =
      ⟨((⟨BitVec.ofNat 64 d.ns, src, code, cls, poison, false, detailOf det⟩ : EventRec) :: d.log.history).take 4096,
        d.log.count + 1⟩ := by
  have key : ∀ (e : Ev), (d.emitOne e).2 = [] ∧ (d.emitOne e).1.log =
      ⟨((⟨BitVec.ofNat 64 d.ns, e.src, e.code, e.cls, e.poison, false, detailOf e.detail⟩ : EventRec) :: d.log.history).take 4096,
        d.log.count + 1⟩ := by
    intro e
    unfold Device.emitOne
    simp only
    have hf : ∀ (l : List Nat) (_ : ∀ p ∈ l, p < 132) (a : Device × List Ev), (l.foldl (fun (a : Device × List Ev) p =>
        if (d.rbit (Reg.traceStat p) 0 && decide (a.1.rf (Reg.traceCtl p) 47 32 = e.code) && decide (e.code ≠ 0)) = true then
          ((a.1.traceTrigger p 2).1, a.2 ++ (a.1.traceTrigger p 2).2)
        else a) a) = a := by
      intro l
      induction l with
      | nil => intro _ a; rfl
      | cons p r ih =>
        intro hl a
        rw [List.foldl_cons, h p (hl p (List.mem_cons_self))]
        simpa using ih (fun q hq => hl q (List.mem_cons_of_mem _ hq)) a
    rw [hf _ fun p hp => Device.Reports.watcher_part hp]
    refine ⟨rfl, ?_⟩
    simp only
    split
    · simp only
      rw [Device.watcherFold_log, Device.ringEvent_log]
      rfl
    · rw [Device.watcherFold_log, Device.ringEvent_log]
      rfl
  have h2 := key ⟨src, code, cls, poison, det, o⟩
  have hnil : ∀ n (x : Device), Device.emitFuel n x [] = x := by
    intro n x
    cases n <;> rfl
  unfold Device.emit Device.emitAll
  rw [Device.emitFuel, List.foldl_cons, List.foldl_nil]
  simp only
  rw [h2.1, hnil]
  exact h2.2

end Sys2Proof.Machine
end

