-- ==== Sys2Proof/Laws/Front.lean ====
section
/-!
SUPPORT. Laws of the scalar pipe: everything that executing an instruction can do, said once.
-/
namespace Sys2Proof.Machine

/-- The parts of the premise under which an instruction has its own effect. -/
theorem State.executes_iff (s : State) (c : CoreId) (opc : Nat) (w : Ins) : s.executes c opc w = true ↔
    s.dev.power.input = true ∧ s.dev.canRun c = true ∧ s.fetchFault c = none ∧ insLegal opc w = true ∧
      guardOf (s.dev.core c) w = ⟨true, false⟩ ∧ s.dev.preExc c opc w = none ∧
      (sRegs opc w).any (fun r => (s.dev.core c).pendingS.contains r) = false := by
  simp only [State.executes, Bool.and_eq_true, decide_eq_true_eq, Bool.not_eq_true', and_assoc, Option.isNone_iff_eq_none]

/-- A core that can run is running. -/
theorem Device.canRun_running {d : Device} {c : CoreId} (h : d.canRun c = true) : (d.core c).run = .running := by
  simp only [Device.canRun, Bool.and_eq_true, decide_eq_true_eq] at h
  exact h.1.2

theorem Device.canRun_present {d : Device} {c : CoreId} (h : d.canRun c = true) : corePresent c = true := by
  simp only [Device.canRun, Bool.and_eq_true, decide_eq_true_eq] at h
  exact h.1.1

theorem State.executes_input {s : State} {c : CoreId} {opc : Nat} {w : Ins} (h : s.executes c opc w = true) :
    s.dev.power.input = true := ((s.executes_iff c opc w).mp h).1

theorem State.executes_run {s : State} {c : CoreId} {opc : Nat} {w : Ins} (h : s.executes c opc w = true) :
    (s.dev.core c).run = .running := Device.canRun_running ((s.executes_iff c opc w).mp h).2.1

theorem State.executes_legal {s : State} {c : CoreId} {opc : Nat} {w : Ins} (h : s.executes c opc w = true) :
    insLegal opc w = true := ((s.executes_iff c opc w).mp h).2.2.2.1

/-- Where an instruction has its own effect, what executing it does is what its body says. -/
theorem State.runIns_body {s : State} {c : CoreId} {opc : Nat} {w : Ins} (body : State → Act) (h : s.executes c opc w = true) :
    s.runIns c opc w body = match body s with
      | .hold => s
      | .raise e => s.onDev fun d => d.raise c e
      | .done t => t.onDev fun d => if d.stillRuns c then (d.retire c).branchOutcome c opc w true else d
      | .jump t target => t.onDev fun d => if d.stillRuns c then (d.retireTo c target).branchOutcome c opc w true else d
      | .busy t => t := by
  obtain ⟨_, h2, h3, h4, h5, h6, h7⟩ := (s.executes_iff c opc w).mp h
  simp only [State.runIns, h2, h3, h4, h5, h6, h7, Bool.not_true, Bool.false_and, Bool.false_eq_true, if_false]
  all_goals (cases body s <;> rfl)

/-- An instruction that is no BRA and no CALL leaves no branch outcome. -/
theorem Device.branchOutcome_other (d : Device) (c : CoreId) {opc : Nat} (w : Ins) (t : Bool) (h : opc ≠ 0x50) (h' : opc ≠ 0x51) :
    d.branchOutcome c opc w t = d := by
  simp [Device.branchOutcome, h, h']

/-- A compute core leaves no branch outcome. -/
theorem Device.branchOutcome_compute (d : Device) {c : CoreId} (opc : Nat) (w : Ins) (t : Bool) (h : isCompute c = true) :
    d.branchOutcome c opc w t = d := by
  simp [Device.branchOutcome, isControl, h]

theorem Device.retire_eq (d : Device) (c : CoreId) : d.retire c = d.onCore c Core.retired := rfl

theorem Device.retireTo_eq (d : Device) (c : CoreId) (t : W64) : d.retireTo c t = d.onCore c fun k => k.retiredTo t := rfl

/-- Executing an instruction keeps the queue where its body does. -/
theorem State.runIns_pending {s : State} {c : CoreId} {opc : Nat} {w : Ins} {body : State → Act}
    (h : match body s with
      | .hold => True
      | .raise _ => True
      | .done t => t.pending = s.pending
      | .jump t _ => t.pending = s.pending
      | .busy t => t.pending = s.pending) : (s.runIns c opc w body).pending = s.pending := by
  unfold State.runIns
  simp only
  repeat' split
  all_goals first | rfl | (simp_all; done) | skip
  all_goals (rename_i he; rw [he] at h; simpa using h)

/-- Executing an instruction keeps memory in its canonical form where its body does. -/
theorem State.runIns_wf {s : State} {c : CoreId} {opc : Nat} {w : Ins} {body : State → Act} (hs : s.mem.wf = true)
    (h : match body s with
      | .hold => True
      | .raise _ => True
      | .done t => t.mem.wf = true
      | .jump t _ => t.mem.wf = true
      | .busy t => t.mem.wf = true) : (s.runIns c opc w body).mem.wf = true := by
  unfold State.runIns
  simp only
  repeat' split
  all_goals first | exact hs | skip
  all_goals (rename_i he; rw [he] at h; exact h)

/-- An instruction that writes an s register from the core's state. -/
theorem intoS_executes {s : State} {c : CoreId} {opc : Nat} {w : Ins} (f : Core → PVal) (h : s.executes c opc w = true)
    (ho : opc ≠ 0x50 ∧ opc ≠ 0x51) :
    intoS s c opc w f = .next (s.onCore c fun k => (k.setS w.d.toNat (f k)).retired) := by
  have hr := State.executes_run h
  rw [intoS, memNext_keep (State.executes_input h)]
  · congr 1
    rw [State.runIns_body _ h]
    simp [State.putS, State.onDev, State.onCore, Device.stillRuns, hr, Device.branchOutcome_other _ _ _ _ ho.1 ho.2,
      Device.retire_eq, Device.onCore]
  · exact State.runIns_pending rfl

/-- An instruction that writes a p register from the core's state. -/
theorem intoP_executes {s : State} {c : CoreId} {opc : Nat} {w : Ins} (f : Core → PBit) (h : s.executes c opc w = true)
    (ho : opc ≠ 0x50 ∧ opc ≠ 0x51) :
    intoP s c opc w f = .next (s.onCore c fun k => (k.setP w.d.toNat (f k)).retired) := by
  have hr := State.executes_run h
  rw [intoP, memNext_keep (State.executes_input h)]
  · congr 1
    rw [State.runIns_body _ h]
    simp [State.putP, State.onDev, State.onCore, Device.stillRuns, hr, Device.branchOutcome_other _ _ _ _ ho.1 ho.2,
      Device.retire_eq, Device.onCore]
  · exact State.runIns_pending rfl

end Sys2Proof.Machine
end

