-- ==== Sys2Proof/Laws/Memory.lean ====
section
/-!
SUPPORT. Laws of device memory: what a byte reads as after a write, and that every operation keeps the canonical form
of Memory.wf.
-/
namespace Sys2Proof.Machine

/-! ## Rising lists of numbers -/

theorem risingNats_cons (a : Nat) (l : List Nat) : risingNats (a :: l) = (l.all (fun b => decide (a < b)) && risingNats l) := by
  induction l generalizing a with
  | nil => rfl
  | cons b r ih =>
    have hb := ih b
    simp only [risingNats, List.all_cons]
    by_cases h : a < b
    · simp only [h, decide_true, Bool.true_and]
      rw [hb]
      cases h1 : r.all (fun c => decide (b < c)) with
      | false => simp
      | true =>
        have : r.all (fun c => decide (a < c)) = true := by
          simp only [List.all_eq_true, decide_eq_true_eq] at h1 ⊢
          intro z hz
          have := h1 z hz
          omega
        simp [this]
    · simp [h]

/-- An insertion keeps the rising order. -/
theorem risingNats_sinsert {t : List Nat} (k : Nat) (h : risingNats t = true) : risingNats (sinsert t k) = true := by
  induction t with
  | nil => rfl
  | cons j r ih =>
    rw [risingNats_cons, Bool.and_eq_true] at h
    simp only [sinsert]
    have ha := h.1
    simp only [List.all_eq_true, decide_eq_true_eq] at ha
    split
    · rename_i hk
      rw [risingNats_cons, Bool.and_eq_true, risingNats_cons, Bool.and_eq_true]
      refine ⟨?_, h⟩
      simp only [List.all_cons, Bool.and_eq_true, decide_eq_true_eq, List.all_eq_true]
      exact ⟨hk, fun z hz => by have := ha z hz; omega⟩
    · split
      · rw [risingNats_cons, Bool.and_eq_true]; exact h
      · rw [risingNats_cons, Bool.and_eq_true]
        refine ⟨?_, ih h.2⟩
        simp only [List.all_eq_true, decide_eq_true_eq, mem_sinsert]
        rintro z (hz | hz)
        · omega
        · exact ha z hz

/-- A filter keeps the rising order. -/
theorem risingNats_filter {t : List Nat} (f : Nat → Bool) (h : risingNats t = true) : risingNats (t.filter f) = true := by
  induction t with
  | nil => rfl
  | cons j r ih =>
    rw [risingNats_cons, Bool.and_eq_true] at h
    simp only [List.filter_cons]
    split
    · rw [risingNats_cons, Bool.and_eq_true]
      refine ⟨?_, ih h.2⟩
      have ha := h.1
      simp only [List.all_eq_true, decide_eq_true_eq, List.mem_filter] at ha ⊢
      exact fun z hz => ha z hz.1
    · exact ih h.2

theorem risingNats_sremove {t : List Nat} (k : Nat) (h : risingNats t = true) : risingNats (sremove t k) = true :=
  risingNats_filter _ h

/-! ## The canonical form -/

theorem Memory.wf_iff (m : Memory) : m.wf = true ↔
    tsorted m.cells = true ∧ (∀ c ∈ m.cells, c.2 ≠ memDefault) ∧ risingNats m.poison = true ∧ risingNats m.rewritten = true := by
  simp [Memory.wf, and_assoc]

/-- Empty memory is in the canonical form. -/
@[simp] theorem Memory.wf_empty : Memory.wf ⟨[], [], []⟩ = true := rfl

theorem tput_values {t : Table Byte} {k : Nat} {b : Byte} (h : ∀ c ∈ t, c.2 ≠ memDefault) (hb : b ≠ memDefault) :
    ∀ c ∈ tput t k b, c.2 ≠ memDefault := by
  induction t with
  | nil => simpa [tput] using hb
  | cons p r ih =>
    obtain ⟨j, x⟩ := p
    have hr : ∀ c ∈ r, c.2 ≠ memDefault := fun c hc => h c (List.mem_cons_of_mem _ hc)
    simp only [tput]
    split
    · intro c hc
      rcases List.mem_cons.mp hc with e | e
      · subst e; exact hb
      · exact h c e
    · split
      · intro c hc
        rcases List.mem_cons.mp hc with e | e
        · subst e; exact hb
        · exact hr c e
      · intro c hc
        rcases List.mem_cons.mp hc with e | e
        · subst e; exact h _ (List.mem_cons_self ..)
        · exact ih hr c e

theorem tdel_values {t : Table Byte} {k : Nat} (h : ∀ c ∈ t, c.2 ≠ memDefault) : ∀ c ∈ tdel t k, c.2 ≠ memDefault := by
  induction t with
  | nil => exact h
  | cons p r ih =>
    obtain ⟨j, x⟩ := p
    have hr : ∀ c ∈ r, c.2 ≠ memDefault := fun c hc => h c (List.mem_cons_of_mem _ hc)
    simp only [tdel]
    split
    · exact hr
    · intro c hc
      rcases List.mem_cons.mp hc with e | e
      · subst e; exact h _ (List.mem_cons_self ..)
      · exact ih hr c e

/-- Putting a byte keeps the canonical form. -/
theorem Memory.wf_put {m : Memory} (a : Nat) (b : Byte) (h : m.wf = true) : (m.put a b).wf = true := by
  rw [Memory.wf_iff] at h ⊢
  obtain ⟨h1, h2, h3, h4⟩ := h
  simp only [Memory.put]
  split
  · exact ⟨tsorted_tdel h1, tdel_values h2, h3, h4⟩
  · exact ⟨tsorted_tput h1, tput_values h2 ‹_›, h3, h4⟩

/-- Putting bytes keeps the canonical form. -/
theorem Memory.wf_putBytes {m : Memory} (a : Nat) (bs : List Byte) (h : m.wf = true) : (m.putBytes a bs).wf = true := by
  induction bs generalizing m a with
  | nil => exact h
  | cons b r ih => exact ih (a + 1) (Memory.wf_put a b h)

/-- Marking a unit keeps the canonical form. -/
theorem Memory.wf_markUnit {m : Memory} (a n : Nat) (p lost : Bool) (u : Nat) (h : m.wf = true) :
    (m.markUnit a n p lost u).wf = true := by
  have h' := h
  rw [Memory.wf_iff] at h'
  obtain ⟨h1, h2, h3, h4⟩ := h'
  simp only [Memory.markUnit]
  split
  · rw [Memory.wf_iff]; exact ⟨h1, h2, risingNats_sinsert _ h3, h4⟩
  · split
    · rw [Memory.wf_iff]
      refine ⟨h1, h2, risingNats_sremove _ h3, ?_⟩
      simp only
      split
      · exact risingNats_sinsert _ h4
      · exact h4
    · exact h

theorem Memory.wf_markUnits {m : Memory} (a n : Nat) (p : Bool) (lost : Nat → Bool) (us : List Nat) (h : m.wf = true) :
    (us.foldl (fun m u => m.markUnit a n p (lost u) u) m).wf = true := by
  induction us generalizing m with
  | nil => exact h
  | cons u r ih => exact ih (Memory.wf_markUnit a n p (lost u) u h)

/-- A write of bytes keeps the canonical form. -/
theorem State.wf_writeMem {s : State} (a : Nat) (bs : List Byte) (p : Bool) (h : s.mem.wf = true) :
    (s.writeMem a bs p).mem.wf = true :=
  Memory.wf_markUnits _ _ _ _ _ (Memory.wf_putBytes a bs h)

/-- A store of a unit keeps the canonical form. -/
theorem State.wf_store {s : State} (a : Nat) (bs : List Byte) (p : Bool) (h : s.mem.wf = true) :
    (s.store a bs p).mem.wf = true := by
  unfold State.store
  split
  · exact h
  · split
    · split
      · exact h
      · exact State.wf_writeMem _ _ _ h
    · split
      · exact Memory.wf_markUnits _ _ _ (fun _ => false) _ h
      · exact State.wf_writeMem _ _ _ h
    · split
      · exact h
      · exact State.wf_writeMem _ _ _ h
    · exact h
    · exact h
    · exact State.wf_writeMem _ _ _ h

/-! ## Bytes after a write -/

/-- The byte at an address after a byte is put: the byte put there, the old byte elsewhere. -/
theorem Memory.get_put {m : Memory} (a b : Nat) (x : Byte) (h : m.wf = true) :
    (m.put b x).get a = if a = b then x else m.get a := by
  rw [Memory.wf_iff] at h
  simp only [Memory.put, Memory.get]
  split
  · rename_i hx
    rw [tget_tdel _ _ _ h.1]
    split
    · exact hx.symm
    · rfl
  · exact tget_tput _ _ _ _ _

/-- Bytes outside those put are unchanged. -/
theorem Memory.get_putBytes_outside {m : Memory} (a b : Nat) (bs : List Byte) (h : m.wf = true)
    (ho : a < b ∨ b + bs.length ≤ a) : (m.putBytes b bs).get a = m.get a := by
  induction bs generalizing m b with
  | nil => rfl
  | cons x r ih =>
    simp only [List.length_cons] at ho
    rw [Memory.putBytes, ih (b + 1) (Memory.wf_put b x h) (by omega), Memory.get_put a b x h]
    rw [if_neg (by omega)]

/-- The bytes put are read back. -/
theorem Memory.get_putBytes_inside {m : Memory} (b i : Nat) (bs : List Byte) (h : m.wf = true) (hi : i < bs.length) :
    (m.putBytes b bs).get (b + i) = bs.getD i 0 := by
  induction bs generalizing m b i with
  | nil => simp at hi
  | cons x r ih =>
    rw [Memory.putBytes]
    cases i with
    | zero =>
      rw [Memory.get_putBytes_outside _ _ _ (Memory.wf_put b x h) (by omega), Memory.get_put _ _ _ h]
      simp
    | succ j =>
      have := ih (b + 1) j (Memory.wf_put b x h) (by simpa using hi)
      rw [show b + (j + 1) = b + 1 + j by omega, this]
      simp

@[simp] theorem Memory.markUnit_cells (m : Memory) (a n : Nat) (p lost : Bool) (u : Nat) :
    (m.markUnit a n p lost u).cells = m.cells := by
  simp only [Memory.markUnit]
  split
  · rfl
  · split <;> rfl

@[simp] theorem Memory.get_markUnits (m : Memory) (a n : Nat) (p : Bool) (lost : Nat → Bool) (us : List Nat) (b : Nat) :
    (us.foldl (fun m u => m.markUnit a n p (lost u) u) m).get b = m.get b := by
  induction us generalizing m with
  | nil => rfl
  | cons u r ih =>
    rw [List.foldl_cons, ih]
    simp [Memory.get]

/-- A write of bytes changes no byte outside them. -/
theorem State.writeMem_outside {s : State} (a b : Nat) (bs : List Byte) (p : Bool) (h : s.mem.wf = true)
    (ho : a < b ∨ b + bs.length ≤ a) : (s.writeMem b bs p).mem.get a = s.mem.get a := by
  simp only [State.writeMem, Memory.get_markUnits]
  exact Memory.get_putBytes_outside a b bs h ho

/-- A write of bytes is read back. -/
theorem State.writeMem_inside {s : State} (b i : Nat) (bs : List Byte) (p : Bool) (h : s.mem.wf = true)
    (hi : i < bs.length) : (s.writeMem b bs p).mem.get (b + i) = bs.getD i 0 := by
  simp only [State.writeMem, Memory.get_markUnits]
  exact Memory.get_putBytes_inside b i bs h hi

@[simp] theorem State.writeMem_dev (s : State) (a : Nat) (bs : List Byte) (p : Bool) : (s.writeMem a bs p).dev = s.dev := rfl

@[simp] theorem State.writeMem_pending (s : State) (a : Nat) (bs : List Byte) (p : Bool) :
    (s.writeMem a bs p).pending = s.pending := rfl

/-- A store leaves the queue as it is. -/
@[simp] theorem State.store_pending (s : State) (a : Nat) (bs : List Byte) (p : Bool) :
    (s.store a bs p).pending = s.pending := by
  unfold State.store
  repeat' split
  all_goals rfl

end Sys2Proof.Machine
end

