-- ==== Sys2Proof/WellFormed.lean ====
section
/-!
DEFINITION. When a command is well formed: every unit it names is one of the module (R16, R357, R358), and every number it names
a unit's part by lies in its range.
-/
namespace Sys2Proof

/-- What an operand of a command names. -/
inductive Operand where
  | cluster (cl : ClusterId)
  | core (c : CoreId)
  | chute (ch : ChuteId)
  | block (b : Block)
  | writer (w : Writer)
  | below (x n : Nat)
  | width (n : Nat)
  | part (p : Nat)
  deriving DecidableEq, Repr

/-- The operand names something of the module. -/
def Operand.ok : Operand → Bool
  | .cluster cl => Machine.clusterPresent cl
  | .core c => Machine.corePresent c
  | .chute ch => Machine.chutePresent ch
  | .block b => Machine.blockPresent b
  | .writer (.host f) => decide (f < 64)
  | .writer (.firmware c) => Machine.corePresent c && Machine.isControl c
  | .below x n => decide (x < n)
  | .width n => decide (n = 4) || decide (n = 8)
  | .part p => decide (p < 132) || decide (p = 255)

/-- The operands of a command that name something. -/
def Instr.operands : Instr → List Operand
  | .registerWrite w _ _ => [.writer w]
  | .routePacket r port net _ => [.cluster r, .below port 7, .below net 4]
  | .chuteWrite ch _ => [.chute ch]
  | .packetTakeStart ch => [.chute ch]
  | .chuteRead ch _ => [.chute ch]
  | .peerHoldInAssert port => [.below port 16]
  | .peerHoldInRelease port => [.below port 16]
  | .flush ch => [.chute ch]
  | .chuteStatRead ch => [.chute ch]
  | .cbDescWrite cl n _ => [.cluster cl, .below n 64]
  | .cbEntryWrite cl n k _ => [.cluster cl, .below n 64, .below k 256]
  | .tscaleEntWrite cl i _ => [.cluster cl, .below i 256]
  | .tscaleNextWrite cl i _ => [.cluster cl, .below i 256]
  | .layerDescWrite cl n word _ => [.cluster cl, .below n 256, .below word 2]
  | .layerNextWrite cl n word _ => [.cluster cl, .below n 256, .below word 2]
  | .wcLadderWrite cl _ => [.cluster cl]
  | .wcRuleWrite cl k _ _ => [.cluster cl, .below k 32]
  | .wcStepWrite cl _ _ => [.cluster cl]
  | .wcEnable cl _ => [.cluster cl]
  | .close cl => [.cluster cl]
  | .closeBankSwap cl => [.cluster cl]
  | .commit cl => [.cluster cl]
  | .generationSwap cl => [.cluster cl]
  | .nextCopyDone cl => [.cluster cl]
  | .wcAbandon cl => [.cluster cl]
  | .agreementSample cl _ => [.cluster cl]
  | .mergeTimeout steward seat => [.below steward 4, .below seat 9]
  | .add c _ => [.core c]
  | .sub c _ => [.core c]
  | .mul c _ => [.core c]
  | .mulh c _ => [.core c]
  | .mulhu c _ => [.core c]
  | .div c _ => [.core c]
  | .divu c _ => [.core c]
  | .rem c _ => [.core c]
  | .remu c _ => [.core c]
  | .and c _ => [.core c]
  | .or c _ => [.core c]
  | .xor c _ => [.core c]
  | .shl c _ => [.core c]
  | .shr c _ => [.core c]
  | .sra c _ => [.core c]
  | .min c _ => [.core c]
  | .max c _ => [.core c]
  | .minu c _ => [.core c]
  | .maxu c _ => [.core c]
  | .sel c _ => [.core c]
  | .clz c _ => [.core c]
  | .popc c _ => [.core c]
  | .madd c _ => [.core c]
  | .addi c _ => [.core c]
  | .andi c _ => [.core c]
  | .ori c _ => [.core c]
  | .xori c _ => [.core c]
  | .shli c _ => [.core c]
  | .shri c _ => [.core c]
  | .srai c _ => [.core c]
  | .li c _ => [.core c]
  | .lih c _ => [.core c]
  | .addpc c _ => [.core c]
  | .cmp c _ => [.core c]
  | .cmpi c _ => [.core c]
  | .plog c _ => [.core c]
  | .ldB c _ => [.core c]
  | .ldBu c _ => [.core c]
  | .ldH c _ => [.core c]
  | .ldHu c _ => [.core c]
  | .ldW c _ => [.core c]
  | .ldWu c _ => [.core c]
  | .ldD c _ => [.core c]
  | .stB c _ => [.core c]
  | .stH c _ => [.core c]
  | .stW c _ => [.core c]
  | .stD c _ => [.core c]
  | .bra c _ => [.core c]
  | .call c _ => [.core c]
  | .jmp c _ => [.core c]
  | .jal c _ => [.core c]
  | .endProgram c _ => [.core c]
  | .programEnd c => [.core c]
  | .trap c _ => [.core c]
  | .nop c _ => [.core c]
  | .csrr c _ => [.core c]
  | .csrw c _ => [.core c]
  | .semAdd c _ => [.core c]
  | .semCas c _ => [.core c]
  | .semSet c _ => [.core c]
  | .wait c _ => [.core c]
  | .waitSuccess c => [.core c]
  | .waitTimeout c => [.core c]
  | .fence c _ => [.core c]
  | .fenceComplete c => [.core c]
  | .eret c _ => [.core c]
  | .cswap c _ => [.core c]
  | .trace c _ => [.core c]
  | .wcommit c _ => [.core c]
  | .wdog c _ => [.core c]
  | .idle c _ => [.core c]
  | .idleWake c => [.core c]
  | .idleTimeout c => [.core c]
  | .timerExpiry c => [.core c]
  | .exceptionEnd c => [.core c]
  | .sarm c _ => [.core c]
  | .streamArmed c h => [.core c, .below h 16]
  | .srearm c _ => [.core c]
  | .rearmTakeEffect c h => [.core c, .below h 16]
  | .slink c _ => [.core c]
  | .sdrain c _ => [.core c]
  | .spos c _ => [.core c]
  | .lload c _ => [.core c]
  | .loadDone c => [.core c]
  | .lswap c _ => [.core c]
  | .swapTakeEffect c => [.core c]
  | .lrun c _ => [.core c]
  | .runStart c => [.core c]
  | .anchorFixed c => [.core c]
  | .passBroadcast c => [.core c]
  | .tallyUpdate c => [.core c]
  | .outlierProduct c => [.core c]
  | .runEnd c => [.core c]
  | .ldrain c _ => [.core c]
  | .drainTile c => [.core c]
  | .cvt c _ => [.core c]
  | .cvtin c _ => [.core c]
  | .cvtout c _ => [.core c]
  | .conversionExecute c => [.core c]
  | .vld c _ => [.core c]
  | .vst c _ => [.core c]
  | .vget c _ => [.core c]
  | .vput c _ => [.core c]
  | .vbcast c _ => [.core c]
  | .vext c _ => [.core c]
  | .vins c _ => [.core c]
  | .vmov c _ => [.core c]
  | .vcvt c _ => [.core c]
  | .vadd c _ => [.core c]
  | .vsub c _ => [.core c]
  | .vmul c _ => [.core c]
  | .vfma c _ => [.core c]
  | .vmin c _ => [.core c]
  | .vmax c _ => [.core c]
  | .vabs c _ => [.core c]
  | .vneg c _ => [.core c]
  | .vrcp c _ => [.core c]
  | .vrsqrt c _ => [.core c]
  | .vexp2 c _ => [.core c]
  | .vlog2 c _ => [.core c]
  | .vcmp c _ => [.core c]
  | .vsel c _ => [.core c]
  | .vred c _ => [.core c]
  | .vdiv c _ => [.core c]
  | .bsave c _ => [.core c]
  | .saveExecute c => [.core c]
  | .brest c _ => [.core c]
  | .restoreExecute c => [.core c]
  | .upd c _ => [.core c]
  | .updateProgram cl => [.cluster cl]
  | .tileRequest c h => [.core c, .below h 16]
  | .tileStaged c h _ => [.core c, .below h 16]
  | .feederRefill c feeder => [.core c, .below feeder 64]
  | .tileTaken c h => [.core c, .below h 16]
  | .streamWriteTile c h => [.core c, .below h 16]
  | .writeBufferFree c h => [.core c, .below h 16]
  | .chainGrant c h => [.core c, .below h 16]
  | .chainTileSend c h => [.core c, .below h 16]
  | .chainItemReceive c h => [.core c, .below h 16]
  | .orbitCopy c h => [.core c, .below h 16]
  | .orbitReady c h => [.core c, .below h 16]
  | .memRead _ _ _ => []
  | .memWrite _ _ _ => []
  | .setBitWrite _ _ _ => []
  | .blockArrival _ _ => []
  | .patrolRead die chan loc blk _ => [.below die 8, .below chan 48, .below loc 7864320, .below blk 16]
  | .pageReq die chan _ => [.below die 8, .below chan 48]
  | .pageRetire die chan => [.below die 8, .below chan 48]
  | .pageCopyEnd die page => [.below die 8, .below page.chan 48]
  | .channelRetire die chan _ => [.below die 8, .below chan 48]
  | .channelTimeout die chan => [.below die 8, .below chan 48]
  | .channelRemapped die chan => [.below die 8, .below chan 48]
  | .xlatInv _ => []
  | .xlatInvDone => []
  | .errCntRead die chan => [.below die 8, .below chan 48]
  | .pack cl => [.cluster cl]
  | .wireAdd cl => [.cluster cl]
  | .unpack cl => [.cluster cl]
  | .wireRingWrite cl _ => [.cluster cl]
  | .wireStatRead cl => [.cluster cl]
  | .configRequest fn _ _ _ _ => [.below fn 64]
  | .bar0Access fn _ _ _ _ _ => [.below fn 64]
  | .apertureRead fn _ _ => [.below fn 64]
  | .apertureWrite fn _ _ _ => [.below fn 64]
  | .fnStatRead fn => [.below fn 64]
  | .loadQueue fn idx _ => [.below fn 64, .below idx 4096]
  | .stopQueue fn idx => [.below fn 64, .below idx 4096]
  | .stopQueueDone fn => [.below fn 64]
  | .loadCompletionRing fn idx _ => [.below fn 64, .below idx 128]
  | .stopCompletionRing fn idx => [.below fn 64, .below idx 128]
  | .loadEventRing fn idx _ => [.below fn 64, .below idx 4]
  | .stopEventRing fn idx => [.below fn 64, .below idx 4]
  | .sqDoorbell fn idx size _ _ => [.below fn 64, .below idx 4096, .below size 128]
  | .cqDoorbell fn idx size _ _ => [.below fn 64, .below idx 128, .below size 128]
  | .eqDoorbell fn idx size _ _ => [.below fn 64, .below idx 4, .below size 128]
  | .entryFetch cl _ => [.cluster cl]
  | .launch fn queue slot => [.below fn 64, .below queue 4096, .below slot 65536]
  | .launchStart fn queue slot => [.below fn 64, .below queue 4096, .below slot 65536]
  | .launchTimeLimit fn queue slot => [.below fn 64, .below queue 4096, .below slot 65536]
  | .launchComplete fn queue slot => [.below fn 64, .below queue 4096, .below slot 65536]
  | .copy fn queue slot => [.below fn 64, .below queue 4096, .below slot 65536]
  | .copyComplete fn queue slot _ => [.below fn 64, .below queue 4096, .below slot 65536]
  | .fenceEntry fn queue slot => [.below fn 64, .below queue 4096, .below slot 65536]
  | .signal fn queue slot => [.below fn 64, .below queue 4096, .below slot 65536]
  | .waitEntry fn queue slot => [.below fn 64, .below queue 4096, .below slot 65536]
  | .checkpoint fn queue slot => [.below fn 64, .below queue 4096, .below slot 65536]
  | .barrier fn queue slot => [.below fn 64, .below queue 4096, .below slot 65536]
  | .barrierTimeout fn queue slot => [.below fn 64, .below queue 4096, .below slot 65536]
  | .interruptModeration fn _ ring => [.below fn 64, .below ring 128]
  | .ringStall fn ring => [.below fn 64, .below ring 128]
  | .functionLevelReset fn => [.below fn 64]
  | .linkRetrain _ _ _ => []
  | .fwLoad => []
  | .fwVerifyDone _ => []
  | .coreSwitch k => [.below k 132]
  | .fwCommit => []
  | .fwFlashDone => []
  | .fwRevert => []
  | .portEnable port _ => [.below port 16]
  | .portFence port => [.below port 16]
  | .unfence port => [.below port 16]
  | .codeword port _ _ pcount _ => [.below port 16, .below pcount 256]
  | .dataFlit port => [.below port 16]
  | .idleFlit port => [.below port 16]
  | .nak port => [.below port 16]
  | .credit port => [.below port 16]
  | .time port => [.below port 16]
  | .fenceFlit port => [.below port 16]
  | .resendTimeout port => [.below port 16]
  | .starveTimeout port => [.below port 16]
  | .hello port _ => [.below port 16]
  | .cert port _ => [.below port 16]
  | .proof port _ _ => [.below port 16]
  | .identTimeout port => [.below port 16]
  | .peerPacketSend _ => []
  | .peerPacketReceive port => [.below port 16]
  | .ledgerTimeout _ => []
  | .msgTx _ => []
  | .join seat => [.below seat 9]
  | .leave seat => [.below seat 9]
  | .tableLeave => []
  | .report seat _ _ => [.below seat 9]
  | .propose seat _ _ => [.below seat 9]
  | .accept seat _ _ => [.below seat 9]
  | .commitMessage seat _ _ => [.below seat 9]
  | .sync seat => [.below seat 9]
  | .merge seat cluster _ _ => [.below seat 9, .below cluster 128]
  | .rosterTimeout => []
  | .formTimeout => []
  | .rosterCommit => []
  | .timeRequestTimer => []
  | .ptmResult _ => []
  | .linkCntRead port _ => [.below port 16]
  | .slotLoss slot _ _ _ => [.below slot 8]
  | .go _ => []
  | .ckptDone _ slot _ => [.below slot 8]
  | .ckptStoreWrite _ => []
  | .survRegWrite _ => []
  | .oddsTimer => []
  | .odds seat _ => [.below seat 9]
  | .halted seat _ => [.below seat 9]
  | .haltTimeout => []
  | .restore _ mode _ => [.below mode 2]
  | .fillDone slot _ => [.below slot 8]
  | .resume _ => []
  | .ckptReq _ => []
  | .seatToSeat => []
  | .deviceToStore _ => []
  | .storeToDevice _ => []
  | .coreProbeTimeout c => [.core c]
  | .coreRelaunch c => [.core c]
  | .powerOnReset _ _ => []
  | .moduleResetCold w _ => [.writer w]
  | .moduleResetWarm w _ => [.writer w]
  | .perstAssert => []
  | .perstPulseFiltered => []
  | .perstRelease => []
  | .watchdogExpiry steward => [.below steward 4]
  | .watchdog cl => [.cluster cl]
  | .critError which _ => [.below which 5]
  | .hotReset => []
  | .resetRelease _ => []
  | .blockResetAssert w _ => [.core w]
  | .blockResetRelease w _ => [.core w]
  | .wrapperAnswer b _ => [.block b]
  | .optProgram => []
  | .optProgramDone => []
  | .optStatRead => []
  | .rstStatRead => []
  | .rstCauseWrite _ => []
  | .calibrationEnd _ _ => []
  | .powerControlPeriod _ _ _ => []
  | .sensorRead _ => []
  | .thermalLimitStep => []
  | .coolReqWrite _ => []
  | .railLeavesWindow => []
  | .inputRemoved => []
  | .i3cRead _ _ => []
  | .i3cAddressAssign _ => []
  | .traceStart part => [.part part]
  | .traceStop part => [.part part]
  | .traceTrigger part => [.part part]
  | .brFlush part => [.part part]
  | .traceResume part => [.part part]
  | .traceDataRead => []
  | .dump _ => []
  | .dumpRelease _ => []
  | .leaderWaitExpiry => []
  | .waitEntryTimeout fn queue slot => [.below fn 64, .below queue 4096, .below slot 65536]
  | .completionTimeout fn queue slot _ => [.below fn 64, .below queue 4096, .below slot 65536]
  | .spdmRequest _ _ _ => []
  | .atsInvalidateRequest fn _ _ _ => [.below fn 64]

/-- A command is well formed. -/
def Instr.wf (i : Instr) : Bool := i.operands.all Operand.ok

end Sys2Proof
end

