-- ==== Sys2Proof/Tests/Slice0.lean ====
section
/-!
SUPPORT. The model's own tests: the well-formedness smoke; per statement, states and operands that meet its hypotheses and what one
step answers there. Values are the manual's, or computed by hand from its rules.
-/
namespace Sys2Proof.Tests
open Sys2Proof Sys2Proof.Machine
set_option Elab.async false

/-! ## Helpers -/

/-- The state after a command; the state at reset where it stops. -/
def after (o : Host.Outcome State Fault Refusal) : State :=
  match o with
  | .next t => t
  | .fault _ => State.reset
  | .refused _ => State.reset

/-- A command answers one given next state. -/
def goes (o : Host.Outcome State Fault Refusal) (t : State) : Bool :=
  match o with
  | .next u => decide (u = t)
  | .fault _ => false
  | .refused _ => false

/-- A command raises an exception of a compute core: it waits with the record, and nothing else changed. -/
def raisedBy (s : State) (c : CoreId) (code : Nat) (i : Instr) : Bool :=
  let t := after (exec i s)
  match (t.dev.core c).run with
  | .raising n _ _ _ => decide (n = code) && decide (t.mem = s.mem) && decide ((t.dev.core c).pc = (s.dev.core c).pc)
  | _ => false

/-- A command raises an exception of a control core: it goes on at csr.evec with csr.cause and csr.epc. -/
def trapped (s : State) (c : CoreId) (code : Nat) (i : Instr) : Bool :=
  let k := s.dev.core c
  let t := (after (exec i s)).dev.core c
  decide (t.pc = k.csr.evec) && decide (t.csr.cause.toNat = code) && decide (t.csr.epc = k.pc) && t.csr.exc

def cells (a : Nat) (bs : List Nat) : List (Nat × Byte) :=
  (List.range bs.length).filterMap fun i => if bs.getD i 0 % 256 = 0 then none else some (a + i, BitVec.ofNat 8 (bs.getD i 0))

def core0 : CoreId := ⟨0, 0, 0⟩
def ctl : CoreId := ⟨0, 0, 0x22⟩
def stw : CoreId := ⟨8, 0, 0⟩

/-- Booted, with no program: function 0 translates 0 to 1 GiB to itself and the next GiB to the stores of die 0. -/
def base : State :=
  { State.reset with
    mem := ⟨[(0x20_0000, 0xF), (0x20_0008, 0xF), (0x20_000E, 0x8)], [], []⟩
    dev := { State.reset.dev with
      rst := { ResetUnit.init with held := false }
      host := { HostUnit.init with ready := true }
      regs := [(Reg.xlatRoot 0, 0x20_0001)] } }

/-- A core that runs, changed by a function. -/
def runs (s : State) (c : CoreId) (f : Core → Core) : State :=
  s.onDev fun d => d.onCore c fun k => f { k with run := .running, pc := 0x1000 }

/-- An s register set. -/
def sr (i v : Nat) (k : Core) : Core := k.setS i ⟨BitVec.ofNat 64 v, false⟩

/-- An s register set and poisoned. -/
def sp (i v : Nat) (k : Core) : Core := k.setS i ⟨BitVec.ofNat 64 v, true⟩

/-- The fields of an instruction word with guard p0. -/
def ins (d a b c imm : Nat) : Ins :=
  ⟨false, 0, BitVec.ofNat 5 d, BitVec.ofNat 5 a, BitVec.ofNat 5 b, BitVec.ofNat 5 c, BitVec.ofNat 32 imm⟩

/-! ## The machine as a whole -/

/-- The queue is first in first out: the front command runs, the rest waits. -/
theorem test_step_takes_front :
    goes (step { State.reset with pending := [.rstStatRead, .fwLoad] })
      (after (exec .rstStatRead { State.reset with pending := [.fwLoad] })) = true := by decide +kernel

theorem test_idle_cycle : State.reset.pending = [] ∧ (after (step State.reset)).dev.clock = 64 := by decide +kernel

theorem test_supply_stops : step { State.reset with pending := [.railLeavesWindow] } = .fault .undefinedSupply := rfl

/-- Another command than RAIL_LEAVES_WINDOW: the hypothesis of the statement about stops. -/
theorem test_others_go_on : (Instr.fwLoad ≠ .railLeavesWindow) ∧ goesOn (exec .fwLoad base) = true := by decide +kernel

/-! ## Scalar instructions -/

/-- s1 = −7, s2 = 2, s3 = 5 poisoned, s4 = 2^63, s5 = −1; p1 = 1, p2 = 0. -/
def scal : State := runs base core0 fun k =>
  ((k |> sr 1 (2 ^ 64 - 7) |> sr 2 2 |> sp 3 5 |> sr 4 (2 ^ 63) |> sr 5 (2 ^ 64 - 1)).setP 1 ⟨true, false⟩).setP 2 ⟨false, false⟩

/-- What sd holds after an instruction of core 0, where the instruction had its own effect and changed nothing but sd, pc and
csr.instret. -/
def gives (s : State) (c : CoreId) (opc : Nat) (w : Ins) (i : Instr) (v : Nat) (p : Bool) : Bool :=
  s.executes c opc w && goes (exec i s) (s.onCore c fun k => (k.setS w.d.toNat ⟨BitVec.ofNat 64 v, p⟩).retired)

theorem test_arithmetic :
    gives scal core0 0x01 (ins 9 1 2 0 0) (.add core0 (ins 9 1 2 0 0)) (2 ^ 64 - 5) false ∧
    gives scal core0 0x01 (ins 9 1 3 0 0) (.add core0 (ins 9 1 3 0 0)) (2 ^ 64 - 2) true ∧
    gives scal core0 0x02 (ins 9 2 1 0 0) (.sub core0 (ins 9 2 1 0 0)) 9 false ∧
    gives scal core0 0x03 (ins 9 1 2 0 0) (.mul core0 (ins 9 1 2 0 0)) (2 ^ 64 - 14) false ∧
    gives scal core0 0x04 (ins 9 1 2 0 0) (.mulh core0 (ins 9 1 2 0 0)) (2 ^ 64 - 1) false ∧
    gives scal core0 0x05 (ins 9 1 2 0 0) (.mulhu core0 (ins 9 1 2 0 0)) 1 false := by decide +kernel

/-- R237: −7 div 2 is −3 with remainder −1; division by 0; −2^63 by −1. -/
theorem test_division :
    gives scal core0 0x06 (ins 9 1 2 0 0) (.div core0 (ins 9 1 2 0 0)) (2 ^ 64 - 3) false ∧
    gives scal core0 0x06 (ins 9 1 0 0 0) (.div core0 (ins 9 1 0 0 0)) (2 ^ 64 - 1) false ∧
    gives scal core0 0x06 (ins 9 4 5 0 0) (.div core0 (ins 9 4 5 0 0)) (2 ^ 63) false ∧
    gives scal core0 0x07 (ins 9 1 2 0 0) (.divu core0 (ins 9 1 2 0 0)) (2 ^ 63 - 4) false ∧
    gives scal core0 0x08 (ins 9 1 2 0 0) (.rem core0 (ins 9 1 2 0 0)) (2 ^ 64 - 1) false ∧
    gives scal core0 0x08 (ins 9 4 5 0 0) (.rem core0 (ins 9 4 5 0 0)) 0 false ∧
    gives scal core0 0x09 (ins 9 1 0 0 0) (.remu core0 (ins 9 1 0 0 0)) (2 ^ 64 - 7) false := by decide +kernel

theorem test_logic_and_shifts :
    gives scal core0 0x0A (ins 9 1 2 0 0) (.and core0 (ins 9 1 2 0 0)) 0 false ∧
    gives scal core0 0x0B (ins 9 1 2 0 0) (.or core0 (ins 9 1 2 0 0)) (2 ^ 64 - 5) false ∧
    gives scal core0 0x0C (ins 9 1 5 0 0) (.xor core0 (ins 9 1 5 0 0)) 6 false ∧
    gives scal core0 0x0D (ins 9 2 5 0 0) (.shl core0 (ins 9 2 5 0 0)) 0 false ∧
    gives scal core0 0x0E (ins 9 4 5 0 0) (.shr core0 (ins 9 4 5 0 0)) 1 false ∧
    gives scal core0 0x0F (ins 9 1 2 0 0) (.sra core0 (ins 9 1 2 0 0)) (2 ^ 64 - 2) false ∧
    gives scal core0 0x10 (ins 9 1 2 0 0) (.min core0 (ins 9 1 2 0 0)) (2 ^ 64 - 7) false ∧
    gives scal core0 0x11 (ins 9 1 2 0 0) (.max core0 (ins 9 1 2 0 0)) 2 false ∧
    gives scal core0 0x12 (ins 9 1 2 0 0) (.minu core0 (ins 9 1 2 0 0)) 2 false ∧
    gives scal core0 0x13 (ins 9 1 2 0 0) (.maxu core0 (ins 9 1 2 0 0)) (2 ^ 64 - 7) false := by decide +kernel

theorem test_select_and_count :
    gives scal core0 0x14 (ins 9 1 3 1 0) (.sel core0 (ins 9 1 3 1 0)) (2 ^ 64 - 7) false ∧
    gives scal core0 0x14 (ins 9 1 3 2 0) (.sel core0 (ins 9 1 3 2 0)) 5 true ∧
    gives scal core0 0x15 (ins 9 0 0 0 0) (.clz core0 (ins 9 0 0 0 0)) 64 false ∧
    gives scal core0 0x15 (ins 9 2 0 0 0) (.clz core0 (ins 9 2 0 0 0)) 62 false ∧
    gives scal core0 0x16 (ins 9 1 0 0 0) (.popc core0 (ins 9 1 0 0 0)) 62 false ∧
    gives scal core0 0x17 (ins 9 2 2 1 0) (.madd core0 (ins 9 2 2 1 0)) (2 ^ 64 - 3) false := by decide +kernel

theorem test_immediates :
    gives scal core0 0x21 (ins 9 2 0 0 0xFFFFFFFD) (.addi core0 (ins 9 2 0 0 0xFFFFFFFD)) (2 ^ 64 - 1) false ∧
    gives scal core0 0x2A (ins 9 1 0 0 0xFF) (.andi core0 (ins 9 1 0 0 0xFF)) 0xF9 false ∧
    gives scal core0 0x2B (ins 9 2 0 0 1) (.ori core0 (ins 9 2 0 0 1)) 3 false ∧
    gives scal core0 0x2C (ins 9 1 0 0 0xFFFFFFFF) (.xori core0 (ins 9 1 0 0 0xFFFFFFFF)) 6 false ∧
    gives scal core0 0x2D (ins 9 2 0 0 63) (.shli core0 (ins 9 2 0 0 63)) 0 false ∧
    gives scal core0 0x2E (ins 9 4 0 0 63) (.shri core0 (ins 9 4 0 0 63)) 1 false ∧
    gives scal core0 0x2F (ins 9 4 0 0 63) (.srai core0 (ins 9 4 0 0 63)) (2 ^ 64 - 1) false ∧
    gives scal core0 0x32 (ins 9 0 0 0 0xFFFFFFFF) (.addpc core0 (ins 9 0 0 0 0xFFFFFFFF)) 0xFF8 false := by decide +kernel

/-- The worked example after R237: LI s3 and LIH s3 build the value of HUB.PART_ID. -/
theorem test_part_id_example :
    let a := after (exec (.li core0 (ins 3 0 0 0 0x8CB0_0810)) scal)
    let b := after (exec (.lih core0 (ins 3 0 0 0 0x1FD4_5A70)) a)
    scal.executes core0 0x30 (ins 3 0 0 0 0x8CB0_0810) = true ∧ a.executes core0 0x31 (ins 3 0 0 0 0x1FD4_5A70) = true ∧
    (a.dev.core core0).getS 3 = ⟨0x0000_0000_8CB0_0810, false⟩ ∧
    (b.dev.core core0).getS 3 = ⟨0x1FD4_5A70_8CB0_0810, false⟩ := by decide +kernel

/-- A write to s0 is discarded (R225). -/
theorem test_s0 : scal.executes core0 0x01 (ins 0 1 2 0 0) = true ∧
    goes (exec (.add core0 (ins 0 1 2 0 0)) scal) (scal.onCore core0 Core.retired) = true := by decide +kernel

/-- What pd holds after an instruction. -/
def givesP (s : State) (c : CoreId) (opc : Nat) (w : Ins) (i : Instr) (v p : Bool) : Bool :=
  s.executes c opc w && goes (exec i s) (s.onCore c fun k => (k.setP w.d.toNat ⟨v, p⟩).retired)

theorem test_compare :
    givesP scal core0 0x38 (ins 3 1 2 2 0) (.cmp core0 (ins 3 1 2 2 0)) true false ∧
    givesP scal core0 0x38 (ins 3 1 2 3 0) (.cmp core0 (ins 3 1 2 3 0)) false false ∧
    givesP scal core0 0x38 (ins 3 1 3 5 0) (.cmp core0 (ins 3 1 3 5 0)) true true ∧
    givesP scal core0 0x39 (ins 3 1 4 0 0xFFFFFFF9) (.cmpi core0 (ins 3 1 4 0 0xFFFFFFF9)) true false ∧
    givesP scal core0 0x3A (ins 3 1 2 3 0) (.plog core0 (ins 3 1 2 3 0)) true false ∧
    givesP scal core0 0x3A (ins 3 1 1 2 0) (.plog core0 (ins 3 1 1 2 0)) false false := by decide +kernel

/-- Conditions 6 and above and PLOG operations 4 and above are reserved. -/
theorem test_reserved_conditions :
    scal.ready core0 = true ∧ scal.fetchFault core0 = none ∧
    raisedBy scal core0 0x5001 (.cmp core0 (ins 3 1 2 6 0)) ∧ raisedBy scal core0 0x5001 (.cmpi core0 (ins 3 1 6 0 0)) ∧
    raisedBy scal core0 0x5001 (.plog core0 (ins 3 1 2 4 0)) := by decide +kernel

/-- A control core outside a handler, with csr.evec, and the same registers. -/
def ctls : State := runs base ctl fun k =>
  { (k |> sr 1 0x2000 |> sr 2 2 |> sp 3 5 |> sr 4 0x2001) with csr := { k.csr with evec := 0x8000 } }

theorem test_branches :
    isCompute core0 = true ∧ (scal.executes core0 0x50 (ins 0 0 0 0 2) = true) ∧
    goes (exec (.bra core0 (ins 0 0 0 0 2)) scal) (scal.onCore core0 fun k => k.retiredTo 0x1010) ∧
    scal.executes core0 0x51 (ins 8 0 0 0 0xFFFFFFFF) = true ∧
    goes (exec (.call core0 (ins 8 0 0 0 0xFFFFFFFF)) scal)
      (scal.onCore core0 fun k => (k.setS 8 ⟨0x1008, false⟩).retiredTo 0xFF8) ∧
    scal.executes core0 0x5A (ins 0 0 0 0 0) = true ∧
    goes (exec (.nop core0 (ins 0 0 0 0 0)) scal) (scal.onCore core0 Core.retired) := by decide +kernel

theorem test_jumps :
    (scal.executes core0 0x52 (ins 0 2 0 0 6) = true) ∧
    goes (exec (.jmp core0 (ins 0 2 0 0 6)) scal) (scal.onCore core0 fun k => k.retiredTo 8) ∧
    scal.executes core0 0x53 (ins 2 2 0 0 6) = true ∧
    goes (exec (.jal core0 (ins 2 2 0 0 6)) scal) (scal.onCore core0 fun k => (k.setS 2 ⟨0x1008, false⟩).retiredTo 8) ∧
    raisedBy scal core0 0x5003 (.jmp core0 (ins 0 2 0 0 7)) ∧
    scal.executes core0 0x53 (ins 2 2 0 0 7) = true ∧ raisedBy scal core0 0x5003 (.jal core0 (ins 2 2 0 0 7)) := by decide +kernel

theorem test_jumps_of_a_control_core :
    isCompute ctl = false ∧ ctls.executes ctl 0x52 (ins 0 1 0 0 8) = true ∧ ctls.executes ctl 0x53 (ins 7 1 0 0 8) = true ∧
    ((after (exec (.jmp ctl (ins 0 1 0 0 8)) ctls)).dev.core ctl).pc = 0x2008 ∧
    ((after (exec (.jal ctl (ins 7 1 0 0 8)) ctls)).dev.core ctl).pc = 0x2008 ∧
    ((after (exec (.jal ctl (ins 7 1 0 0 8)) ctls)).dev.core ctl).getS 7 = ⟨0x1008, false⟩ ∧
    trapped ctls ctl 0x5003 (.jmp ctl (ins 0 4 0 0 0)) := by decide +kernel

/-- p2 is false: the instruction retires with no effect. -/
theorem test_false_guard :
    let w : Ins := { ins 9 1 2 0 0 with gp := 2 }
    instructionOf (.add core0 w) = some (core0, 0x01, w) ∧ scal.ready core0 = true ∧ scal.fetchFault core0 = none ∧
    insLegal 0x01 w = true ∧ guardOf (scal.dev.core core0) w = ⟨false, false⟩ ∧ isCompute core0 = true ∧
    goes (exec (.add core0 w) scal) (scal.onCore core0 Core.retired) = true := by decide +kernel

theorem test_core_that_does_not_run :
    instructionOf (.add core0 (ins 9 1 2 0 0)) = some (core0, 0x01, ins 9 1 2 0 0) ∧ base.ready core0 = false ∧
    goes (exec (.add core0 (ins 9 1 2 0 0)) base) base = true := by decide +kernel

/-- FETCH at an address that is not mapped; ILLEGAL by a field that must be zero; the opcodes of the other kind of core. -/
theorem test_exception_order :
    let lost := scal.onDev fun d => d.onCore core0 fun k => { k with pc := 0x8000_0000 }
    let pois := scal.onDev fun d => d.onCore core0 fun k => k.setP 3 ⟨false, true⟩
    let w : Ins := { ins 9 1 2 0 0 with gp := 3 }
    (lost.ready core0 = true ∧ lost.fetchFault core0 ≠ none ∧ raisedBy lost core0 0x5006 (.add core0 (ins 9 1 2 0 0)) = true) ∧
    (insLegal 0x01 (ins 9 1 2 0 1) = false ∧ raisedBy scal core0 0x5001 (.add core0 (ins 9 1 2 0 1)) = true) ∧
    (ctls.ready ctl = true ∧ ctls.fetchFault ctl = none ∧ insLegal 0xB0 (ins 1 2 3 0 0) = true ∧ isCompute ctl = false ∧
      (guardOf (ctls.dev.core ctl) (ins 1 2 3 0 0)).val = true ∧ trapped ctls ctl 0x5001 (.vadd ctl (ins 1 2 3 0 0)) = true ∧
      trapped ctls ctl 0x5001 (.endProgram ctl (ins 0 1 0 0 0)) = true) ∧
    (insLegal 0xE0 (ins 0 0 0 0 0) = true ∧ raisedBy scal core0 0x5002 (.eret core0 (ins 0 0 0 0 0)) = true) ∧
    ((guardOf (pois.dev.core core0) w).poison = true ∧ raisedBy pois core0 0x5005 (.add core0 w) = true) := by decide +kernel

theorem test_trap :
    scal.executes core0 0x59 (ins 0 0 0 0 0x1234) = true ∧ raisedBy scal core0 0x5007 (.trap core0 (ins 0 0 0 0 0x1234)) = true ∧
    trapped ctls ctl 0x5007 (.trap ctl (ins 0 0 0 0 1)) = true ∧
    ((after (exec (.trap core0 (ins 0 0 0 0 0x1234)) scal)).dev.core core0).run =
      .raising 0x5007 .notice false ([0x00, 0x10, 0, 0, 0, 0, 0, 0, 0, 0, 0x34, 0x12] ++ List.replicate 4 (0 : Byte)) := by decide +kernel

/-- An exception inside a handler halts a control core. -/
theorem test_double_exception :
    let s := ctls.onDev fun d => d.onCore ctl fun k => { k with csr := { k.csr with exc := true } }
    ((after (exec (.trap ctl (ins 0 0 0 0 1)) s)).dev.core ctl).run = .halted := by decide +kernel

/-! ## Memory, control registers, semaphores -/

/-- Two words of the cluster store of core 0's cluster (VA 0x4380_0000): 0x8000_0000_0000_0009 at offset 0, and a poisoned word at
offset 8. -/
def cst : Nat := 0x8_0000_0380_0000

/-- s1 = VA of the first word, s2 = 3, s3 = 9, s4 = VA of the poisoned word, s5 poisoned 1, s6 = 0x1001; 0xFE80 at 0x3000. -/
def memo : State :=
  let s := runs base core0 fun k =>
    k |> sr 1 0x4380_0000 |> sr 2 3 |> sr 3 0x8000_0000_0000_0009 |> sr 4 0x4380_0008 |> sp 5 1 |> sr 6 0x3000
      |> sr 7 0x9000_0000 |> sr 8 0x4000_0000
  { s with mem := ⟨cells 0x3000 [0x80, 0xFE] ++ s.mem.cells ++ cells cst [9, 0, 0, 0, 0, 0, 0, 0x80, 7], [cst + 8], []⟩ }

theorem test_memo_wf : memo.mem.wf = true := by decide +kernel

theorem test_loads :
    memo.executes core0 0x40 (ins 9 6 0 0 0) = true ∧ memo.coreAddr core0 0x3000 1 ⟨true, false⟩ = some 0x3000 ∧
    mirrorOffset core0 0x3000 = none ∧ memo.poisoned 0x3000 1 = false ∧
    gives memo core0 0x40 (ins 9 6 0 0 0) (.ldB core0 (ins 9 6 0 0 0)) (2 ^ 64 - 128) false ∧
    gives memo core0 0x41 (ins 9 6 0 0 0) (.ldBu core0 (ins 9 6 0 0 0)) 0x80 false ∧
    gives memo core0 0x42 (ins 9 6 0 0 0) (.ldH core0 (ins 9 6 0 0 0)) (2 ^ 64 - 0x180) false ∧
    gives memo core0 0x43 (ins 9 6 0 0 0) (.ldHu core0 (ins 9 6 0 0 0)) 0xFE80 false ∧
    gives memo core0 0x44 (ins 9 6 0 0 0) (.ldW core0 (ins 9 6 0 0 0)) 0xFE80 false ∧
    gives memo core0 0x45 (ins 9 6 0 0 0) (.ldWu core0 (ins 9 6 0 0 0)) 0xFE80 false ∧
    gives memo core0 0x46 (ins 9 1 0 0 0) (.ldD core0 (ins 9 1 0 0 0)) 0x8000_0000_0000_0009 false := by decide +kernel

theorem test_load_stops_and_poison :
    let t := after (exec (.ldD core0 (ins 9 4 0 0 0)) memo)
    memo.executes core0 0x46 (ins 9 4 0 0 0) = true ∧ memo.coreAddr core0 0x4380_0008 8 ⟨true, false⟩ = some (cst + 8) ∧
    memo.poisoned (cst + 8) 8 = true ∧ mirrorOffset core0 (cst + 8) = none ∧
    ((t.dev.core core0).getS 9 = ⟨7, true⟩ ∧ t.mem = memo.mem ∧ (t.dev.core core0).pc = 0x1008 ∧ t.dev.newest = some 0x500A) ∧
    raisedBy memo core0 0x5003 (.ldH core0 (ins 9 6 0 0 1)) = true ∧ memo.executes core0 0x42 (ins 9 6 0 0 1) = true ∧
    memo.coreAddr core0 0x9000_0000 8 ⟨true, false⟩ = none ∧ memo.executes core0 0x46 (ins 9 7 0 0 0) = true ∧
    raisedBy memo core0 0x5004 (.ldD core0 (ins 9 7 0 0 0)) = true := by decide +kernel

/-- A store of a size writes its low bytes, least significant first (R7). -/
def stores (opc n : Nat) (i : Instr) (w : Ins) (a v : Nat) (p : Bool) : Bool :=
  memo.executes core0 opc w && goes (exec i memo) ((memo.store a (leBytes n v) p).onCore core0 Core.retired)
    && decide ((after (exec i memo)).loadN a n = v % 2 ^ (8 * n)) && decide ((after (exec i memo)).mem.wf = true)

theorem test_stores :
    stores 0x48 1 (.stB core0 (ins 0 1 3 0 1)) (ins 0 1 3 0 1) (cst + 1) 0x8000_0000_0000_0009 false ∧
    stores 0x49 2 (.stH core0 (ins 0 1 3 0 2)) (ins 0 1 3 0 2) (cst + 2) 0x8000_0000_0000_0009 false ∧
    stores 0x4A 4 (.stW core0 (ins 0 1 3 0 4)) (ins 0 1 3 0 4) (cst + 4) 0x8000_0000_0000_0009 false ∧
    stores 0x4B 8 (.stD core0 (ins 0 1 5 0 16)) (ins 0 1 5 0 16) (cst + 16) 1 true ∧
    ((after (exec (.stD core0 (ins 0 1 5 0 16)) memo)).poisoned (cst + 16) 8 = true) ∧
    memo.coreAddr core0 0x4380_0001 1 ⟨false, true⟩ = some (cst + 1) ∧
    raisedBy memo core0 0x5003 (.stW core0 (ins 0 1 3 0 2)) ∧ memo.executes core0 0x4A (ins 0 1 3 0 2) = true ∧
    (memo.executes core0 0x48 (ins 0 8 3 0 0) = true ∧ memo.coreAddr core0 0x9000_0000 1 ⟨false, true⟩ = none) ∧
    raisedBy memo core0 0x5004 (.stB core0 (ins 0 7 3 0 0)) := by decide +kernel

/-- A store of poisoned data to the register region raises POISON_USE on a control core (R226). -/
theorem test_poisoned_register_store :
    let s := runs base ctl fun k => { (k |> sr 1 0xF_0000_0000_0000 |> sp 3 5) with csr := { k.csr with evec := 0x8000 } }
    s.executes ctl 0x4B (ins 0 1 3 0 0) = true ∧ inRegs 0xF_0000_0000_0000 = true ∧
    trapped s ctl 0x5005 (.stD ctl (ins 0 1 3 0 0)) = true := by decide +kernel

/-- Clean and poisoned bytes are read back from a core store and from the last word below the width-controller region. -/
theorem test_read_back :
    let a := coreStoreAddr 0 0 0 0xBFFF8
    let b := cst + 0x7E_FFF8
    memo.mem.wf = true ∧ memo.behindWrapper a = false ∧ memo.behindWrapper b = false ∧
    (regionOf a).1 = .coreStore 0 0 0 ∧ regionOf b = (.clusterStore 0 0, 0x7E_FFF8) ∧
    (memo.store a (leBytes 8 5) false).loadN a 8 = 5 ∧ (memo.store a (leBytes 8 5) true).poisoned a 8 = true ∧
    (memo.store b (leBytes 8 5) false).loadN b 8 = 5 ∧ (memo.store b (leBytes 8 5) false).poisoned b 8 = false := by decide +kernel

theorem test_control_registers :
    gives memo core0 0x70 (ins 9 0 0 0 0x020) (.csrr core0 (ins 9 0 0 0 0x020)) 0 false ∧
    gives ctls ctl 0x70 (ins 9 0 0 0 0x020) (.csrr ctl (ins 9 0 0 0 0x020)) 0x10022 false ∧
    gives ctls ctl 0x70 (ins 9 0 0 0 0x000) (.csrr ctl (ins 9 0 0 0 0x000)) 1 false ∧
    gives ctls ctl 0x70 (ins 9 0 0 0 0x003) (.csrr ctl (ins 9 0 0 0 0x003)) 0x8000 false ∧
    gives ctls ctl 0x70 (ins 9 0 0 0 0x043) (.csrr ctl (ins 9 0 0 0 0x043)) (2 ^ 64 - 1) false ∧
    ctls.executes ctl 0x70 (ins 9 0 0 0 0x030) = true ∧ ctls.executes ctl 0x70 (ins 9 0 0 0 0x041) = true ∧
    ctls.executes ctl 0x71 (ins 0 4 0 0 0x003) = true ∧
    (((after (exec (.csrw ctl (ins 0 4 0 0 0x003)) ctls)).dev.core ctl).csr.evec = 0x2000) ∧
    (((after (exec (.csrw ctl (ins 0 4 0 0 0x010)) ctls)).dev.core ctl).csr.optag = 0x2001) ∧
    (((after (exec (.csrw ctl (ins 0 0 0 0 0x040)) ctls)).dev.core ctl).csr.wdog = 0x1_0000) := by decide +kernel

theorem test_refused_control_registers :
    memo.ready core0 = true ∧ memo.fetchFault core0 = none ∧ (guardOf (memo.dev.core core0) (ins 9 0 0 0 1)).val = true ∧
    (insLegal 0x70 (ins 9 0 0 0 0x043) = true ∧ raisedBy memo core0 0x5002 (.csrr core0 (ins 9 0 0 0 0x043)) = true) ∧
    (ctls.ready ctl = true ∧ ctls.fetchFault ctl = none ∧ trapped ctls ctl 0x5001 (.csrr ctl (ins 9 0 0 0 0x021)) = true) ∧
    (insLegal 0x70 (ins 9 0 0 0 0xFFF) = true ∧ raisedBy memo core0 0x5001 (.csrr core0 (ins 9 0 0 0 0xFFF)) = true) ∧
    (insLegal 0x71 (ins 0 1 0 0 0x032) = true ∧ raisedBy memo core0 0x5001 (.csrw core0 (ins 0 1 0 0 0x032)) = true) ∧
    (insLegal 0x71 (ins 0 1 0 0 0) = true ∧ raisedBy memo core0 0x5001 (.csrw core0 (ins 0 1 0 0 0)) = true) := by decide +kernel

theorem test_semaphores :
    memo.coreAddr core0 0x4380_0000 8 ⟨true, true⟩ = some cst ∧ inClusterStore cst = true ∧ memo.poisoned cst 8 = false ∧
    memo.executes core0 0x60 (ins 9 1 2 0 0) = true ∧
    goes (exec (.semAdd core0 (ins 9 1 2 0 0)) memo) ((memo.store cst (leBytes 8 0x8000_0000_0000_000C) false).onCore core0
      fun k => (k.setS 9 ⟨0x8000_0000_0000_0009, false⟩).retired) ∧
    memo.executes core0 0x61 (ins 9 1 3 2 0) = true ∧
    goes (exec (.semCas core0 (ins 9 1 3 2 0)) memo) ((memo.store cst (leBytes 8 3) false).onCore core0
      fun k => (k.setS 9 ⟨0x8000_0000_0000_0009, false⟩).retired) ∧
    memo.executes core0 0x62 (ins 0 1 2 0 0) = true ∧
    goes (exec (.semSet core0 (ins 0 1 2 0 0)) memo)
      ((memo.store cst (leBytes 8 3) false).onCore core0 Core.retired) := by decide +kernel

theorem test_semaphore_stops_and_poison :
    let t := after (exec (.semAdd core0 (ins 9 4 2 0 0)) memo)
    memo.executes core0 0x60 (ins 9 4 2 0 0) = true ∧ memo.poisoned (cst + 8) 8 = true ∧
    ((t.dev.core core0).getS 9 = ⟨7, true⟩ ∧ t.loadN (cst + 8) 8 = 10 ∧ t.poisoned (cst + 8) 8 = true) ∧
    (let u := after (exec (.semAdd core0 (ins 9 1 5 0 0)) memo)
     (u.dev.core core0).getS 9 = ⟨0x8000_0000_0000_0009, false⟩ ∧ u.poisoned cst 8 = true) ∧
    (memo.executes core0 0x60 (ins 9 2 2 0 0) = true ∧ raisedBy memo core0 0x5003 (.semAdd core0 (ins 9 2 2 0 0)) = true) ∧
    (memo.coreAddr core0 0x9000_0000 8 ⟨true, true⟩ = none ∧ raisedBy memo core0 0x5004 (.semAdd core0 (ins 9 7 2 0 0)) = true) ∧
    (inClusterStore 0x3000 = false ∧ raisedBy memo core0 0x5004 (.semAdd core0 (ins 9 6 2 0 0)) = true) := by decide +kernel

theorem test_wait :
    memo.executes core0 0x63 (ins 2 1 3 0 0) = true ∧
    goes (exec (.wait core0 (ins 2 1 3 0 0)) memo) (memo.onCore core0 fun k => (k.setP 2 ⟨true, false⟩).retired) ∧
    goes (exec (.wait core0 (ins 2 1 2 0 0xA)) memo) ((memo.store cst (leBytes 8 0x8000_0000_0000_0006) false).onCore core0
      fun k => (k.setP 2 ⟨true, false⟩).retired) ∧
    goes (exec (.wait core0 (ins 2 1 2 0 3)) memo) (memo.onCore core0 fun k => (k.setP 2 ⟨false, false⟩).retired) ∧
    memo.executes core0 0x63 (ins 2 1 2 2 3) = true ∧
    goes (exec (.wait core0 (ins 2 1 2 2 3)) memo)
      (memo.onCore core0 fun k => { k with run := .waiting cst 3 false 3 2 (some 30) }) ∧
    raisedBy memo core0 0x5005 (.wait core0 (ins 2 4 2 2 3)) := by decide +kernel

/-- A core that waits until its word is 3, to time 30. -/
def waits : State := memo.onDev fun d => d.onCore core0 fun k => { k with run := .waiting cst 0 false 3 2 (some 30) }

theorem test_wait_ends :
    let met := waits.store cst (leBytes 8 3) false
    let late := fun (s : State) (t : Nat) => s.onDev fun d => { d with clock := t }
    let end_ := fun (s : State) (v : Bool) => s.onCore core0 fun k => ({ (k.setP 2 ⟨v, false⟩) with run := .running } : Core).retired
    goes (exec (.waitSuccess core0) waits) waits ∧ goes (exec (.waitSuccess core0) met) (end_ met true) ∧
    goes (exec (.waitTimeout core0) (late waits 29)) (late waits 29) ∧
    goes (exec (.waitTimeout core0) (late waits 30)) (end_ (late waits 30) false) ∧
    goes (exec (.waitTimeout core0) (late met 30)) (end_ (late met 30) true) := by decide +kernel

theorem test_fence :
    memo.executes core0 0x64 (ins 0 0 0 0 7) = true ∧
    goes (exec (.fence core0 (ins 0 0 0 0 7)) memo) (memo.onCore core0 fun k => { k with run := .fencing 7 none }) ∧
    (let s := memo.onDev fun d => d.onCore core0 fun k => { k with run := .fencing 7 none }
     s.dev.tensorQuiet core0 = true ∧
     goes (exec (.fenceComplete core0) s) (s.onCore core0 fun k => ({ k with run := .running } : Core).retired)) := by decide +kernel

/-- With T = 1 a FENCE waits for tensor operations, then reports the fault pending. -/
theorem test_fence_waits :
    let s := memo.onDev fun d => (d.onCore core0 fun k =>
      { k with run := .fencing 4 none, csr := { k.csr with fpend := true } })
    let q := s.onDev fun d => d.onTensor core0 fun t => { t with latticeQ := [⟨0, 0x90, ins 0 0 0 0 0, 0, 0, 0, 0, 0, 0, [], false⟩] }
    (q.dev.tensorQuiet core0 = false ∧ goes (exec (.fenceComplete core0) q) q = true) ∧
    s.dev.tensorQuiet core0 = true ∧ raisedBy s core0 0x5008 (.fenceComplete core0) = true := by decide +kernel

/-- An entry and a core that works for it. -/
def mine : Entry := { fn := 0, queue := 1, slot := 2, bytes := [], phase := .running, started := 0, cores := [core0], limited := false
                      statuses := [], exceptions := [] }
def works (r : RunState) : State := memo.onDev fun d =>
  { (d.onCore core0 fun k => { k with run := r, launch := some (0, 1, 2) }) with entries := [mine, { mine with slot := 3 }] }

theorem test_end :
    memo.executes core0 0x58 (ins 0 2 0 0 0) = true ∧
    goes (exec (.endProgram core0 (ins 0 2 0 0 0)) memo) (memo.onCore core0 fun k => { k with run := .ending 3 none }) ∧
    (let s := works (.ending 3 none)
     let t := after (exec (.programEnd core0) s)
     s.dev.tensorQuiet core0 = true ∧ (t.dev.core core0).run = .idle ∧ (t.dev.core core0).launch = none ∧
     t.dev.entries = [{ mine with statuses := [3] }, { mine with slot := 3 }] ∧ (t.dev.core core0).csr.instret = 1) := by decide +kernel

theorem test_exception_end :
    let s := works (.raising 0x5001 .notice false [])
    let t := after (exec (.exceptionEnd core0) s)
    s.dev.tensorQuiet core0 = true ∧ (t.dev.core core0).run = .idle ∧ t.dev.newest = some 0x5001 ∧
    t.dev.entries = [{ mine with exceptions := [(0, 0x5001)] }, { mine with slot := 3 }] := by decide +kernel

theorem test_ends_wait :
    let q := fun (s : State) => s.onDev fun d => d.onTensor core0 fun t =>
      { t with latticeQ := [⟨0, 0x90, ins 0 0 0 0 0, 0, 0, 0, 0, 0, 0, [], false⟩] }
    let a := q (works (.ending 3 none))
    let b := q (works (.raising 0x5001 .notice false []))
    a.dev.tensorQuiet core0 = false ∧ goes (exec (.programEnd core0) a) a = true ∧
    b.dev.tensorQuiet core0 = false ∧ goes (exec (.exceptionEnd core0) b) b = true := by decide +kernel

/-- No trace partition is writing. -/
theorem test_untraced : memo.dev.untraced := by unfold Device.untraced; decide +kernel

/-! ## Instructions of control cores -/

theorem test_steward_instructions :
    let s := ctls.onDev fun d => d.onCore ctl fun k => { k with csr := { k.csr with exc := true, epc := 0x4000, wdog := 5 } }
    s.executes ctl 0xE0 (ins 0 0 0 0 0) = true ∧ s.executes ctl 0xE4 (ins 0 0 0 0 0) = true ∧
    (let t := after (exec (.eret ctl (ins 0 0 0 0 0)) s)
     (t.dev.core ctl).pc = 0x4000 ∧ (t.dev.core ctl).csr.exc = false) ∧
    goes (exec (.wdog ctl (ins 0 0 0 0 0)) s)
      (s.onCore ctl fun k => ({ k with wdogAt := some 50000 } : Core).retired) = true := by decide +kernel

theorem test_trace :
    let t := after (exec (.trace ctl (ins 0 0 0 0 0)) ctls)
    ctls.executes ctl 0xE2 (ins 0 0 0 0 0) = true ∧ ctls.executes ctl 0xE2 (ins 0 0 0 0 1) = true ∧
    partOf ctl = 0 ∧ t.dev.rbit (Reg.traceStat 0) 0 = true ∧ (t.dev.core ctl).pc = 0x1008 ∧
    (after (exec (.trace ctl (ins 0 0 0 0 1)) t)).dev.rbit (Reg.traceStat 0) 0 = false := by decide +kernel

/-- A control core with the timer notification enabled and due. -/
def told : State := ctls.onDev fun d => d.onCore ctl fun k => { k with csr := { k.csr with ienable := 1, timer := 0 } }

theorem test_idle :
    ctls.executes ctl 0xE5 (ins 2 2 0 0 0) = true ∧ told.dev.notified ctl = true ∧ ctls.dev.notified ctl = false ∧
    goes (exec (.idle ctl (ins 2 2 0 0 0)) told) (told.onCore ctl fun k => (k.setP 2 ⟨true, false⟩).retired) ∧
    goes (exec (.idle ctl (ins 2 0 0 0 0)) ctls) (ctls.onCore ctl fun k => (k.setP 2 ⟨false, false⟩).retired) ∧
    goes (exec (.idle ctl (ins 2 2 0 0 0)) ctls) (ctls.onCore ctl fun k => { k with run := .idling 2 (some 20) }) := by decide +kernel

theorem test_idle_ends :
    let go := fun (s : State) => s.onDev fun d => { (d.onCore ctl fun k => { k with run := .idling 2 (some 20) }) with clock := 20 }
    let done := fun (s : State) (v : Bool) => s.onCore ctl fun k => ({ (k.setP 2 ⟨v, false⟩) with run := .running } : Core).retired
    let early := (go ctls).onDev fun d => { d with clock := 19 }
    goes (exec (.idleWake ctl) (go told)) (done (go told) true) ∧ goes (exec (.idleWake ctl) (go ctls)) (go ctls) ∧
    goes (exec (.idleTimeout ctl) (go ctls)) (done (go ctls) false) ∧ goes (exec (.idleTimeout ctl) early) early ∧
    goes (exec (.timerExpiry ctl) (go told)) (done (go told) true) := by decide +kernel

/-- CSWAP of core 1 for reserve core 0x20: the retired core enters block reset, the reserve core takes its place. -/
theorem test_cswap :
    let s := runs base stw fun k => k |> sr 1 1 |> sr 2 0x20 |> sr 3 0x40
    let t := after (exec (.cswap stw (ins 2 1 2 0 0)) s)
    s.executes stw 0xE1 (ins 2 1 2 0 0) = true ∧ 1 ∈ (s.dev.cluster ⟨0, 0⟩).positions ∧ 0x20 ∉ (s.dev.cluster ⟨0, 0⟩).positions ∧
    (t.dev.core ⟨0, 0, 1⟩).run = .blockReset ∧ (t.dev.core ⟨0, 0, 0x20⟩).run = .idle ∧
    (t.dev.cluster ⟨0, 0⟩).positions.take 3 = [0, 0x20, 2] ∧ (t.dev.core stw).getP 2 = ⟨true, false⟩ ∧
    goes (exec (.cswap stw (ins 2 3 2 0 0)) s) (s.onCore stw fun k => (k.setP 2 ⟨false, false⟩).retired) = true := by decide +kernel

/-! ## Tensor engines: helpers -/

/-- A descriptor of one or two dimensions with one row a tile: base, columns, rows, row stride, KIND, DIR, END, PERSIST, LINKED. -/
def sdes (base e0 e1 str kind dir nd stop persist linked : Nat) : Nat :=
  base + e0 <<< 64 + e1 <<< 96 + 1 <<< 128 + 1 <<< 160 + 1 <<< 192 + str <<< 224 + kind <<< 426 + e0 <<< 448 + 1 <<< 464
    + dir <<< 480 + stop <<< 482 + nd <<< 484 + persist <<< 487 + linked <<< 500

/-- An armed handle with nothing taken or staged. -/
def armed (w : Nat) : Stream :=
  { desc := BitVec.ofNat 512 w, tag := 0, epoch := 0, base := sdBase w, passEpoch := 0, passTag := 0, passes := 1, rearm := none
    requested := 0, taken := 0, flight := [], staged := [], given := [], used := 0, link := none, indices := [], drives := none
    cur := [], tail := [], count := 0, puts := [], buf := [], writing := 0, accepted := 0, placed := 0, shown := none, owed := 0, grants := 0
    arriving := [], orbit := none, loose := false }

/-- A packet of plain bytes of a KIND other than narrow, of unit 0x02 of core 0. -/
def plain (kind : Nat) (bs : List Nat) : Packet :=
  { hdr := { coreHdr core0 0x02 0 0 with width := BitVec.ofNat 4 (kindWidth kind), len := BitVec.ofNat 11 bs.length, last := true }
    payload := bs.map (BitVec.ofNat 8) }

/-- Core 0 running, with handles, v registers and s registers. -/
def tens (streams : List (Nat × Stream)) (f : Core → Core) : State :=
  (runs base core0 f).onDev fun d => d.onTensor core0 fun t => { t with streams := streams }

def rd32 : Nat := sdes 0x4000 64 2 256 2 0 2 0 0 0
def wr32 : Nat := sdes 0x6000 64 2 256 2 1 2 0 0 0

/-! ## Tensor instructions -/

/-- s1 = 0x4000, s2 = 5, s3 = 0x4001; csr.optag = 7, csr.epoch = 1. -/
def issu : State := tens [] fun k =>
  { (k |> sr 1 0x4000 |> sr 2 5 |> sr 3 0x4001 |> sp 4 0x4000) with csr := { k.csr with optag := 7, epoch := 1 } }

/-- An operation enters its queue with the operand, csr.optag and csr.epoch, and the instruction retires. -/
def enters (opc : Nat) (w : Ins) (i : Instr) (q : Device → List TOp) (x : Nat) : Bool :=
  let t := after (exec i issu)
  issu.executes core0 opc w && ((sReads opc w).all fun r => !((issu.dev.core core0).getS r).poison)
    && !(issu.dev.queueFull core0 opc) && issu.calm core0 && decide (t.mem = issu.mem)
    && decide (t.dev.core core0 = (issu.dev.core core0).retired)
    && (match q t.dev with
      | [op] => decide (op.opc = opc) && decide (op.ins = w) && decide (op.tag = 7) && decide (op.epoch = 1) && decide (op.x.toNat = x)
      | _ => false)

theorem test_tensor_issue :
    enters 0x80 (ins 3 1 0 0 0) (.sarm core0 (ins 3 1 0 0 0)) (fun d => (d.tensor core0).streamQ) 0x4000 ∧
    enters 0x90 (ins 0 3 0 0 1) (.lload core0 (ins 0 3 0 0 1)) (fun d => (d.tensor core0).latticeQ) 0 ∧
    enters 0x91 (ins 0 0 0 0 0) (.lswap core0 (ins 0 0 0 0 0)) (fun d => (d.tensor core0).latticeQ) 0 ∧
    enters 0x92 (ins 0 2 3 2 0x240) (.lrun core0 (ins 0 2 3 2 0x240)) (fun d => (d.tensor core0).latticeQ) 5 ∧
    enters 0x93 (ins 3 2 0 0 0) (.ldrain core0 (ins 3 2 0 0 0)) (fun d => (d.tensor core0).drainQ) 5 ∧
    enters 0xC8 (ins 3 2 2 0 1) (.cvt core0 (ins 3 2 2 0 1)) (fun d => (d.tensor core0).convQ) 5 ∧
    enters 0xC9 (ins 3 2 2 0 1) (.cvtin core0 (ins 3 2 2 0 1)) (fun d => (d.tensor core0).convQ) 5 ∧
    enters 0xCA (ins 3 2 2 0 1) (.cvtout core0 (ins 3 2 2 0 1)) (fun d => (d.tensor core0).convQ) 5 ∧
    enters 0xD8 (ins 3 2 0 0 0) (.bsave core0 (ins 3 2 0 0 0)) (fun d => (d.tensor core0).saveQ) 0 ∧
    enters 0xD9 (ins 3 2 0 0 0) (.brest core0 (ins 3 2 0 0 0)) (fun d => (d.tensor core0).saveQ) 0 ∧
    enters 0xD0 (ins 0 1 0 0 1) (.upd core0 (ins 0 1 0 0 1)) (fun d => (d.unitsOf ⟨0, 0⟩).updates.map Prod.snd) 0x4000 := by
  decide +kernel

theorem test_tensor_issue_stops :
    let op : TOp := ⟨0, 0x91, ins 0 0 0 0 0, 0, 0, 0, 0, 0, 0, [], false⟩
    let full := issu.onDev fun d => d.onTensor core0 fun t => { t with latticeQ := List.replicate 8 op }
    (issu.executes core0 0x80 (ins 3 3 0 0 0) = true ∧ raisedBy issu core0 0x5003 (.sarm core0 (ins 3 3 0 0 0)) = true) ∧
    (issu.executes core0 0xD0 (ins 0 3 0 0 1) = true ∧ raisedBy issu core0 0x5003 (.upd core0 (ins 0 3 0 0 1)) = true) ∧
    (issu.executes core0 0x80 (ins 3 4 0 0 0) = true ∧ raisedBy issu core0 0x5005 (.sarm core0 (ins 3 4 0 0 0)) = true) ∧
    (full.executes core0 0x91 (ins 0 0 0 0 0) = true ∧ full.dev.queueFull core0 0x91 = true ∧
      goes (exec (.lswap core0 (ins 0 0 0 0 0)) full) full = true) := by decide +kernel

/-- t3: a persistent read stream; t4: linked, nothing requested; t5: an index stream; t6: a read stream at tile 1. -/
def strs : State := tens
  [(3, armed (sdes 0x4000 64 2 256 2 0 2 0 1 0)), (4, armed (sdes 0x4000 64 2 256 2 0 2 0 0 1)),
   (5, armed (sdes 0x5000 8 1 0 3 0 1 0 0 0)), (6, { armed rd32 with requested := 1, taken := 1 })]
  fun k => k |> sr 1 0x7000

theorem test_stream_instructions :
    let t := after (exec (.srearm core0 (ins 3 1 0 0 0)) strs)
    let l := after (exec (.slink core0 (ins 4 5 0 0 0)) strs)
    let d := after (exec (.sdrain core0 (ins 6 0 0 0 0)) strs)
    let p := after (exec (.spos core0 (ins 9 6 0 0 0)) strs)
    let n := after (exec (.srearm core0 (ins 7 1 0 0 0)) strs)
    (strs.issues core0 0x81 (ins 3 1 0 0 0) = true ∧
      (t.dev.stream core0 3).map (fun st => st.rearm) = some (some (0x7000, 0, 0)) ∧ t.mem = strs.mem) ∧
    (strs.issues core0 0x82 (ins 4 5 0 0 0) = true ∧ indexOk (sdes 0x5000 8 1 0 3 0 1 0 0 0) = true ∧
      (l.dev.stream core0 4).map (fun st => st.link) = some (some 5) ∧ (l.dev.stream core0 5).map (fun st => st.drives) = some (some 4)) ∧
    (strs.issues core0 0x83 (ins 6 0 0 0 0) = true ∧ tsorted (strs.dev.tensor core0).streams = true ∧ d.dev.stream core0 6 = none) ∧
    (strs.issues core0 0x84 (ins 9 6 0 0 0) = true ∧ (p.dev.core core0).getS 9 = ⟨1, false⟩ ∧ (p.dev.core core0).pc = 0x1008) ∧
    (strs.issues core0 0x81 (ins 7 1 0 0 0) = true ∧ strs.dev.stream core0 7 = none ∧ n.dev.stream core0 7 = none) := by decide +kernel

/-- v1 lanes (FP32): 1.5, then zeros; v2: 2.5; v3: −4.0 in lane 0, lane 1 poisoned. -/
def vecs : State := (tens [] fun k => k |> sr 1 0x4000 |> sr 2 0x4000_0000 |> sr 3 0x4001 |> sr 4 0x9000_0000).onDev fun d =>
  d.onTensor core0 fun t => { t with v :=
    [(1, vregOf 4 [(0x3FC00000, false)]), (2, vregOf 4 [(0x40200000, false)]), (3, vregOf 4 [(0xC0800000, false), (0, true)])] }

/-- Lanes 0 and 1 of vd after a vector instruction of a core with nothing outstanding. -/
def lanes01 (opc : Nat) (w : Ins) (i : Instr) (n : Nat) : Option (List (Nat × Bool)) :=
  if vecs.issues core0 opc w then
    let v := ((after (exec i vecs)).dev.tensor core0).vreg w.d.toNat
    some [v.lane n 0, v.lane n 1]
  else none

/-- FP32: 1.5 + 2.5 = 4, 1.5 − 2.5 = −1, 1.5 × 2.5 = 3.75, 1.5 × 2.5 − 4 = −0.25. -/
theorem test_vector_arithmetic :
    lanes01 0xB0 (ins 4 1 2 0 1) (.vadd core0 (ins 4 1 2 0 1)) 4 = some [(0x40800000, false), (0, false)] ∧
    lanes01 0xB1 (ins 4 1 2 0 1) (.vsub core0 (ins 4 1 2 0 1)) 4 = some [(0xBF800000, false), (0, false)] ∧
    lanes01 0xB2 (ins 4 1 2 0 1) (.vmul core0 (ins 4 1 2 0 1)) 4 = some [(0x40700000, false), (0, false)] ∧
    lanes01 0xB3 (ins 4 1 2 3 1) (.vfma core0 (ins 4 1 2 3 1)) 4 = some [(0xBE800000, false), (0, true)] ∧
    lanes01 0xB4 (ins 4 1 3 0 1) (.vmin core0 (ins 4 1 3 0 1)) 4 = some [(0xC0800000, false), (0, true)] ∧
    lanes01 0xB5 (ins 4 1 3 0 1) (.vmax core0 (ins 4 1 3 0 1)) 4 = some [(0x3FC00000, false), (0, true)] ∧
    lanes01 0xB6 (ins 4 3 0 0 1) (.vabs core0 (ins 4 3 0 0 1)) 4 = some [(0x40800000, false), (0, true)] ∧
    lanes01 0xB7 (ins 4 3 0 0 1) (.vneg core0 (ins 4 3 0 0 1)) 4 = some [(0x40800000, false), (0x80000000, true)] := by decide +kernel

/-- 1 / −4 = −0.25; 1 / √2.5 = 0.63245553 (0x3F21E89B); 2^2.5 = 5.6568542 (0x40B504F3); log2 2.5 = 1.3219281 (0x3FA934F1);
1.5 / 2.5 = 0.6 (0x3F19999A). -/
theorem test_vector_functions :
    (lanes01 0xB8 (ins 4 3 0 0 1) (.vrcp core0 (ins 4 3 0 0 1)) 4).map (fun l => l.head?) = some (some (0xBE800000, false)) ∧
    (lanes01 0xB9 (ins 4 2 0 0 1) (.vrsqrt core0 (ins 4 2 0 0 1)) 4).map (fun l => l.head?) = some (some (0x3F21E89B, false)) ∧
    (lanes01 0xBA (ins 4 2 0 0 1) (.vexp2 core0 (ins 4 2 0 0 1)) 4).map (fun l => l.head?) = some (some (0x40B504F3, false)) ∧
    (lanes01 0xBB (ins 4 2 0 0 1) (.vlog2 core0 (ins 4 2 0 0 1)) 4).map (fun l => l.head?) = some (some (0x3FA934F1, false)) ∧
    (lanes01 0xBF (ins 4 1 2 0 1) (.vdiv core0 (ins 4 1 2 0 1)) 4).map (fun l => l.head?) = some (some (0x3F19999A, false)) := by
  decide +kernel

theorem test_vector_moves :
    lanes01 0xA4 (ins 4 1 0 0 1) (.vbcast core0 (ins 4 1 0 0 1)) 4 = some [(0x4000, false), (0x4000, false)] ∧
    lanes01 0xA7 (ins 4 3 0 0 0) (.vmov core0 (ins 4 3 0 0 0)) 4 = some [(0xC0800000, false), (0, true)] ∧
    lanes01 0xA8 (ins 4 1 0 0 1) (.vcvt core0 (ins 4 1 0 0 1)) 2 = some [(0x3FC0, false), (0, false)] ∧
    lanes01 0xA8 (ins 4 1 0 0 0) (.vcvt core0 (ins 4 1 0 0 0)) 4 = some [(0, false), (0x3FC00000, false)] ∧
    lanes01 0xBC (ins 4 1 2 0 5) (.vcmp core0 (ins 4 1 2 0 5)) 4 = some [(0xFFFFFFFF, false), (0, false)] ∧
    lanes01 0xBD (ins 4 1 2 2 0) (.vsel core0 (ins 4 1 2 2 0)) 2 = some [(0, false), (0x3FC0, false)] ∧
    lanes01 0xA6 (ins 4 1 1 0 3) (.vins core0 (ins 4 1 1 0 3)) 4 = some [(0x3FC00000, false), (0x4000, false)] := by decide +kernel

theorem test_vector_to_scalar :
    let e := after (exec (.vext core0 (ins 9 3 0 0 1)) vecs)
    let m := after (exec (.vred core0 (ins 9 1 0 0 3)) vecs)
    let a := after (exec (.vred core0 (ins 9 3 0 0 1)) vecs)
    vecs.issues core0 0xA5 (ins 9 3 0 0 1) = true ∧ (e.dev.core core0).getS 9 = ⟨0xC0800000, false⟩ ∧
    vecs.issues core0 0xBE (ins 9 1 0 0 3) = true ∧ (m.dev.core core0).getS 9 = ⟨0x3FC00000, false⟩ ∧
    vecs.issues core0 0xBE (ins 9 3 0 0 1) = true ∧ (a.dev.core core0).getS 9 = ⟨0xC0800000, true⟩ := by decide +kernel

/-- VLD at 0x4000; VST of v1 to core 0's own store; stops at an address that is no multiple of 256 or is not mapped. -/
theorem test_vector_memory :
    let s : State := { vecs with mem := ⟨cells 0x4000 [1, 2, 3] ++ vecs.mem.cells, [], []⟩ }
    let l := after (exec (.vld core0 (ins 4 1 0 0 0)) s)
    let w := after (exec (.vst core0 (ins 0 2 1 0 0)) s)
    let a := coreStoreAddr 0 0 0 0
    s.mem.wf = true ∧ s.issues core0 0xA0 (ins 4 1 0 0 0) = true ∧ s.coreAddr core0 0x4000 256 ⟨true, false⟩ = some 0x4000 ∧
    mirrorOffset core0 0x4000 = none ∧ s.presentRange 0x4000 256 = true ∧ s.poisoned 0x4000 256 = false ∧
    ((l.dev.tensor core0).vreg 4).lane 4 0 = (0x00030201, false) ∧
    s.issues core0 0xA1 (ins 0 2 1 0 0) = true ∧ s.coreAddr core0 0x4000_0000 256 ⟨false, true⟩ = some a ∧ a % 256 = 0 ∧
    s.presentRange a 256 = true ∧ s.behindWrapper a = false ∧ w.loadN a 4 = 0x3FC00000 ∧ w.loadN (a + 256) 8 = 0 ∧
    raisedBy s core0 0x5003 (.vld core0 (ins 4 3 0 0 0)) ∧ raisedBy s core0 0x5003 (.vst core0 (ins 0 3 1 0 0)) ∧
    raisedBy s core0 0x5004 (.vld core0 (ins 4 4 0 0 0)) ∧ raisedBy s core0 0x5004 (.vst core0 (ins 0 4 1 0 0)) := by decide +kernel

/-- VGET takes 256 bytes of a staged item; VPUT appends a packet to the item being built. -/
theorem test_vector_streams :
    let s := vecs.onDev fun d => d.onTensor core0 fun t => { t with streams :=
      [(3, { armed rd32 with requested := 1, staged := [⟨0, [plain 2 (1 :: List.replicate 255 0)]⟩] }), (4, armed wr32)] }
    let g := after (exec (.vget core0 (ins 4 3 0 0 0)) s)
    let p := after (exec (.vput core0 (ins 0 4 1 0 1)) s)
    s.issues core0 0xA2 (ins 4 3 0 0 0) = true ∧ ((s.dev.stream core0 3).bind fun st => st.next (s.dev.tensor core0)).isSome = true ∧
    ((g.dev.tensor core0).vreg 4).lane 4 0 = (1, false) ∧
    s.issues core0 0xA3 (ins 0 4 1 0 1) = true ∧ (armed wr32).room = true ∧
    (s.dev.tileAt core0 (armed wr32) 0).rows * (s.dev.tileAt core0 (armed wr32) 0).cols * sdElemBits wr32 = 2048 ∧
    (let big := sdes 0x6000 128 2 512 2 1 2 0 0 0
     let u := vecs.onDev fun d => d.onTensor core0 fun t => { t with streams := [(4, armed big)] }
     let q := after (exec (.vput core0 (ins 0 4 1 0 1)) u)
     u.issues core0 0xA3 (ins 0 4 1 0 1) = true ∧
       ((q.dev.stream core0 4).map fun st => st.puts.map fun p => p.payload.take 4) = some [[0, 0, 0xC0, 0x3F]]) ∧
    ((p.dev.stream core0 4).map fun st => st.buf.length) = some 1 := by decide +kernel

/-! ## Stream events -/

/-- A tensor operation of core 0 with OPC, fields and operand, in place n of the issue order. -/
def top (n opc : Nat) (w : Ins) (x : Nat) (holds : List Nat) : TOp :=
  ⟨n, opc, w, 0, 0, BitVec.ofNat 64 x, 0, 0, 0, holds, false⟩

/-- The descriptor of rd32 at 0x7000, one of KIND 5 (reserved) at 0x7040, and 1.0 and 2.0 at 0x4000. -/
def evts (streams : List (Nat × Stream)) (f : Tensor → Tensor) : State :=
  let s := tens streams id
  let bytes := fun (n : Nat) => (leBytes 64 n).map BitVec.toNat
  { s with
    mem := ⟨cells 0x4000 [0, 0, 0x80, 0x3F, 0, 0, 0, 0x40] ++ cells 0x7000 (bytes rd32 ++ bytes (rd32 + 3 <<< 426)) ++ s.mem.cells, [], []⟩
    dev := s.dev.onTensor core0 f }

theorem test_stream_armed :
    let q := fun (a : Nat) => evts [] fun t => { t with streamQ := [top 0 0x80 (ins 3 1 0 0 0) a []] }
    let t := after (exec (.streamArmed core0 3) (q 0x7000))
    let u := after (exec (.streamArmed core0 3) (q 0x7040))
    ((q 0x7000).loadV 0 0x7000 64 = some (leBytes 64 rd32, false) ∧ ((q 0x7000).dev.tensor core0).vectorQ = [] ∧
      ((q 0x7000).dev.tensor core0).turn (top 0 0x80 (ins 3 1 0 0 0) 0x7000 []) 3 = true ∧ (q 0x7000).dev.stream core0 3 = none ∧
      ((q 0x7000).onDev fun d => d.popStreamQ core0).armCause core0 0 3 rd32 = none ∧ sdLinked rd32 = false) ∧
    ((t.dev.stream core0 3).map fun st => (st.desc.toNat, st.base, st.passes, st.requested, st.taken)) = some (rd32, 0x4000, 1, 0, 0) ∧
    (t.dev.tensor core0).streamQ = [] ∧
    ((q 0x7040).onDev fun d => d.popStreamQ core0).armCause core0 0 3 (rd32 + 3 <<< 426) = some 0 ∧
    u.dev.stream core0 3 = none ∧ (u.dev.core core0).csr.fpend = true ∧ u.dev.newest = some 0x6010 := by decide +kernel

theorem test_rearm_takes_effect :
    let st := { armed (sdes 0x4000 64 2 256 2 0 2 0 1 0) with requested := 2, rearm := some (0x5000, 1, 2) }
    let s := evts [(3, st)] id
    s.calm core0 = true ∧ st.limit (s.dev.tensor core0) = 2 ∧
    goes (exec (.rearmTakeEffect core0 3) s) (s.onDev fun d => d.setStream core0 3
      { st with base := 0x5000, passEpoch := 1, passTag := 2, passes := 2, rearm := none }) = true := by decide +kernel

/-- A request reads row 0 of the tensor; with AHEAD (4) tiles outstanding nothing is requested; the bytes arrive later. -/
theorem test_tiles :
    let s := evts [(3, armed rd32)] id
    let it : Item := ⟨0, []⟩
    let f := evts [(3, { armed (sdes 0x4000 64 9 256 2 0 2 0 0 0) with requested := 4, staged := [it, it, it, it] })] id
    let t := after (exec (.tileRequest core0 3) s)
    let u := after (exec (.tileStaged core0 3 0) t)
    s.calm core0 = true ∧ (s.fetchTile 0 (armed rd32) 2 0).2 = none ∧ sdAhead rd32 = 4 ∧
    ((t.dev.stream core0 3).map fun st => (st.requested, st.flight.map fun f => f.tile)) = some (1, [0]) ∧
    goes (exec (.tileRequest core0 3) f) f = true ∧
    ((u.dev.stream core0 3).map fun st => (st.flight.length, st.staged.map fun i => (i.tile, i.pkts.map fun p => p.payload.take 8)))
      = some (0, [(0, [[0, 0, 0x80, 0x3F, 0, 0, 0, 0x40]])]) := by decide +kernel

theorem test_tile_taken :
    let it : Item := ⟨0, [plain 2 [1, 2, 3, 4]]⟩
    let st := { armed rd32 with requested := 1, staged := [it] }
    let s := evts [(3, st)] fun t => { t with convQ := [top 0 0xC8 (ins 4 3 0 0 1) 0 [3, 4]] }
    s.calm core0 = true ∧ 3 ∈ (top 0 0xC8 (ins 4 3 0 0 1) 0 [3, 4]).holds ∧ top 0 0xC8 (ins 4 3 0 0 1) 0 [3, 4] ∈ (s.dev.tensor core0).ops ∧
    goes (exec (.tileTaken core0 3) s) (s.onDev fun d => d.setStream core0 3
      { st with staged := [], given := [it], taken := 1 }) = true := by decide +kernel

/-- A write tile of one row: its 256 bytes stand at the row's address. -/
theorem test_write_tile :
    let st := { armed wr32 with buf := [⟨1, [plain 2 (7 :: List.replicate 255 0)]⟩], accepted := 2 }
    let s := evts [(3, st)] id
    let t := after (exec (.streamWriteTile core0 3) s)
    s.calm core0 = true ∧ (plain 2 (7 :: List.replicate 255 0)).hdr.width.toNat = kindWidth 2 ∧
    pieces 0x6100 256 = [(0x6100, 256)] ∧ s.translateMem 0 0x6100 ⟨false, true⟩ = some 0x6100 ∧ (s.dev.tileAt core0 st 1).rows = 1 ∧
    (t.dev.stream core0 3 = some { st with buf := [], writing := 1, placed := 1 } ∧
      t.mem = (s.store 0x6100 (7 :: List.replicate 255 0) false).mem) ∧
    goes (exec (.writeBufferFree core0 3) t) (t.onDev fun d => d.setStream core0 3 { st with buf := [], writing := 0, placed := 1 }) = true := by
  decide +kernel

/-! ## Chains and orbits -/

def core1 : CoreId := ⟨0, 0, 1⟩

/-- The reader of a chain on core 0 (partner core 1) and the writer on core 1 (partner core 0). -/
def chain (r w : Stream → Stream) : State :=
  let s := evts [(3, r (armed (sdes 1 64 2 0 2 0 1 1 0 0)))] id
  s.onDev fun d => d.onTensor core1 fun t => { t with streams := [(5, w (armed (sdes 0 64 2 0 2 1 1 1 0 0)))] }

theorem test_chain_grant :
    let s := chain (fun st => { st with owed := 1 }) id
    let st := armed (sdes 1 64 2 0 2 0 1 1 0 0)
    let lone := evts [(3, { st with owed := 1 })] id
    let t := after (exec (.chainGrant core0 3) lone)
    partnerOf st.desc.toNat = core1 ∧ ((s.dev.tensor core1).chainTo 1 core0).map Prod.fst = some 5 ∧ coreKey core1 ≠ coreKey core0 ∧
    s.dev.crosses core0 core1 0 = true ∧ goes (exec (.chainGrant core0 3) s) (s.onDev fun d => (d.setStream core0 3 { st with owed := 0 }).setStream core1 5
      { armed (sdes 0 64 2 0 2 1 1 1 0 0) with grants := 1 }) = true ∧
    ((lone.dev.tensor core1).chainTo 1 core0 = none ∧ tget (t.dev.tensor core1).kept 0 (coreKey core0) = 1) := by decide +kernel

/-- HOLD forced on at the writer's receive chute of the request network keeps the grant back (R23, R66). -/
theorem test_chain_held :
    let s := (chain (fun st => { st with owed := 1 }) id).onDev fun d => d.setRf (Reg.chuteCtl ⟨.core 0 0 1, 65⟩) 17 16 1
    s.dev.crosses core0 core1 0 = false ∧ s.dev.crosses core0 core1 2 = true ∧ goes (exec (.chainGrant core0 3) s) s := by decide +kernel

theorem test_chain_send :
    let it : Item := ⟨0, [plain 2 [1, 2, 3, 4]]⟩
    let st := armed (sdes 0 64 2 0 2 1 1 1 0 0)
    let s0 := chain id fun st => { st with buf := [it] }
    let s1 := chain id fun st => { st with buf := [it], grants := 1 }
    let r := armed (sdes 1 64 2 0 2 0 1 1 0 0)
    let got := chain (fun st => { st with arriving := [it] }) id
    s0.calm core1 = true ∧ s1.dev.crosses core1 core0 2 = true ∧ goes (exec (.chainTileSend core1 5) s0) s0 ∧
    goes (exec (.chainTileSend core1 5) s1) (s1.onDev fun d => (d.setStream core1 5 { st with writing := 1, placed := 1 }).setStream core0 3
      { r with arriving := [it] }) ∧
    (4 ≤ sdTileBytes r.desc.toNat ∧ goes (exec (.chainItemReceive core0 3) got) (got.onDev fun d => d.setStream core0 3
      { r with staged := [it], requested := 1 })) := by decide +kernel

/-- A ring of cores 0 and 1: region 0 of core 0 is copied to region 1 of core 1; a core that finished a step says so. -/
def orb (pos step : Nat) : Stream :=
  { armed (sdes 0x4000 64 2 256 2 0 2 2 0 0) with
    orbit := some { n := 2, ring := [0, 1], pos := pos, base := coreStoreAddr 0 0 pos 0, size := 512, step := step, took := 0
                    copied := false, arrived := [], heads := [], readySent := 0, ready := 0 } }

theorem test_orbit :
    let s0 := evts [(3, orb 0 0)] id
    let s := (s0.onDev fun d => d.onTensor core1 fun t => { t with streams := [(3, orb 1 0)] }).store (coreStoreAddr 0 0 0 8) [5] false
    let t := after (exec (.orbitCopy core0 3) s)
    let w := (evts [(3, orb 0 1)] id).onDev fun d => d.onTensor core1 fun t => { t with streams := [(3, orb 1 0)] }
    let u := after (exec (.orbitReady core0 3) w)
    s.calm core0 = true ∧ ((s.dev.tensor core1).orbitHandle 3).map Prod.fst = some 3 ∧ (s.dev.core core1).run ≠ .blockReset ∧
    t.byte (coreStoreAddr 0 0 1 (512 + 8)) = 5 ∧
    ((t.dev.stream core1 3).bind fun y => y.orbit.map fun q => q.arrived) = some [(1, true)] ∧
    ((t.dev.stream core0 3).bind fun y => y.orbit.map fun q => q.copied) = some true ∧
    ((u.dev.stream core0 3).bind fun y => y.orbit.map fun q => q.readySent) = some 1 ∧
    ((u.dev.stream core1 3).bind fun y => y.orbit.map fun q => q.ready) = some 1 := by decide +kernel

/-! ## The Lattice -/

/-- A packet of one INT4 block (codebook 0x04) with exponent 0 (byte 127). -/
def nar (codes : List Nat) : Packet :=
  narrowPacket (coreHdr core0 0x04 0 0) [⟨0, 4, 4, 0, false, 127, codes, [], false⟩]

/-- Descriptor of a KIND 0 stream of slot width 4, one row of 32 columns, role 1 (activation), layer 0. -/
def actDesc : Nat := sdes 0x4000 32 1 0 0 0 1 0 0 0 + 4 <<< 492 + 1 <<< 424

/-- Layer 0 and tensor-scale entry 0 (1.0) valid; t1: an activation tile, 32 times code 2; t2: a weight tile, 32 times code 1;
t3: outlier weights (1.0 in BF16); t4: a write stream of KIND 4; the outlier table lists channel 0, whose side-path operand is 2.0. -/
def latt (f : Tensor → Tensor) (outl : Nat) : State :=
  let st := fun (p : Packet) (w : Nat) => { armed w with requested := 1, staged := [⟨0, [p]⟩] }
  let s := evts [(1, st (nar (List.replicate 32 2)) actDesc), (2, st (nar (List.replicate 32 1)) actDesc),
    (3, st (plain 1 [0x80, 0x3F]) (sdes 0x5000 1 1 0 1 0 1 0 0 0)), (4, armed (sdes 0x6000 2048 1 0 4 1 1 0 0 0))] f
  { s with
    dev := ((s.dev.setRegN (Reg.tscaleEnt ⟨0, 0⟩ 0) (0x3F80_0000 + 2 ^ 38)).setRegN (Reg.layerDesc ⟨0, 0⟩ 0 0)
        (2 ^ 37 + outl <<< 23)).setRegN (Reg.layerDesc ⟨0, 0⟩ 0 1) 0x1_00 |>.setUnits ⟨0, 0⟩
          { CluUnits.init with side := [⟨0, 0, 0, 0x4000, false, 0⟩] } }

def lloadOp : TOp := top 0 0x90 (ins 0 2 0 0 0) 0 [2]
def lrunOp : TOp := top 2 0x92 (ins 0 1 0 0 0x200) 0 [1]

theorem test_load_and_swap :
    let s := latt (fun t => { t with latticeQ := [lloadOp] }) 0
    let t := after (exec (.loadDone core0) s)
    let w := ((s.dev.loadTile core0 lloadOp 2 false false).map fun r => r.2)
    let q := latt (fun t => { t with latticeQ := [top 1 0x91 (ins 0 0 0 0 0) 0 []], back := w }) 0
    let e := latt (fun t => { t with latticeQ := [top 1 0x91 (ins 0 0 0 0 0) 0 []] }) 0
    let u := after (exec (.swapTakeEffect core0) e)
    s.calm core0 = true ∧ (s.dev.tensor core0).turns lloadOp = true ∧ ((s.dev.loadTile core0 lloadOp 2 false false).map fun r => r.2.wide) = some false ∧
    w.isSome = true ∧ (t.dev.tensor core0).back = w ∧ (t.dev.tensor core0).latticeQ = [] ∧
    ((w.map fun x => (x.form, x.positions, x.rows.length)) = some (.single, 32, 1)) ∧
    (after (exec (.swapTakeEffect core0) q)).dev.tensor core0 = { q.dev.tensor core0 with latticeQ := [], front := w, back := none } ∧
    ((u.dev.core core0).csr.fpend = true ∧ (u.dev.tensor core0).latticeQ = [] ∧ (u.dev.tensor core0).front = none) := by decide +kernel

/-- The weight tile in front and the run of LRUN M = 1 before it starts. -/
def loaded (outl : Nat) (op : TOp) : State :=
  let s := latt id outl
  s.onDev fun d => d.onTensor core0 fun t => { t with latticeQ := [op], front := (s.dev.loadTile core0 lloadOp 2 false false).map fun r => r.2 }

theorem test_run_may_start :
    let s := loaded 0 lrunOp
    s.calm core0 = true ∧ s.dev.runMayStart core0 lrunOp = true ∧ s.firstForm core0 lrunOp = some .single ∧ runSeed lrunOp = false ∧
    (s.dev.runHandles core0 lrunOp).2 = true ∧ runMode lrunOp = 0 ∧ runWsrc lrunOp = false ∧ runM lrunOp = 1 := by decide +kernel

theorem test_run_starts :
    let s := loaded 0 lrunOp
    let t := after (exec (.runStart core0) s)
    ((s.dev.tensor core0).front.map fun w => w.positions) = some 32 ∧
    ((t.dev.tensor core0).run.map fun r => (r.k, r.tile, r.wave, r.fixed)) = some (32, 0, 0, false) ∧
    ((t.dev.tensor core0).outs.map fun o => (o.seq, o.m, o.n, o.ended)) = [(2, 1, 64, false)] := by decide +kernel

/-- Memory streams bound no run (the premise of RUN_START on its activation handle). -/
theorem test_no_span : ∀ n, (loaded 0 lrunOp).dev.spanBad core0 1 n = false := by
  intro n
  have h : (loaded 0 lrunOp).dev.stream core0 1 = some { armed actDesc with requested := 1, staged := [⟨0, [nar (List.replicate 32 2)]⟩] } := by
    decide +kernel
  have e : sdEnd actDesc = 0 := by decide +kernel
  have w : (BitVec.ofNat 512 actDesc).toNat = actDesc := by decide +kernel
  simp [Device.spanBad, Device.spanLeft, h, armed, w, e]

/-- The run started; its activations taken and its anchor fixed; every feeder filled. -/
def started (outl : Nat) (op : TOp) : State := after (exec (.runStart core0) (loaded outl op))
def fixed (outl : Nat) (op : TOp) : State := after (exec (.anchorFixed core0) (started outl op))
def filled (outl : Nat) (op : TOp) : State :=
  (after (exec (.feederRefill core0 0) (fixed outl op))).onDev fun d => d.onTensor core0 fun t =>
    { t with run := t.run.map fun r => { r with feeders := List.replicate 64 1 } }
def sent (outl : Nat) (op : TOp) : State := after (exec (.passBroadcast core0) (filled outl op))

/-- Every product is ± m 2^e with e at most the anchor (R152): code 1 times code 2 of INT4 at exponent 0. -/
theorem test_anchor :
    let s := started 0 lrunOp
    let t := fixed 0 lrunOp
    s.calm core0 = true ∧ ((s.dev.tensor core0).run.map fun r => ((s.dev.tensor core0).outs.head?.bind fun o => s.runNewer core0 r o r.k, (s.peekActs core0 r (r.k + 1) 0 r.covered).isSome,
      (s.peekWeights core0 r 0).isSome)) = some (none, true, true) ∧
    ((t.dev.tensor core0).run.map Run.fixed) = some true ∧ ((t.dev.tensor core0).outs.map fun o => o.anchor.isSome) = [true] := by decide +kernel

theorem test_feeder_refill :
    let s := (filled 0 lrunOp).onDev fun d => d.onTensor core0 fun t =>
      { t with run := t.run.map fun r => { r with feeders := List.replicate 64 0 } }
    s.calm core0 = true ∧ ((s.dev.tensor core0).run.map fun r => (r.k, r.covered)) = some (32, 32) ∧
    ((after (exec (.feederRefill core0 31) s)).dev.tensor core0).run =
      (s.dev.tensor core0).run.map (fun r => { r with feeders := (List.replicate 64 0).set 31 1 }) := by decide +kernel

/-- With an empty feeder the array freezes; else one pass is broadcast, and its sum, 32 × 1 × 2 = 64, enters the tally later. -/
theorem test_pass :
    let s := filled 0 lrunOp
    let f := s.onDev fun d => d.onTensor core0 fun t => { t with run := t.run.map fun r => { r with feeders := List.replicate 64 0 } }
    let t := sent 0 lrunOp
    ((f.dev.tensor core0).run.bind fun r => (f.dev.tensor core0).outs.head?.bind fun o => f.freeze core0 r o).isSome = true ∧
    (after (exec (.passBroadcast core0) f)).dev.tensor core0 = f.dev.tensor core0 ∧
    ((s.dev.tensor core0).run.map fun r => (r.allPassed, decide (r.tile < r.swapped), r.waveZero 0, r.twoPasses 0)) =
      some (false, true, false, false) ∧
    ((s.dev.tensor core0).run.bind fun r => (s.dev.tensor core0).outs.head?.bind fun o => s.freeze core0 r o) = none ∧
    ((t.dev.tensor core0).run.map fun r => (r.tile, r.allPassed)) = some (1, true) := by decide +kernel

theorem test_tally_update :
    let t := sent 0 lrunOp
    let u := after (exec (.tallyUpdate core0) t)
    ((t.dev.tensor core0).run.map fun r => r.flight.map fun p => (p.wave, p.adds.map fun a => (a.1, a.2.1), p.bad)) =
      some [(0, [(0, 64)], [])] ∧
    ((u.dev.tensor core0).run.map fun r => r.flight) = some [] ∧
    ((u.dev.tensor core0).outs.map fun o => (o.tallies.map fun x => (x.1, x.2.got))) = [[(0, true)]] := by decide +kernel

theorem test_run_end :
    let t := sent 0 lrunOp
    let u := after (exec (.tallyUpdate core0) t)
    let e := after (exec (.runEnd core0) u)
    goes (exec (.runEnd core0) t) t ∧ (e.dev.tensor core0).run = none ∧ ((e.dev.tensor core0).outs.map fun o => o.ended) = [true] ∧
    ((u.dev.tensor core0).run.map fun r => (r.fixed, r.allPassed, r.flight)) = some (true, true, []) := by decide +kernel

/-- OUTL with OHND 3: the product of the side-path operand 2.0 and the weight 1.0 enters the tally of wave 0, column 0. -/
theorem test_outlier_product :
    let op := top 2 0x92 (ins 0 1 0 0 0x3_0300) 0 [1, 3]
    let s0 := loaded 1 op
    let s1 : State := { s0 with mem := ⟨(s0.mem.cells.filter fun x => decide (x.1 < 0x1_0000)) ++ cells 0x1_0004 [255, 255, 255, 255]
      ++ s0.mem.cells.filter fun x => decide (0x1_0000 ≤ x.1), [], []⟩ }
    let s := after (exec (.anchorFixed core0) (after (exec (.runStart core0) s1)))
    let t := after (exec (.outlierProduct core0) s)
    ((s.dev.tensor core0).run.bind fun r => (s.dev.tensor core0).outs.head?.bind fun o =>
      (s.outProds core0 r o (r.row0 [])).map fun ps => ps.map fun p => (p.wave, p.col, p.s, p.nonfin, p.poison)) =
        some [(0, 0, 2 ^ 14, false, false)] ∧
    ((s.dev.tensor core0).run.map fun r => (r.fixed, r.outliers)) = some (true, 0) ∧
    ((s.dev.tensor core0).outs.map fun o => o.dead) = [false] ∧
    ((t.dev.tensor core0).run.map fun r => r.outliers) = some 1 ∧
    ((t.dev.tensor core0).outs.map fun o => o.tallies.map fun x => (x.1, x.2.got)) = [[(0, true)]] := by decide +kernel

/-- A drain in tally form (KIND 4 of the target) waits for the run and then sends the 64 records of 32 bytes. -/
theorem test_drain :
    let e := after (exec (.runEnd core0) (after (exec (.tallyUpdate core0) (sent 0 lrunOp))))
    let op := top 3 0x93 (ins 4 0 0 0 4) 0 [4]
    let q := fun (s : State) => s.onDev fun d => d.onTensor core0 fun t => { t with drainQ := [op] }
    let s := q e
    let w := q (sent 0 lrunOp)
    let t := after (exec (.drainTile core0) s)
    s.calm core0 = true ∧ (s.dev.tensor core0).turns op = true ∧ s.dev.epochReached core0 0 = true ∧ (tgtOf op op.x op.y).kind = 4 ∧
    ((s.dev.stream core0 4).map fun st => (sdDir st.desc.toNat, st.room, st.accepted)) = some (1, true, 0) ∧
    goes (exec (.drainTile core0) w) w = true ∧ (t.dev.tensor core0).drainQ = [] ∧ (t.dev.tensor core0).outs = [] ∧
    ((t.dev.stream core0 4).map fun st => (st.accepted, st.buf.map fun i => (i.pkts.map fun p => p.payload.length).sum)) =
      some (1, [2048]) := by decide +kernel

/-! ## Conversions, saves, updates -/

/-- t1: an item of 64 FP32 values 1.0; t4: a write stream of 16-bit elements; t5: a write stream of bytes; layer 0 valid. -/
def conv (q : Tensor → Tensor) : State :=
  let ones := (List.replicate 64 [0, 0, 0x80, 0x3F]).flatten
  let s := evts [(1, { armed (sdes 0x4000 64 1 0 2 0 1 0 0 0) with requested := 1, staged := [⟨0, [plain 2 ones]⟩] }),
    (4, armed (sdes 0x6000 64 1 0 1 1 1 0 0 0)), (5, armed (sdes 0x6000 256 1 0 4 1 1 0 0 0))] q
  s.onDev fun d => (d.setRegN (Reg.layerDesc ⟨0, 0⟩ 0 0) (2 ^ 37)).setRegN (Reg.tscaleEnt ⟨0, 0⟩ 0) (0x3F80_0000 + 2 ^ 38)

def cvtOp (opc : Nat) (w : Ins) (h : List Nat) : TOp := top 0 opc w 0 h

/-- CVT to BF16: one item of 128 bytes beginning 0x3F80; CVTIN to FP32 takes 64 elements and uses the item up; CVTOUT of 64 lanes. -/
theorem test_conversion :
    let c := cvtOp 0xC8 (ins 4 1 0 0 1) [1, 4]
    let i := cvtOp 0xC9 (ins 2 1 0 0 0) [1]
    let s := conv fun t => { t with convQ := [c] }
    let u := conv fun t => { t with convQ := [i] }
    let r := after (exec (.conversionExecute core0) s)
    let v := after (exec (.conversionExecute core0) u)
    let k := cvtOp 0xCA (ins 5 2 0 0 0x2000) [5]
    let o := conv fun t => { t with convQ := [k] }
    let w := after (exec (.conversionExecute core0) o)
    s.calm core0 = true ∧ (s.dev.tensor core0).turns c = true ∧ (s.dev.tensor core0).vTurn c = true ∧ s.dev.epochReached core0 0 = true ∧
    (match s.dev.srcOf core0 c 1 with
      | .item st _ => st.orbit.isNone
      | _ => false) = true ∧
    (o.calm core0 = true ∧ (o.dev.tensor core0).turns k = true ∧ (o.dev.tensor core0).vTurn k = true ∧
      (w.dev.tensor core0).convQ = [] ∧ ((w.dev.stream core0 5).map fun o => o.count) = some 64) ∧
    ((r.dev.stream core0 4).map fun o => o.buf.map fun it => it.pkts.map fun p => p.payload.take 4) = some [[[0x80, 0x3F, 0x80, 0x3F]]] ∧
    (r.dev.stream core0 1).map (fun o => o.taken) = some 1 ∧
    ((v.dev.tensor core0).vreg 2).lane 4 63 = (0x3F800000, false) ∧ (v.dev.stream core0 1).map (fun o => o.taken) = some 1 := by decide +kernel

/-- A packet of one 8-bit block (custom codebook). -/
def nar8 (codes : List Nat) : Packet :=
  narrowPacket (coreHdr core0 0x04 0 7) [⟨0, 8, 0x80, 3, false, 127, codes, [], false⟩]

/-- t1: an item to save (or, of width 4, one that cannot be); t2: a compressed item; t5: where the result goes. -/
def savs (p : Packet) (op : TOp) : State :=
  let bytes := (saveBytes (nar8 (List.replicate 32 9)).hdr [(.codes 127 (List.replicate 32 9), false)]).map BitVec.toNat
  let k4 := sdes 0x4000 256 1 0 4 0 1 0 0 0
  evts [(1, { armed k4 with requested := 1, staged := [⟨0, [p]⟩] }),
    (2, { armed k4 with requested := 1, staged := [⟨0, [plain 4 bytes]⟩] }), (5, armed (sdes 0x6000 256 1 0 4 1 1 0 0 0))]
    fun t => { t with saveQ := [op] }

theorem test_save_and_restore :
    let sv := top 0 0xD8 (ins 5 1 0 0 0) 0 [1, 5]
    let rs := top 0 0xD9 (ins 5 2 0 0 0) 0 [2, 5]
    let s := savs (nar8 (List.replicate 32 9)) sv
    let b := savs (nar (List.replicate 32 1)) sv
    let r := savs (nar8 (List.replicate 32 9)) rs
    let t := after (exec (.saveExecute core0) s)
    let f := after (exec (.saveExecute core0) b)
    let v := after (exec (.restoreExecute core0) r)
    s.calm core0 = true ∧ (s.dev.tensor core0).turns sv = true ∧ (nar8 []).hdr.width = 8 ∧ (nar []).hdr.width ≠ 8 ∧
    ((t.dev.stream core0 5).map fun o => o.buf.map fun it => (it.pkts.map fun p => p.payload.take 8).flatten) =
      some [[1, 0, 0, 0, 0x80, 3, 7, 0]] ∧
    ((f.dev.core core0).csr.fpend = true ∧ f.dev.newest = some 0x8010) ∧
    ((v.dev.stream core0 5).map fun o => o.buf.map fun it => it.pkts.map fun p => (p.hdr.blocks.toNat, p.hdr.width.toNat)) =
      some [[(1, 8)]] := by decide +kernel

/-- A saved item decodes to what was saved: a zero block, and a block with exponent 254, poisoned. -/
theorem test_saved_item :
    let bs : List (Blk × Bool) := [(.zero, false), (.codes 254 (List.replicate 32 255), true)]
    bs ≠ [] ∧ bs.length < 2 ^ 32 ∧ (match restBytes (saveBytes (nar8 []).hdr bs) with
      | .ok r => decide (r = (0x80, 3, 7, bs))
      | .error _ => false) = true := by decide +kernel

/-- An update descriptor of program 1 (momentum) over INT8 blocks of layer 0 and tensor scale 0, with FLAGS and COUNT. -/
def updBytes (flags count : Nat) : List Nat :=
  List.replicate 48 0 ++ [count, 0, 0, 0, 0, 0, flags, 0] ++ List.replicate 24 0 ++ [0, 2, 8, 0, 0, 3, 8, 0] ++ List.replicate 40 0

/-- It stands at 0x8000; MASTER holds 1.0 at 0, gradient and moment are zero. -/
def upds (flags count : Nat) : State :=
  let s := (evts [] id).onDev fun d => (d.setRegN (Reg.layerDesc ⟨0, 0⟩ 0 0) (2 ^ 37)).setRegN (Reg.tscaleEnt ⟨0, 0⟩ 0) (0x3F80_0000 + 2 ^ 38)
  { s with
    mem := ⟨cells 0 [0, 0, 0x80, 0x3F] ++ cells 0x8000 (updBytes flags count) ++ s.mem.cells.filter fun x => decide (0x8080 ≤ x.1), [], []⟩
    dev := (s.dev.setRegN (Reg.wcStat ⟨0, 0⟩) 0).setUnits ⟨0, 0⟩ { CluUnits.init with updates := [(0, top 0 0xD0 (ins 0 1 0 0 1) 0x8000 [])] } }

theorem test_update_program :
    let u := fun (f n : Nat) => (⟨1, (updBytes f n).map (BitVec.ofNat 8)⟩ : UpdDesc)
    let left := fun (f n : Nat) => ((after (exec (.updateProgram ⟨0, 0⟩) (upds f n))).dev.unitsOf ⟨0, 0⟩).updates
    (upds 0 1).loadV 0 0x8000 128 = some ((updBytes 0 1).map (BitVec.ofNat 8), false) ∧
    ((u 0 1).cause = none ∧ (u 0 1).flag 4 = false) ∧
    left 0 1 = [] ∧
    ((u 16 1).cause = none ∧ (u 16 1).flag 4 = true ∧ (upds 16 1).dev.rbit (Reg.wcStat ⟨0, 0⟩) 2 = false ∧ (left 16 1).length = 1 ∧
      ((after (exec (.updateProgram ⟨0, 0⟩) (upds 16 1))).dev.unitsOf ⟨0, 0⟩).tscHeld = some (0, 0x3F80_0000)) ∧
    ((u 0 0).cause = some 2 ∧ left 0 0 = [] ∧ (after (exec (.updateProgram ⟨0, 0⟩) (upds 0 0))).dev.newest = some 0x8001) := by
  decide +kernel

/-! ## The width controller -/

def clu0 : ClusterId := ⟨0, 0⟩

/-- The base state with registers set. -/
def regs (l : List (Nat × Nat)) : State := base.onDev fun d => l.foldl (fun d x => d.setRegN x.1 x.2) d

theorem test_codebook_writes :
    let v := regs [(Reg.cbDesc clu0 63, 4)]
    let t := after (exec (.cbEntryWrite clu0 63 255 0x7F7F) base)
    let ok := after (exec (.cbDescWrite clu0 63 4) base)
    let bad := after (exec (.cbDescWrite clu0 63 4) (regs [(Reg.cbEntry clu0 63 0, 0x100)]))
    base.dev.power.input = true ∧ clusterPresent clu0 = true ∧ base.dev.rf (Reg.cbDesc clu0 63) 3 0 = 0 ∧
    goes (exec (.cbEntryWrite clu0 63 255 5) v) v ∧ t.dev.reg (Reg.cbEntry clu0 63 255) = 0x7F7F_0000_0000_0000 ∧
    (ok.dev.rf (Reg.cbDesc clu0 63) 3 0 = 4 ∧ ok.dev.rbit (Reg.cbDesc clu0 63) 16 = false) ∧
    (bad.dev.rf (Reg.cbDesc clu0 63) 3 0 = 0 ∧ bad.dev.rbit (Reg.cbDesc clu0 63) 16 = true) := by decide +kernel

/-- ENABLE = 1, and NEXT_READY = 1 with it. -/
def wcOn1 : State := regs [(Reg.wcCtl clu0, 1)]
def wcNext : State := regs [(Reg.wcCtl clu0, 1), (Reg.wcStat clu0, 4)]
def wcOff : State := regs [(Reg.wcStat clu0, 0)]

theorem test_scale_and_layer_writes :
    wcOn1.dev.wcOn clu0 = true ∧ wcOff.dev.wcOn clu0 = false ∧ wcNext.dev.nextReady clu0 = true ∧ wcOff.dev.nextReady clu0 = false ∧
    goes (exec (.tscaleEntWrite clu0 255 0x3F80_0000) wcOn1) wcOn1 ∧
    (let t := after (exec (.tscaleEntWrite clu0 255 0x3F80_0000) wcOff)
     t.dev.rf (Reg.tscaleEnt clu0 255) 31 0 = 0x3F80_0000 ∧ t.dev.rf (Reg.tscaleNext clu0 255) 31 0 = 0x3F80_0000) ∧
    goes (exec (.tscaleNextWrite clu0 255 5) wcOff) wcOff ∧
    (after (exec (.tscaleNextWrite clu0 255 0x3F80_0000) wcNext)).dev.rf (Reg.tscaleNext clu0 255) 31 0 = 0x3F80_0000 ∧
    goes (exec (.layerDescWrite clu0 255 0 5) wcOn1) wcOn1 ∧ goes (exec (.layerNextWrite clu0 255 1 5) wcOff) wcOff ∧
    (after (exec (.layerDescWrite clu0 255 1 5) wcOff)).dev.reg (Reg.layerNext clu0 255 1) = 5 ∧
    (after (exec (.layerNextWrite clu0 255 1 5) wcNext)).dev.reg (Reg.layerNext clu0 255 1) = 5 := by decide +kernel

/-- A rung above RUNG_MAX is reserved in LAYER_NEXT (R186): the ladder has rungs 0 to 2, RUNG_MAX is 1. -/
theorem test_layer_next_rungs :
    let s := regs [(Reg.wcStat clu0, 4), (Reg.wcLadder clu0, 0x040201), (Reg.layerNext clu0 0 0, 1 <<< 12)]
    let legal := rungLegal (s.dev.regN (Reg.wcLadder clu0)) (1 <<< 12)
    legal 1 = true ∧ legal 2 = false ∧
    (after (exec (.layerNextWrite clu0 0 0 0x1001) s)).dev.rf (Reg.layerNext clu0 0 0) 2 0 = 1 ∧
    (after (exec (.layerNextWrite clu0 0 0 0x1002) s)).dev.rf (Reg.layerNext clu0 0 0) 2 0 = 0 := by decide +kernel

theorem test_ladder_rule_and_step_writes :
    base.dev.ladderOk clu0 0x040201 = true ∧ base.dev.ladderOk clu0 0x010204 = false ∧
    goes (exec (.wcLadderWrite clu0 0x040201) wcOn1) wcOn1 ∧ goes (exec (.wcLadderWrite clu0 0x010204) wcOff) wcOff ∧
    (after (exec (.wcLadderWrite clu0 0x040201) wcOff)).dev.reg (Reg.wcLadder clu0) = 0x040201 ∧
    goes (exec (.wcStepWrite clu0 false 7) wcOn1) wcOn1 ∧
    (after (exec (.wcStepWrite clu0 false 7) wcOff)).dev.reg (Reg.wcStep clu0) = 7 ∧
    (after (exec (.wcStepWrite clu0 true 9) wcOff)).dev.reg (Reg.wcSeed clu0) = 9 ∧
    (after (exec (.wcEnable clu0 true) wcOff)).dev.wcOn clu0 = true := by decide +kernel

/-- A write of a rule starts its streaks again. -/
theorem test_rule_write :
    let s := base.onDev fun d => d.setCluster clu0 { Cluster.init with wc := [((0x800 + 128 * 31) / 8, 0x33)] }
    let t := after (exec (.wcRuleWrite clu0 31 true 0x5) s)
    (s.dev.cluster clu0).streak 31 1 = 3 ∧ (t.dev.cluster clu0).streak 31 1 = 0 ∧ t.dev.reg (Reg.wcRuleTh clu0 31) = 5 := by decide +kernel

/-! ## Steps -/

/-- The width controller of cluster 0 on, in a STATE, with NEXT_READY, CURRENT 5 and the proposed epoch. -/
def stepAt (st next prop : Nat) : State := regs [(Reg.wcCtl clu0, 1), (Reg.wcStat clu0, st + 4 * next), (Reg.wcEpoch clu0, 5 + 4 <<< 16 + prop <<< 32)]

theorem test_close :
    goes (exec (.close clu0) (stepAt 0 1 6)) ((stepAt 0 1 6).onDev fun d => d.setWcState clu0 1) ∧
    ((after (exec (.close clu0) (stepAt 2 1 6))).dev.wcState clu0 = 2 ∧ (after (exec (.close clu0) (stepAt 2 1 6))).dev.newest = some 0x4007) ∧
    goes (exec (.closeBankSwap clu0) (stepAt 0 1 6)) (stepAt 0 1 6) ∧
    ((stepAt 1 1 6).dev.wcState clu0 = 1 ∧ ((stepAt 1 1 6).dev.unitsOf clu0).samples = []) := by decide +kernel

theorem test_commit :
    goes (exec (.commit clu0) (stepAt 2 1 6)) ((stepAt 2 1 6).onDev fun d => d.setWcState clu0 3) ∧
    (after (exec (.commit clu0) (stepAt 2 1 7))).dev.wcState clu0 = 2 ∧
    goes (exec (.generationSwap clu0) (stepAt 2 1 6)) (stepAt 2 1 6) ∧
    ((stepAt 3 1 6).dev.wcState clu0 = 3 ∧ (stepAt 3 1 6).commitHeld clu0 = false) := by decide +kernel

/-- A commit is held while an operation that expects the prior epoch is queued. -/
theorem test_commit_held :
    let s := (stepAt 3 1 6).onDev fun d => (d.onTensor core0 fun t => { t with convQ := [{ top 0 0xC8 (ins 4 1 0 0 1) 0 [1, 4] with epoch := 4 }] })
    s.commitHeld clu0 = true ∧ goes (exec (.generationSwap clu0) s) s = true := by decide +kernel

theorem test_copy_and_abandon_wait :
    goes (exec (.nextCopyDone clu0) (stepAt 0 1 6)) (stepAt 0 1 6) ∧ (stepAt 0 0 6).dev.nextReady clu0 = false ∧
    goes (exec (.wcAbandon clu0) (stepAt 1 1 6)) (stepAt 1 1 6) ∧ (stepAt 0 1 6).dev.wcState clu0 = 0 := by decide +kernel

/-- A sample whose narrow value 2.0 stands against the master product 1.0 × 1.0: error 65,535 (R199). -/
theorem test_agreement_sample :
    let s := (stepAt 0 1 6).onDev fun d => d.setUnits clu0 { CluUnits.init with samples := [⟨0, [[1]], [0x40000000], 1⟩] }
    let t := after (exec (.agreementSample clu0 [[0x3F800000]]) s)
    (t.dev.unitsOf clu0).samples = [] ∧ (t.dev.cluster clu0).scGet 0 0 20 2 = 1 ∧ (t.dev.cluster clu0).scGet 0 0 24 4 = 65535 := by decide +kernel

theorem test_merge :
    let s := (stepAt 2 1 6).onDev fun d => (d.setRegN (Reg.layerDesc clu0 255 0) (10 <<< 16))
    let t := after (exec (.merge 0 0 [(255, 0x00FF_0000)] []) s)
    let u := after (exec (.merge 0 0 [(255, 0x0001_0000)] []) s)
    tsorted (s.dev.cluster clu0).wc = true ∧ 256 * s.dev.rf (Reg.layerNext clu0 255 1) 43 0 = s.dev.mapBase clu0 0 255 ∧
    t.dev.rf (Reg.layerNext clu0 255 0) 22 16 = 10 ∧ u.dev.rf (Reg.layerNext clu0 255 0) 22 16 = 11 := by decide +kernel

/-- Seat 1 is in the roster and its proposals have not arrived when the wait ends; while nothing is awaited the timeout does nothing. -/
theorem test_merge_timeout :
    let s := (stepAt 2 1 6).onDev fun d => ({ d.setRegN (Reg.roster 1) 1 with clock := 2 ^ 60 } : Device).onPeer fun x =>
      { x with merges := [((d.curEpoch clu0 + 1).toNat, 0)] }
    let t := after (exec (.mergeTimeout 0 1) s)
    base.mergeOverdue 1 = false ∧ goes (exec (.mergeTimeout 0 1) base) base = true ∧ s.mergeOverdue 1 = true ∧ s.dev.rosterEpoch = 0 ∧
    t.dev.newest = some 0x4006 ∧ t.dev.peer.mergeHeld = true := by decide +kernel

theorem test_wcommit :
    let s := (stepAt 0 1 6).onDev fun d => d.onCore ctl fun k => { (k |> sr 1 0xFF |> sr 2 256) with run := .running, pc := 0x1000 }
    let p := (stepAt 2 1 6).onDev fun d => d.onCore ctl fun k => { (k |> sr 1 0xFF) with run := .running, pc := 0x1000 }
    let a := after (exec (.wcommit ctl (ins 2 1 0 0 1)) s)
    let b := after (exec (.wcommit ctl (ins 2 1 0 0 2)) p)
    let c := after (exec (.wcommit ctl (ins 2 1 0 0 1)) p)
    s.executes ctl 0xE3 (ins 2 1 0 0 1) = true ∧ a.dev.wcState clu0 = 1 ∧ (a.dev.core ctl).getP 2 = ⟨true, false⟩ ∧
    p.executes ctl 0xE3 (ins 2 1 0 0 2) = true ∧ b.dev.wcState clu0 = 3 ∧ (b.dev.core ctl).getP 2 = ⟨true, false⟩ ∧
    c.dev.wcState clu0 = 2 ∧ (c.dev.core ctl).getP 2 = ⟨false, false⟩ ∧
    goes (exec (.wcommit ctl (ins 2 2 0 0 1)) s) (s.onCore ctl fun k => (k.setP 2 ⟨false, false⟩).retired) = true := by decide +kernel

/-! ## Memory -/

/-- A memory request of core 0's stream unit, with OP_TAG 9. -/
def asks (p : Bool) : Header := { coreHdr core0 0x04 9 0 with vnet := 0, poison := p }

/-- 5 at 0x1000 and 1 at 0x1001, and a poisoned block at 0x2000. -/
def mems : State := { base with mem := ⟨[(0x1000, 5), (0x1001, 1)] ++ base.mem.cells, [0x2000], []⟩ }

/-- The packet sent last answers the request of `asks`. -/
def answers (s : State) (poison : Bool) (bytes : List Byte) : Bool :=
  match s.dev.out.getLast? with
  | some (.packet p) => decide (p.hdr.poison = poison) && decide (p.hdr.opTag = 9) && decide (p.hdr.dstUnit = 0x04) && decide (p.payload = bytes)
  | _ => false

theorem test_memory_reads :
    mems.servable 0x1000 = true ∧ mems.servable 0xB3F_FFFF_FFFF = true ∧ mems.servable 0xB40_0000_0000 = false ∧
    mems.dev.copyingGranule 0x1000 = false ∧
    answers (after (exec (.memRead (asks false) 0x1000 2) mems)) false [5, 1] ∧
    answers (after (exec (.memRead (asks false) 0x2000 1) mems)) true [0] ∧
    answers (after (exec (.memRead (asks false) 0xB40_0000_0000 1) mems)) true [] ∧
    answers (after (exec (.memRead (asks false) 0x1FFF 2) mems)) true [] ∧
    (after (exec (.memRead (asks false) (0x1000 + 3 <<< 52) 2) mems)).dev.newest = some 0x700A := by decide +kernel

theorem test_memory_writes :
    let t := after (exec (.memWrite (asks false) (0x1001 + 1 <<< 52) [7, 0]) mems)
    let p := after (exec (.memWrite (asks true) (0x1001 + 1 <<< 52) [7]) mems)
    let b := after (exec (.setBitWrite (asks false) (0x1000 + 2 <<< 52) [2, 2]) mems)
    mems.mem.wf = true ∧ t.loadN 0x1000 3 = 0x000705 ∧ answers t false [] ∧ t.poisoned 0x1000 256 = false ∧
    (p.poisoned 0x1000 256 = true ∧ answers p true []) ∧ b.loadN 0x1000 2 = 0x0307 ∧
    (after (exec (.memWrite (asks false) (0xB40_0000_0000 + 1 <<< 52) [7]) mems)).mem = mems.mem := by decide +kernel

/-- Clean; one symbol wrong: corrected and counted; two wrong three times: poisoned. -/
theorem test_block_arrival :
    let one := after (exec (.blockArrival 0x1000 [⟨[(0, 1)]⟩]) mems)
    let bad := after (exec (.blockArrival 0x1000 (List.replicate 3 ⟨[(0, 1), (127, 1)]⟩)) mems)
    let w := mems.dev.whereIs 0x1000
    let out := fun (s : State) => match s.dev.out.getLast? with
      | some (.block a bs p) => some (a, bs.take 2, p)
      | _ => none
    errWeight ⟨[(0, 1)]⟩ = 1 ∧ errWeight ⟨[(0, 1), (127, 1)]⟩ = 2 ∧ lostOnce mems.dev.memsys.retired 0x1000 = false ∧
    out (after (exec (.blockArrival 0x1000 []) mems)) = some (0x1000, [5, 1], false) ∧
    out one = some (0x1000, [5, 1], false) ∧ one.dev.newest = some 0x7001 ∧ one.dev.rf (Reg.errCnt w.1 w.2.1) 15 0 = 1 ∧
    ((out bad).map fun x => x.2.2) = some true ∧ bad.dev.newest = some 0x7003 := by decide +kernel

/-- The example of R360: the block of address 0x12345000 stands at its granule's slot and its place in it. A word of the symbol code with
no error and with one decodes to itself (R369). -/
theorem test_block_storage :
    let cw := [7, 9] ++ List.replicate 128 0
    let word := cw ++ rsCheck cw
    rsDecode word = some (word, none) ∧ rsDecode (word.set 0 5) = some (word, some 0) ∧
    base.dev.channelOffset 0x1234_5000 = 0xC_E200 := by decide +kernel

theorem test_patrol :
    let s := mems.onDev fun d => d.setRegN (Reg.retireCtl 7 47) (d.regN (Reg.retireCtl 7 47) % 65536 + 1 <<< 16)
    let off := mems.onDev fun d => d.setRegN (Reg.retireCtl 7 47) 0
    chanPresent 7 47 = true ∧ goes (exec (.patrolRead 7 47 7864319 15 []) off) off ∧
    s.servable (granuleAt [] (chanNo 7 47) 0 + 256 * 15) = true ∧
    (after (exec (.patrolRead 7 47 0 15 []) s)).dev.out = s.dev.out ∧
    (after (exec (.patrolRead 7 47 0 15 [⟨[(0, 1)]⟩]) s)).dev.newest = some 0x7001 := by decide +kernel

theorem test_page_request :
    let t := after (exec (.pageReq 7 47 7864319) mems)
    goes (exec (.pageReq 7 47 7864320) mems) mems ∧ goes (exec (.pageReq 7 47 1) t) t ∧
    t.dev.rbit (Reg.pageReq 7 47) 63 = true ∧ (t.dev.channel (chanNo 7 47)).due = [(7864319, 2)] := by decide +kernel

/-- A granule due: copied into the next spare slot, or left in its slot when no spare is free. -/
theorem test_page_retire :
    let ch := fun (n : Nat) => mems.onDev fun d => d.setChannel 0 { Channel.empty with due := [(3, 1)], spares := n }
    let t := after (exec (.pageRetire 0 0) (ch 19647))
    let u := after (exec (.pageCopyEnd 0 ⟨0, []⟩) t)
    let v := after (exec (.pageRetire 0 0) (ch 19648))
    (t.dev.channel 0).copying = some (3, 1) ∧ t.dev.rbit (Reg.chanStat 0 0) 2 = true ∧
    (u.dev.channel 0).slots = [(3, 7864320 + 19647)] ∧ (u.dev.channel 0).spares = 19648 ∧ (u.dev.channel 0).copying = none ∧
    ((v.dev.channel 0).stuck = [3] ∧ v.dev.newest = some 0x7006) ∧ goes (exec (.pageCopyEnd 0 ⟨0, []⟩) mems) mems ∧
    (after (exec (.pageCopyEnd 0 ⟨0, []⟩) (after (exec (.pageRetire 0 0) (ch 0))))).dev.newest = some 0x7004 := by decide +kernel

theorem test_channel_retire :
    let t := after (exec (.channelRetire 0 0 1) mems)
    goes (exec (.channelRetire 0 0 2) mems) mems ∧ t.dev.memsys = ⟨[0], [1], 0⟩ ∧ t.dev.rf Reg.memCap 4 0 = 1 ∧ t.dev.newest = some 0x7007 ∧
    (after (exec (.channelTimeout 7 47) t)).dev.memsys.retired = [0, 383] ∧
    (let u := after (exec (.channelRemapped 0 0) t); u.dev.memsys.remapping = [] ∧ u.dev.newest = some 0x7008) := by decide +kernel

theorem test_xlat_and_counters :
    let s := mems.onDev fun d => d.setRegN (Reg.errCnt 0 0) 0x0003_0002_0001
    let t := after (exec (.xlatInv 0) mems)
    let c := after (exec (.errCntRead 0 0) s)
    t.dev.rbit Reg.xlatInv 63 = true ∧ goes (exec (.xlatInv 0) t) t ∧ (after (exec .xlatInvDone t)).dev.rbit Reg.xlatInv 63 = false ∧
    (let w := t.onDev fun d => d.onCore core0 fun k => { k with run := .waiting 0 0 false 0 0 none, launch := some (0, 0, 0) }
     w.dev.xlatInUse 0 = true ∧ goes (exec .xlatInvDone w) w) ∧
    c.dev.out = [.reg (Reg.errCnt 0 0) 0x0003_0002_0001] ∧ c.dev.reg (Reg.errCnt 0 0) = 0 := by decide +kernel

/-! ## The wire engine -/

/-- Command bytes: op, flags, K, SRC, DST, COUNT, STRIDE. -/
def wcmd (op k src dst count stride : Nat) : List Nat :=
  (leBytes 64 (op + k <<< 32 + src <<< 64 + dst <<< 128 + count <<< 192 + stride <<< 448)).map BitVec.toNat

/-- A ring of four entries at offset 0 of the cluster store holds one command; the seats' values of the example after R178 stand at
0x1000, 0x1100 and 0x1200. -/
def wires (op k count : Nat) : State :=
  let v := fun (n : Nat) => (leBytes 8 n).map BitVec.toNat
  { base with
    mem := ⟨cells 0x1000 (v (0x79 <<< 56 + 12 * 2 ^ 41)) ++ cells 0x1100 (v (0x79 <<< 56 + (2 ^ 56 - 5 * 2 ^ 41)))
      ++ cells 0x1200 (v (0x79 <<< 56 + 8 * 2 ^ 41)) ++ base.mem.cells ++ cells cst (wcmd op k 0x1000 0x2000 count 256), [], []⟩
    dev := (base.dev.setRegN (Reg.wireRing clu0) 1).setRegN (Reg.wireTail clu0) 1 }

theorem test_wire_add :
    let s := wires 1 3 32
    let t := after (exec (.wireAdd clu0) s)
    s.mem.wf = true ∧ s.dev.wireHeadAt clu0 = 0 ∧ s.dev.wireEntry clu0 0 = cst ∧ s.poisoned cst 64 = false ∧ s.dev.wireDepth clu0 = 4 ∧
    s.dev.wireCause clu0 ⟨(List.range 64).map fun j => s.byte (cst + j)⟩ = none ∧
    wireSum [0x79 <<< 56 + 12 * 2 ^ 41, 0x79 <<< 56 + (2 ^ 56 - 5 * 2 ^ 41), 0x79 <<< 56 + 8 * 2 ^ 41] = 0x7900_1E00_0000_0000 ∧
    t.loadN 0x2000 8 = 0x7900_1E00_0000_0000 ∧ t.dev.wireHeadAt clu0 = 1 := by decide +kernel

/-- An update operation that reached the unit first is served first (R409). -/
theorem test_update_before_wire :
    let s := (wires 1 3 32).onDev fun d => d.setUnits clu0 { CluUnits.init with updates := [(0, top 0 0xD0 (ins 0 0 0 0 1) 0x8000 [])], wireAhead := 1 }
    s.dev.updateReady clu0 = true ∧ s.dev.wireTurn clu0 = false ∧ s.dev.wireStatValue clu0 = 0 ∧ (wires 1 3 32).dev.wireStatValue clu0 = 128 ∧
    goes (exec (.wireAdd clu0) s) s ∧
    (after (exec (.wireAdd clu0) (s.onDev fun d => d.setUnits clu0 { d.unitsOf clu0 with wireAhead := 0 }))).dev.wireHeadAt clu0 = 1 := by decide +kernel

theorem test_wire_order_and_refusals :
    let bad := wires 1 17 32
    let t := after (exec (.wireAdd clu0) bad)
    let z := after (exec (.pack clu0) (wires 0 0 0))
    let u := after (exec (.unpack clu0) (wires 2 0 32))
    goes (exec (.pack clu0) base) base ∧ goes (exec (.unpack clu0) base) base ∧
    bad.dev.wireCause clu0 ⟨(List.range 64).map fun j => bad.byte (cst + j)⟩ = some 1 ∧ t.mem = bad.mem ∧
    t.dev.wireHeadAt clu0 = 1 ∧ t.dev.newest = some 0x8021 ∧ t.dev.rf (Reg.wireStat clu0) 31 16 = 1 ∧
    z.dev.newest = some 0x8021 ∧ u.dev.newest = some 0x8021 := by decide +kernel

/-- A PACK and an UNPACK that no cause refuses. -/
theorem test_pack_and_unpack :
    let sc := fun (s : State) => s.onDev fun d => d.setRegN (Reg.tscaleEnt clu0 0) (0x3F80_0000 + 2 ^ 38)
    let p := sc (wires 0 0 32)
    let u0 := wires 2 0 32
    let u : State := sc { u0 with mem := ⟨(u0.mem.cells.filter fun x => decide (x.1 < cst)) ++
      cells cst ((leBytes 64 (2 + 0x1000 <<< 64 + 0x2000 <<< 128 + 32 <<< 192 + (0x0A00) <<< 416)).map BitVec.toNat), [], []⟩ }
    p.dev.wireCause clu0 ⟨(List.range 64).map fun j => p.byte (cst + j)⟩ = none ∧
    u.dev.wireCause clu0 ⟨(List.range 64).map fun j => u.byte (cst + j)⟩ = none := by decide +kernel

theorem test_wire_registers :
    let s := wires 1 3 32
    let r := base.onDev fun d => d.setRegN (Reg.wireStat clu0) 0x0005_0000
    let t := after (exec (.wireStatRead clu0) r)
    goes (exec (.wireRingWrite clu0 3) s) s ∧ (after (exec (.wireRingWrite clu0 3) base)).dev.reg (Reg.wireRing clu0) = 3 ∧
    t.dev.out = [.reg (Reg.wireStat clu0) 0x0005_0000] ∧ t.dev.reg (Reg.wireStat clu0) = 0 := by decide +kernel

/-! ## Chutes and routers -/

/-- Chute 0 of core 0: 16 words deep. -/
def ch0 : ChuteId := ⟨.core 0 0 0, 0⟩

/-- A narrow word that is a header with LEN. -/
def hdrW (len : Nat) : NarrowWord := ⟨BitVec.ofNat 128 (headerWord { coreHdr core0 0x01 0 0 with width := 0x9, len := BitVec.ofNat 11 len, last := true }), 0xFFFF, decide (len = 0)⟩

theorem test_chute_write :
    let t := after (exec (.chuteWrite ch0 (hdrW 0)) base)
    let u := after (exec (.chuteWrite ch0 (hdrW 2)) base)
    let full := base.onDev fun d => d.setChute ch0 { Chute.empty with words := List.replicate 16 ⟨0, 0, 0, true, true, true, false, true⟩ }
    let disc := base.onDev fun d => d.setChute ch0 { Chute.empty with discarding := true, midItem := true }
    let v := after (exec (.chuteWrite ch0 (hdrW 2)) disc)
    chutePresent ch0 = true ∧ depthOf ch0 = 16 ∧ goes (exec (.chuteWrite ch0 (hdrW 0)) full) full ∧
    ((t.dev.chute ch0).words.map fun w => (w.hdr, w.start, w.data.toNat)) = [(true, true, (hdrW 0).data.toNat)] ∧
    (t.dev.chute ch0).writing = none ∧ (u.dev.chute ch0).writing = some ⟨(hdrW 2).data, 0⟩ ∧
    ((v.dev.chute ch0).words = [] ∧ v.dev.rf (Reg.chuteStat ch0) 47 32 = 1) := by decide +kernel

/-- A one-word packet at the head, its parity right; with `u` flipped bits. -/
def headOf (n : Nat) (take : Bool) : Chute :=
  let w := (hdrW n).data.setWidth 512
  { Chute.empty with words := [⟨w, 0xFFFF, parityOf w.toNat, true, true, decide (n = 0), false, decide (n = 0)⟩], taking := take }

def chutes (c : Chute) : State := base.onDev fun d => d.setChute ch0 c

theorem test_chute_read :
    let s := chutes (headOf 0 true)
    let t := after (exec (.chuteRead ch0 0) s)
    hdrWords (hdrW 0).data.toNat = 1 ∧ hdrWords (hdrW 2).data.toNat = 2 ∧ hdrInvalid (hdrW 0).data.toNat = false ∧
    goes (exec (.packetTakeStart ch0) (chutes (headOf 2 false))) (chutes (headOf 2 false)) ∧
    goes (exec (.packetTakeStart ch0) (chutes (headOf 0 false))) (chutes (headOf 0 true)) ∧
    goes (exec (.chuteRead ch0 0) (chutes (headOf 0 false))) (chutes (headOf 0 false)) ∧
    (t.dev.chute ch0).words = [] ∧ t.dev.out.getLast? = some (.chuteWord ch0 ((hdrW 0).data.setWidth 512) 0xFFFF false) := by decide +kernel

/-- An upset bit in a payload word delivers it with POISON; a stub is delivered poisoned. -/
theorem test_chute_upset_and_stub :
    let pay : Chute := { Chute.empty with words := [⟨3, 0xFFFF_FFFF_FFFF_FFFF, parityOf 3, false, false, true, false, true⟩], taking := true }
    let t := after (exec (.chuteRead ch0 (1 <<< 511)) (chutes pay))
    let u := after (exec (.chuteRead ch0 0) (chutes { Chute.empty with stub := some 5 }))
    (match t.dev.out.getLast? with
      | some (.chuteWord _ x _ p) => decide (x = 3 ^^^ (1 <<< 511)) && p
      | _ => false) = true ∧
    u.dev.out.getLast? = some (.chuteWord ch0 5 0xFFFF false) ∧ (u.dev.chute ch0).stub = none := by decide +kernel

theorem test_flush_and_status :
    let s := chutes { headOf 2 true with midItem := true, conMid := true }
    let t := after (exec (.flush ch0) s)
    let r := (chutes (headOf 0 false)).onDev fun d => d.setRegN (Reg.chuteStat ch0) (3 <<< 16)
    let u := after (exec (.chuteStatRead ch0) r)
    ((t.dev.chute ch0).words = [] ∧ (t.dev.chute ch0).discarding = true ∧ (t.dev.chute ch0).stub.isSome = true ∧ t.dev.newest = some 0x1002) ∧
    (match u.dev.out.getLast? with
      | some (.reg _ v) => decide (v.toNat % 512 = 1)
      | _ => false) = true ∧ u.dev.rf (Reg.chuteStat ch0) 31 16 = 0 := by decide +kernel

/-- A packet on network 2 from the local port of cluster 0 for unit 0x04 of core 3 of cluster 2 goes east and arrives unchanged; one for an
absent core is discarded. -/
def routed (core : Nat) : State :=
  let w : BitVec 512 := BitVec.ofNat 512 (headerWord { coreHdr ⟨0, 2, core⟩ 0x04 7 0 with last := true })
  base.onDev fun d => d.setChute (routerIn clu0 0 2) { Chute.empty with
    words := [⟨w, 0xFFFF, parityOf w.toNat, true, true, true, false, true⟩] }

theorem test_route :
    let s := routed 3
    let t := after (exec (.routePacket clu0 2 2 0) s)
    s.dev.arbitrate clu0 2 2 = some 0 ∧ s.dev.arbitrate clu0 1 2 = none ∧ goes (exec (.routePacket clu0 1 2 0) s) s ∧
    (s.dev.router clu0).drop = [] ∧ s.dev.destKnown 2 (headerOf (headerWord { coreHdr ⟨0, 2, 3⟩ 0x04 7 0 with last := true })) = true ∧
    s.dev.holdOut (routerIn ⟨0, 1⟩ 4 2) = false ∧ (t.dev.chute (routerIn clu0 0 2)).words = [] ∧
    (t.dev.chute (routerIn ⟨0, 1⟩ 4 2)).words = (s.dev.chute (routerIn clu0 0 2)).words := by decide +kernel

theorem test_route_nowhere :
    let w : BitVec 512 := BitVec.ofNat 512 (headerWord { coreHdr ⟨9, 2, 3⟩ 0x04 7 0 with last := true, vnet := 0 })
    let s := base.onDev fun d => d.setChute (routerIn clu0 0 0) { Chute.empty with
      words := [⟨w, 0xFFFF, parityOf w.toNat, true, true, true, false, true⟩] }
    s.dev.destKnown 0 (headerOf (w.toNat % 2 ^ 128)) = false ∧
    (List.range 5).any (fun p => decide (s.dev.arbitrate clu0 p 0 = some 0) &&
      decide ((after (exec (.routePacket clu0 p 0 0) s)).dev.newest = some 0x1005)) = true := by decide +kernel

/-! ## Registers -/

/-- Fields: an RW field, an RW field with legal values 1 to 7, a W1C field, a WO field with legal values 0 and 1, an RO field. -/
def fldTest : List RegField := [fRw 3 0 0, fRwIn 6 4 1 [(1, 7)], ⟨8, 8, .w1c, 0, []⟩, ⟨11, 9, .wo, 0, [(0, 1)]⟩, fRo 15 12 0]

theorem test_fields :
    (∀ g ∈ fldTest, g.lo ≤ g.hi ∧ g.hi < 64) ∧ fldTest.Pairwise (fun a b => a.hi < b.lo ∨ b.hi < a.lo) ∧
    fieldsWrite fldTest 0xA15A 0xF327 = 0xA027 ∧ fieldsWrite fldTest 0xA15A 0xF405 = 0xA15A ∧
    fieldsWrite fldTest 0xA15A 0xF302 = 0xA052 := by decide +kernel

/-- HUB.CKPT_SIZE (0x128): the host writes it; a field of reserved value keeps its value; firmware does not write it. -/
theorem test_register_write :
    let fs := (fieldsAt 0x128).getD []
    let t := after (exec (.registerWrite (.host 0) 0x128 0x5_0000_0007) base)
    let u := after (exec (.registerWrite (.host 0) 0x128 0x7) base)
    blockAt 0x128 = some (.hub, 0x128) ∧ chuteRegAt .hub 0x128 = none ∧ (fieldsAt 0x128).isSome = true ∧
    (∀ g ∈ fs, g.lo ≤ g.hi ∧ g.hi < 64) ∧
    0x128 ∉ [Reg.trainMask, Reg.survReg, Reg.ckptStore, Reg.coolReq, Reg.time, Reg.timeStat] ∧
    mayWrite (.host 0) 0x128 = true ∧ base.dev.mayWriteNow (.host 0) 0x128 = true ∧ mayWrite (.firmware stw) 0x128 = false ∧ base.dev.barOpen 0 = true ∧
    (t.dev.reg 0x128 = 0x5_0000_0007 ∧ u.dev.reg 0x128 = 0x40_0000_0007) ∧
    goes (exec (.registerWrite (.firmware stw) 0x128 7) base) base = true := by decide +kernel

theorem test_bar0 :
    let shut := base.onDev fun d => { d with host := HostUnit.init }
    let t := after (exec (.bar0Access 0 true 0x128 8 7 true) base)
    shut.dev.barOpen 0 = false ∧ (after (exec (.bar0Access 0 false 0 8 0 false) shut)).dev.out = [.unsupported 0] ∧
    goes (exec (.bar0Access 0 true 0x128 8 7 false) shut) shut ∧
    (after (exec (.bar0Access 0 false 2 4 0 false) base)).dev.out = [.read 0 (List.replicate 4 0) false] ∧
    (after (exec (.bar0Access 0 false 0 2 0 false) base)).dev.out = [.read 0 (List.replicate 2 0) false] ∧
    (after (exec (.bar0Access 0 false 0 8 0 false) base)).dev.out = [.read 0 (leBytes 8 0x1FD4_5A70_8CB0_0810) false] ∧
    t.dev.reg 0x128 = base.dev.reg 0x128 ∧ t.dev.newest = some 0x9006 := by decide +kernel

theorem test_fn_stat_read :
    let s := base.onDev fun d => d.setRegN (Reg.fnStat 63) 0x0002_0003_0000
    let t := after (exec (.fnStatRead 63) s)
    t.dev.out = [.reg (Reg.fnStat 63) 0x0002_0003_0000] ∧ t.dev.reg (Reg.fnStat 63) = 0 := by decide +kernel

/-! ## The host link -/

theorem test_config :
    let t := after (exec (.configRequest 0 true 4 4 0xFFFF_FFFF) base)
    let shut := base.onDev fun d => { d with host := HostUnit.init }
    base.dev.host.busyUntil ≤ base.dev.clock ∧ base.dev.fnExists 0 = true ∧ base.dev.fnExists 1 = false ∧
    t.dev.configRead 0 4 = 0x0010_0547 ∧
    (after (exec (.configRequest 1 false 0 4 0) base)).dev.out = [.config 1 (some 0xFFFF_FFFF)] ∧
    (after (exec (.configRequest 0 false 2 2 0) base)).dev.out = [.config 0 (some 0x5A70)] ∧
    (after (exec (.configRequest 0 false 0 4 0) shut)).dev.out = [.config 0 none] := by decide +kernel

/-- The aperture at AP_BASE = 0 reaches LPDDR; behind its end it reads all ones with APERTURE_ERROR. -/
theorem test_aperture :
    let far := mems.onDev fun d => d.setRegN (Reg.apBase 0) (0xC0 <<< 36)
    let t := after (exec (.apertureRead 0 0 4) far)
    let w := after (exec (.apertureWrite 0 0x1004 [9] false) mems)
    mems.presentRange 0x1000 2 = true ∧ far.presentRange (0xC0 * 2 ^ 36) 4 = false ∧ mems.dev.rbit Reg.memCap 7 = false ∧
    (after (exec (.apertureRead 0 0x1000 2) mems)).dev.out = [.read 0 [5, 1] false] ∧
    t.dev.out = [.read 0 [0xFF, 0xFF, 0xFF, 0xFF] false] ∧ t.dev.newest = some 0x9008 ∧ w.loadN 0x1004 1 = 9 := by decide +kernel

/-- Function 1 enabled, with a queue 5 of 16 entries, completion ring 1 and event ring 2. -/
def host1 (f : Function → Function) (es : List Entry) : State :=
  let q : QueueState := queueCtx (leBytes 32 (4 <<< 64 + 1 <<< 72 + 2 <<< 80))
  let r : RingState := ringCtx (leBytes 32 (0x5000 + 4 <<< 64))
  base.onDev fun d => { (d.setRegN (Reg.fnStat 0) 1) with
    fns := [(0, { Function.empty with config := [(0x168, 1), (0x170, 1)] }),
      (1, f { Function.empty with queues := [(5, q)], crings := [(1, r)], erings := [(2, r)] })]
    entries := es }

/-- An entry of function 1, queue 5, slot 0. -/
def ent (op a b c e : Nat) (p : EntryPhase) : Entry :=
  { fn := 1, queue := 5, slot := 0
    bytes := leBytes 64 (op + 9 <<< 16 + a <<< 64 + b <<< 128 + c <<< 192 + e <<< 256), phase := p, started := 0, cores := []
    limited := false, statuses := [], exceptions := [] }

theorem test_function_level_reset :
    let s := host1 id [ent 3 0 0 0 0 .held]
    let t := after (exec (.functionLevelReset 1) s)
    s.dev.fnExists 1 = true ∧ t.dev.fn 1 = Function.empty ∧ t.dev.entries = [] ∧ t.dev.newest = some 0x9009 := by decide +kernel

/-- While a core works for the function the reset is busy; it ends with the core's end. -/
theorem test_function_level_reset_waits :
    let s := (host1 id [ent 3 0 0 0 0 .held]).onDev fun d => d.onCore core0 fun k => { k with run := .running, launch := some (1, 5, 0) }
    let t := after (exec (.functionLevelReset 1) s)
    t.dev.flrBusy 1 = true ∧ t.dev.newest ≠ some 0x9009 := by decide +kernel

theorem test_link_and_requests :
    let t := after (exec (.linkRetrain 5 16 true) base)
    let bytes : List Byte := [0x12, 0xE0, 0, 1]
    t.dev.host.rate = 5 ∧ t.dev.host.width = 16 ∧ t.dev.newest = some 0x900E ∧ leAt bytes 1 1 = 0xE0 ∧ leAt bytes 3 1 = 1 ∧
    ((after (exec (.spdmRequest 0x12 false bytes) base)).dev.out.length = 1) ∧
    (after (exec (.atsInvalidateRequest 0 0 4096 7) base)).dev.out = [.atsDone 0 7] := by decide +kernel

/-- A ring with an entry not signalled, MOD_TIME 5 µs; and one that has been full since time 0. -/
theorem test_moderation_and_stall :
    let r0 : RingState := ringCtx (leBytes 32 (0x5000 + 4 <<< 64))
    let s := host1 (fun f => { f with crings := [(1, { r0 with irq := true, unsig := 1, modTime := 5 })] }) []
    let f := host1 (fun f => { f with crings := [(1, { r0 with fullSince := some 0 })] }) []
    let late := fun (s : State) (n : Nat) => s.onDev fun d => { d with clock := n }
    let t := after (exec (.interruptModeration 1 false 1) (late s 50000))
    let u := after (exec (.ringStall 1 1) (late f 100000001))
    goes (exec (.interruptModeration 1 false 1) (late s 49999)) (late s 49999) ∧
    ((t.dev.ring 1 false 1).map fun r => r.unsig) = some 0 ∧
    f.dev.rf (Reg.fnCtl 1) 31 0 = 10000 ∧ goes (exec (.ringStall 1 1) (late f 100000000)) (late f 100000000) ∧
    ((u.dev.ring 1 false 1).map fun r => r.stalled) = some true ∧ u.dev.newest = some 0x9004 := by decide +kernel

/-! ## Contexts, doorbells, entries -/

def qctx (lg cr er : Nat) : List Byte := leBytes 32 (lg <<< 64 + cr <<< 72 + er <<< 80)
def rctx (lg : Nat) : List Byte := leBytes 32 (0x5000 + lg <<< 64)

theorem test_load_queue :
    let s := (host1 id []).onDev fun d => d.setRegN (Reg.fnClmask 1 0) 1
    let t := after (exec (.loadQueue 1 4095 (.data (qctx 4 1 2) [])) s)
    let bad := fun (i : Nat) (bs : List Byte) => (after (exec (.loadQueue 1 i (.data bs [])) s)).dev
    s.dev.flrBusy 1 = false ∧ s.dev.rbit (Reg.fnCmd 1) 63 = false ∧ s.dev.queueCause 1 (qctx 4 1 2) = none ∧
    (tfind (t.dev.fn 1).queues 4095 = some (queueCtx (qctx 4 1 2)) ∧ t.dev.rf (Reg.fnCmd 1) 63 62 = 0) ∧
    s.dev.queueCause 1 (qctx 3 1 2) = some 0 ∧ s.dev.queueCause 1 (qctx 4 3 2) = some 4 ∧
    ((bad 4095 (qctx 3 1 2)).newest = some 0x9001 ∧ (bad 4095 (qctx 3 1 2)).rf (Reg.fnCmd 1) 63 62 = 1) ∧
    (bad 5 (qctx 4 1 2)).newest = some 0x9001 ∧ (bad 4096 (qctx 4 1 2)).newest = some 0x9001 ∧
    (after (exec (.loadQueue 1 0 .abort) s)).dev.newest = some 0x9001 := by decide +kernel

theorem test_load_rings :
    let s := host1 id []
    let c := after (exec (.loadCompletionRing 1 127 (.data (rctx 16) [])) s)
    let e := after (exec (.loadEventRing 1 3 (.data (rctx 4) [])) s)
    ringCause (rctx 16) = none ∧ ringCause (rctx 17) = some 0 ∧ s.dev.ring 1 false 127 = none ∧ s.dev.ring 1 true 3 = none ∧
    (c.dev.ring 1 false 127 = some (ringCtx (rctx 16)) ∧ c.dev.rf (Reg.fnCmd 1) 63 62 = 0) ∧ e.dev.ring 1 true 3 = some (ringCtx (rctx 4)) ∧
    (after (exec (.loadCompletionRing 1 127 (.data (rctx 17) [])) s)).dev.newest = some 0x9001 ∧
    (after (exec (.loadEventRing 1 3 (.data (rctx 17) [])) s)).dev.newest = some 0x9001 := by decide +kernel

theorem test_stops :
    let s := host1 id []
    let none' := host1 (fun f => { f with queues := [] }) []
    let t := after (exec (.stopQueue 1 5) s)
    let u := after (exec (.stopQueueDone 1) t)
    tsorted (s.dev.fn 1).crings = true ∧ tsorted (s.dev.fn 1).queues = true ∧
    (((tfind (t.dev.fn 1).queues 5).map fun q => q.stopping) = some true ∧ t.dev.rf (Reg.fnCmd 1) 63 62 = 2 ∧
      (t.dev.fn 1).command = some (2, 5) ∧ t.dev.inFlight 1 5 = false) ∧
    (tfind (u.dev.fn 1).queues 5 = none ∧ u.dev.rf (Reg.fnCmd 1) 63 62 = 0) ∧
    ((after (exec (.stopCompletionRing 1 1) s)).dev.newest = some 0x9001 ∧ (after (exec (.stopEventRing 1 2) s)).dev.newest = some 0x9001) ∧
    (after (exec (.stopCompletionRing 1 1) none')).dev.ring 1 false 1 = none ∧
    (after (exec (.stopEventRing 1 2) none')).dev.ring 1 true 2 = none := by decide +kernel

theorem test_doorbells :
    let s := host1 id []
    let t := after (exec (.sqDoorbell 1 5 8 15 false) s)
    let c := after (exec (.cqDoorbell 1 1 8 15 false) s)
    let e := after (exec (.eqDoorbell 1 2 8 1 false) s)
    let bad := fun (i : Instr) => decide ((after (exec i s)).dev.newest = some 0x9002)
      && decide ((after (exec i s)).dev.rf (Reg.fnStat 1) 31 16 = 1)
    s.dev.fnExists 1 = true ∧ s.dev.recovery = false ∧
    (((tfind (t.dev.fn 1).queues 5).map fun q => (q.avail, q.doorbell)) = some (15, 15) ∧ (t.dev.core ctl).csr.ipend.getLsbD 1 = true) ∧
    ((c.dev.ring 1 false 1).map fun r => (r.head, r.used)) = some (15, 1) ∧ ((e.dev.ring 1 true 2).map fun r => r.head) = some 1 ∧
    ((after (exec (.sqDoorbell 1 5 8 16 false) s)).dev.newest = some 0x9002 ∧ (after (exec (.sqDoorbell 1 5 8 16 false) s)).dev.rf (Reg.fnStat 1) 31 16 = 0) ∧
    (after (exec (.sqDoorbell 1 5 0 0 false) t)).dev.out.getLast? = some (.read 1 (leBytes 8 15) false) ∧
    bad (.sqDoorbell 1 5 (8 + 16 * 4) 0 false) ∧ bad (.sqDoorbell 1 4 8 0 false) ∧ bad (.cqDoorbell 1 1 4 0 false) ∧ bad (.eqDoorbell 1 2 8 65536 false) := by
  decide +kernel

/-- A fetched entry is held with a completion slot reserved; one of opcode 9 completes as INVALID with ENTRY_INVALID. -/
theorem test_entry_fetch :
    let s := (host1 (fun f => { f with queues := f.queues.map fun q => (q.1, { q.2 with avail := 1 }) }) []).onDev fun d =>
      d.onCore ctl fun k => { k with run := .running }
    let ok := leBytes 64 3
    let bad := leBytes 64 9
    let t := after (exec (.entryFetch clu0 [.data ok []]) s)
    let u := after (exec (.entryFetch clu0 [.data bad []]) s)
    s.dev.serves clu0 = true ∧ ((s.dev.fetchable clu0).map fun x => (x.1, x.2.1)) = [(1, 5)] ∧ entryBad ok = false ∧ entryBad bad = true ∧
    t.dev.entries = [{ ent 3 0 0 0 0 .held with bytes := ok }] ∧ ((t.dev.ring 1 false 1).map fun r => r.reserved) = some 1 ∧
    ((tfind (t.dev.fn 1).queues 5).map fun q => (q.head, q.avail)) = some (1, 0) ∧
    (u.dev.entries = [] ∧ u.dev.newest = some 0x9003) := by decide +kernel

/-- The last completion entry written: STATUS, RESULT, CODE. -/
def done (s : State) : Option (Nat × Nat × Nat) :=
  match s.dev.out.getLast? with
  | some (.hostWrite 1 none 0x5000 bs false) => some (leAt bs 6 1, leAt bs 8 2, leAt bs 10 2)
  | _ => none

/-- A launch of cores 1 and 2 at 0x2000 with ARG 0x77; C = FIRST + NCORES << 8. -/
def lnch (c e : Nat) (p : EntryPhase) : Entry := ent 1 0x2000 0x77 c e p

theorem test_launch :
    let s := host1 id [lnch (1 + 2 <<< 8) 0 .held]
    let z := host1 id [lnch (31 + 2 <<< 8) 0 .held]
    let r := host1 id [lnch (1 + 2 <<< 8) 0 .ready]
    let t := after (exec (.launchStart 1 5 0) r)
    s.dev.mayStart (lnch (1 + 2 <<< 8) 0 .held) = true ∧ (lnch (1 + 2 <<< 8) 0 .held).span = (1, 2) ∧
    goes (exec (.launch 1 5 0) s) (s.onDev fun d => d.setEntry (lnch (1 + 2 <<< 8) 0 .ready)) ∧
    ((after (exec (.launch 1 5 0) z)).dev.entries = [] ∧ done (after (exec (.launch 1 5 0) z)) = some (5, 0, 0x9003)) ∧
    r.dev.launchCores (lnch (1 + 2 <<< 8) 0 .ready) = [⟨0, 0, 1⟩, ⟨0, 0, 2⟩] ∧ r.dev.launchHeld (lnch (1 + 2 <<< 8) 0 .ready) = false ∧
    (t.dev.core ⟨0, 0, 2⟩).run = .running ∧ (t.dev.core ⟨0, 0, 2⟩).pc = 0x2000 ∧ (t.dev.core ⟨0, 0, 2⟩).getS 1 = ⟨0x77, false⟩ ∧
    (t.dev.core ⟨0, 0, 2⟩).getS 2 = ⟨1, false⟩ ∧ (t.dev.core ⟨0, 0, 2⟩).getS 3 = ⟨2, false⟩ := by decide +kernel

/-- A busy core holds the launch; one that comes too late in the step's order fails with PASS_ORDER. -/
theorem test_launch_waits_or_fails :
    let l := { lnch (1 <<< 8) 0 .ready with bytes := leBytes 64 (1 + 4 <<< 8 + 9 <<< 16 + 0x2000 <<< 64 + (1 <<< 8) <<< 192) }
    let s := host1 id [l]
    let busy := s.onDev fun d => d.onCore core0 fun k => { k with run := .running }
    let late := s.onDev fun d => d.setRegN (Reg.passStat core0) 2
    let t := after (exec (.launchStart 1 5 0) late)
    l.pass = 1 ∧ goes (exec (.launchStart 1 5 0) busy) busy ∧ late.dev.inOrder core0 l = false ∧ t.dev.entries = [] ∧
    t.dev.newest = some 0x8020 := by decide +kernel

theorem test_launch_ends :
    let l := { lnch (1 <<< 8) 5 .running with cores := [core0] }
    let w := (host1 id [l]).onDev fun d => d.onCore core0 fun k => { k with run := .running, launch := some (1, 5, 0) }
    let at' := fun (s : State) (n : Nat) => s.onDev fun d => { d with clock := n }
    let t := after (exec (.launchTimeLimit 1 5 0) (at' w 50000))
    let z := host1 id [{ l with statuses := [1, 4] }]
    let x := host1 id [{ l with exceptions := [(0, 0x5001)] }]
    w.dev.worksFor core0 l = true ∧ goes (exec (.launchTimeLimit 1 5 0) (at' w 49999)) (at' w 49999) ∧
    ((t.dev.core core0).run = .cutting ∧ t.dev.entries.map (fun e => e.limited) = [true]) ∧
    goes (exec (.launchComplete 1 5 0) w) w ∧ done (after (exec (.launchComplete 1 5 0) z)) = some (0, 5, 0) ∧
    (done (after (exec (.launchComplete 1 5 0) x))) = some (1, 0, 0x5001) ∧
    (after (exec (.launchComplete 1 5 0) z)).dev.entries = [] := by decide +kernel

/-- Function 1's space: 0 to 2 GiB as function 0's. -/
def space (s : State) : State := s.onDev fun d => d.setRegN (Reg.xlatRoot 1) 0x20_0001

theorem test_copy :
    let cp := fun (a b c e : Nat) (p : EntryPhase) => space (host1 id [ent 2 a b c e p])
    let t := after (exec (.copy 1 5 0) (cp 0x8000 0x6000 16 1 .held))
    let h := after (exec (.copyComplete 1 5 0 (.data (List.replicate 16 5) [])) (cp 0x8000 0x6000 16 1 .running))
    let p := after (exec (.copyComplete 1 5 0 (.data (List.replicate 16 5) [(0, 16)])) (cp 0x8000 0x6000 16 1 .running))
    t.dev.out = [.hostRead 1 none 0x8000 16] ∧ t.dev.entries.map (fun e => e.phase) = [.running] ∧
    (ent 2 0x8000 0x6000 16 3 .held).copyInvalid = true ∧ done (after (exec (.copy 1 5 0) (cp 0x8000 0x6000 16 3 .held))) = some (5, 0, 0x9003) ∧
    (h.loadN 0x6000 8 = 0x0505_0505_0505_0505 ∧ done h = some (0, 0, 0)) ∧ (p.poisoned 0x6000 16 = true ∧ done p = some (7, 0, 0x9006)) := by decide +kernel

theorem test_copy_ends :
    let cp := fun (a b c e : Nat) => space (host1 id [ent 2 a b c e .running])
    let go := fun (a b e : Nat) => after (exec (.copyComplete 1 5 0 .abort) (cp a b 8 e))
    let out := go 0x7000 0x9000 2
    let s := cp 0x20_0000 0x6000 8 0
    done (after (exec (.copyComplete 1 5 0 (.data (List.replicate 8 5) [])) (cp 0 0x9000_0000 8 1))) = some (6, 0, 0x5004) ∧
    done (go 0 0x6000 1) = some (8, 0, 0x9007) ∧ done out = some (0, 0, 0) ∧
    (out.dev.out.head? = some (.hostWrite 1 none 0x9000 (List.replicate 8 0) false)) ∧
    ((after (exec (.copyComplete 1 5 0 .abort) s)).loadN 0x6000 8 = 0xF) ∧
    done (after (exec (.completionTimeout 1 5 0 0x8000) (cp 0x8000 0x6000 8 1))) = some (8, 0, 0x9007) := by decide +kernel

theorem test_fence_entry :
    let f := ent 3 0 0 0 0 .held
    let s := host1 id [f]
    let w := host1 id [{ ent 2 0 0 8 0 .running with slot := 15 }, f]
    s.dev.entries = [] ++ f :: [] ∧ done (after (exec (.fenceEntry 1 5 0) s)) = some (0, 0, 0) ∧
    goes (exec (.fenceEntry 1 5 0) w) w = true := by decide +kernel

/-- Semaphore 9 at the first word of the cluster store. -/
def sems (op b c e : Nat) (p : EntryPhase) : State :=
  let s := space (host1 id [ent op 0x4380_0000 b c e p])
  { s with mem := ⟨s.mem.cells ++ [(cst, 9)], [], []⟩ }

theorem test_signal :
    let s := sems 4 5 1 0 .held
    let a := after (exec (.signal 1 5 0) s)
    let b := after (exec (.signal 1 5 0) (sems 4 5 0 0 .held))
    s.entrySem (ent 4 0x4380_0000 5 1 0 .held) = some cst ∧ s.poisoned cst 8 = false ∧ s.dev.mayStart (ent 4 0x4380_0000 5 1 0 .held) = true ∧
    a.loadN cst 8 = 14 ∧ done a = some (0, 0, 0) ∧ b.loadN cst 8 = 5 := by decide +kernel

theorem test_wait_entry :
    let t := after (exec (.waitEntry 1 5 0) (sems 5 4 0 0xA .held))
    let u := after (exec (.waitEntry 1 5 0) (sems 5 4 0 0 .held))
    let v := after (exec (.waitEntry 1 5 0) (sems 5 4 7 0 .held))
    t.loadN cst 8 = 5 ∧ done t = some (0, 0, 0) ∧ done u = some (2, 0, 0) ∧ v.dev.entries.map (fun e => e.phase) = [.running] ∧
    goes (exec (.waitEntry 1 5 0) (sems 5 4 7 0 .running)) (sems 5 4 7 0 .running) ∧
    done (after (exec (.waitEntry 1 5 0) (sems 5 9 7 0 .running))) = some (0, 0, 0) := by decide +kernel

theorem test_wait_entry_timeout :
    let at' := fun (s : State) (n : Nat) => s.onDev fun d => { d with clock := n }
    let w := fun (v n : Nat) => at' (sems 5 v 7 0 .running) n
    (w 4 69).dev.entryLate (ent 5 0x4380_0000 4 7 0 .running) = false ∧ goes (exec (.waitEntryTimeout 1 5 0) (w 4 69)) (w 4 69) ∧
    done (after (exec (.waitEntryTimeout 1 5 0) (w 4 70))) = some (2, 0, 0) ∧
    done (after (exec (.waitEntryTimeout 1 5 0) (w 9 70))) = some (0, 0, 0) := by decide +kernel

theorem test_barrier :
    let t := after (exec (.barrier 1 5 0) (sems 7 10 7 0 .held))
    let u := after (exec (.barrier 1 5 0) (sems 7 11 7 0 .held))
    let v := after (exec (.barrierTimeout 1 5 0) ((sems 7 10 7 0 .running).onDev fun d => { d with clock := 70 }))
    (sems 7 10 7 0 .held).behindWrapper cst = false ∧ (regionOf cst).2 < 0x7F_0000 ∧ (sems 7 10 7 0 .held).mem.wf = true ∧
    (t.loadN cst 8 = 10 ∧ done t = some (0, 0, 0)) ∧ (u.loadN cst 8 = 10 ∧ u.dev.entries.map (fun e => e.phase) = [.running]) ∧
    goes (exec (.barrier 1 5 0) (sems 7 10 7 0 .running)) (sems 7 10 7 0 .running) ∧
    done (after (exec (.barrier 1 5 0) (sems 7 9 7 0 .running))) = some (0, 0, 0) ∧ (v.loadN cst 8 = 8 ∧ done v = some (2, 0, 0)) := by decide +kernel

theorem test_checkpoint_entry :
    let s := host1 id [ent 6 0 0 5 0 .held]
    let t := after (exec (.checkpoint 1 5 0) s)
    s.dev.mayStart (ent 6 0 0 5 0 .held) = true ∧ s.dev.rosterEpoch = 0 ∧ s.dev.nextStep = 0 ∧ t.dev.surv.requests = [5] ∧
    done t = some (0, 5, 0) := by decide +kernel

/-! ## Live firmware -/

/-- PCI.FW_STAT.STATE = st. -/
def fw (st : Nat) : State := base.onDev fun d => d.setRf Reg.fwStat 2 0 st

/-- An image of 8 body bytes: VERSION all ones, ENTRY_CLU = ENTRY_HUB = 0 (R570). -/
def image : List Byte :=
  [0x51, 0x5A, 0x46, 0x57, 1, 0, 0, 0, 0xFF, 0xFF, 0xFF, 0xFF, 8, 0, 0, 0] ++ List.replicate 496 (0 : Byte) ++ [7, 0, 0, 0, 0, 0, 0, 0]

theorem test_base_untraced : base.dev.untraced := by unfold Device.untraced; decide +kernel

theorem test_fw_states :
    let nw := fun (t : State) (n : Nat) => decide (t.dev.rf Reg.fwStat 2 0 = n)
    let bad := fun (t : State) => decide (t.dev.newest = some 0x900D)
    nw (after (exec .fwLoad (fw 0))) 1 ∧ nw (after (exec .fwLoad (fw 5))) 1 ∧ bad (after (exec .fwLoad (fw 2))) ∧
    nw (after (exec .fwRevert (fw 3))) 1 ∧ bad (after (exec .fwRevert (fw 0))) ∧ bad (after (exec .fwCommit (fw 0))) ∧
    nw (after (exec .fwCommit (fw 3))) 4 ∧ nw (after (exec .fwFlashDone (fw 4))) 0 ∧
    (after (exec .fwFlashDone (fw 4))).dev.newest = some 0x900C := by decide +kernel

/-- FW_LEN = 0 is no image's length: the format is wrong, and the state before comes back. -/
theorem test_fw_rejected :
    let t := after (exec (.fwVerifyDone []) (fw 1))
    (fw 1).dev.host.revert = false ∧ (fw 1).fwVerdict ((fw 1).load 0 0).1 ((fw 1).load 0 0).2 = 2 ∧
    goes (exec (.fwVerifyDone []) (fw 2)) (fw 2) ∧ t.dev.rf Reg.fwStat 2 0 = 0 ∧ t.dev.newest = some 0x900A := by decide +kernel

/-- The image at 0x10_0000, its length in FW_LEN, being verified. -/
def loading : State :=
  let s := fw 1
  { s with
    mem := ⟨[(0x10_0000, 0x51), (0x10_0001, 0x5A), (0x10_0002, 0x46), (0x10_0003, 0x57), (0x10_0004, 1), (0x10_0008, 0xFF),
      (0x10_0009, 0xFF), (0x10_000A, 0xFF), (0x10_000B, 0xFF), (0x10_000C, 8), (0x10_0200, 7)], [], []⟩
    dev := (s.dev.setRf Reg.fwAddr 51 12 0x100).setRf Reg.fwLen 25 0 520 }

theorem loading_read : loading.load (loading.dev.rf Reg.fwAddr 51 12 * 4096) (loading.dev.rf Reg.fwLen 25 0) = (image, false) := by
  decide +kernel

theorem loading_facts : imgFormatOk image = true ∧ loading.dev.rf Reg.rstStat 2 0 ≠ 7 ∧ loading.dev.host.revert = false ∧
    loading.dev.rf Reg.fwLen 25 0 = 512 + leAt image 12 4 ∧ leAt image 8 4 = 2 ^ 32 - 1 ∧ loading.dev.rf (Reg.optBlock 2) 31 0 = 0 := by
  decide +kernel

/-- The verdict accepts it wherever the signature, which no file fixes, holds. -/
theorem test_fw_accepted (h : imgSignatureOk image = true) :
    loading.fwVerdict (loading.load (loading.dev.rf Reg.fwAddr 51 12 * 4096) (loading.dev.rf Reg.fwLen 25 0)).1 false = 0 := by
  obtain ⟨h1, h2, h3, h4, h5, h6⟩ := loading_facts
  have hf : ¬ (2 ^ 32 - 1 < Nat.max Config.fwFloor.toNat 0) := by
    have := Config.fwFloor.isLt
    show ¬ (2 ^ 32 - 1 < max _ 0)
    omega
  rw [loading_read]
  unfold State.fwVerdict Device.verify
  rw [if_neg h2, h3, h4, h1, h, h5, h6, if_neg hf]
  rfl

theorem test_core_switch :
    let m : Image := ⟨9, 0x80, 0x40, 1, []⟩
    let s := fun (k : Nat) => (fw 2).onDev fun d => { (d.setRf Reg.fwStat 15 8 k) with host := { d.host with next := some m } }
    let t := after (exec (.coreSwitch 0) (s 0))
    let u := after (exec (.coreSwitch 131) (s 131))
    goes (exec (.coreSwitch 1) (s 0)) (s 0) ∧ ((s 0).dev.core ctl).run ≠ .blockReset ∧ (s 0).dev.rst.clusters = [] ∧
    (t.dev.core ctl).run = .running ∧ (t.dev.core ctl).pc = BitVec.ofNat 64 (bankStart 1 + 0x40) ∧ t.dev.rf Reg.fwStat 15 8 = 1 ∧
    (u.dev.core stw).pc = BitVec.ofNat 64 (bankStart 1 + 0x80) ∧ u.dev.rf Reg.fwStat 2 0 = 3 ∧ u.dev.host.image = some m ∧
    u.dev.newest = some 0x900B := by decide +kernel

/-! ## Resets and boot -/

theorem test_module_reset :
    let c := after (exec (.moduleResetCold (.host 0) 0x15A3C) base)
    let w := after (exec (.moduleResetWarm (.firmware stw) 0x5A3C) base)
    (base.dev.rst.held = false ∧ base.dev.host.ready = true) ∧
    (c.dev.rst.held ∧ c.mem = ⟨[], [], []⟩ ∧ c.dev.rf Reg.rstCause 7 0 = 8) ∧
    (w.dev.rst.held ∧ w.mem = base.mem ∧ w.dev.rf Reg.rstCause 7 0 = base.dev.rf Reg.rstCause 7 0 ||| 16) ∧
    goes (exec (.moduleResetCold (.host 0) 0x15A3D) base) base = true := by decide +kernel

theorem test_perst :
    let t := after (exec .perstAssert base)
    let p := base.onDev fun d => d.onRst fun r => { r with perst := true }
    base.dev.rst.perst = false ∧ goes (exec .perstAssert p) p ∧ (t.dev.rst.held ∧ t.dev.rst.perst ∧ t.dev.rbit Reg.rstCause 1) ∧
    (after (exec .perstPulseFiltered base)).dev.rf Reg.rstStat 15 8 = 1 ∧ (after (exec .perstRelease p)).dev.rst.perst = false := by
  decide +kernel

theorem test_watchdogs_and_critical_errors :
    let w := fun (n : Nat) => (runs base stw fun k => { k with wdogAt := some 100 }).onDev fun d => { d with clock := n }
    let c := after (exec (.critError 0 false) base)
    let e := after (exec (.critError 2 true) base)
    ((w 0).dev.core (steward 0)).wdogAt = some 100 ∧ goes (exec (.watchdogExpiry 0) (w 99)) (w 99) ∧
    ((after (exec (.watchdogExpiry 0) (w 100))).dev.rst.held ∧ (after (exec (.watchdogExpiry 0) (w 100))).dev.rbit Reg.rstCause 5) ∧
    (c.dev.rst.held ∧ c.dev.rbit Reg.rstCause 7 ∧ c.mem = ⟨[], [], []⟩) ∧
    (after (exec (.critError 4 true) base)).dev.rf Reg.rstCause 11 9 = 4 ∧ e.dev.rf Reg.rstStat 31 16 = 1 ∧ e.dev.newest = some 0xC005 := by
  decide +kernel

theorem test_hot_reset :
    let t := after (exec .hotReset (host1 id [ent 3 0 0 0 0 .held]))
    t.dev.rbit Reg.rstCause 2 ∧ t.dev.entries = [] := by decide +kernel

theorem test_power_on :
    let off := { base with dev := { base.dev with power := { base.dev.power with input := false } } }
    let t := after (exec (.powerOnReset 3 1) off)
    goes (exec (.powerOnReset 3 1) base) base ∧ t.dev.power.input ∧ t.dev.rst.held ∧ t.dev.rf Reg.rstCause 7 0 = 1 ∧
    t.dev.rf Reg.tableStat 3 0 = 3 ∧ t.dev.rf Reg.tableStat 5 4 = 1 := by decide +kernel

/-- A cold reset is held; the option flash returns nothing; the fuses fail. -/
theorem test_reset_release :
    let s := after (exec (.moduleResetCold (.host 0) 0x15A3C) base)
    let b : BootInput := ⟨none, true, [], 3, 1, []⟩
    s.dev.rst.held = true ∧ s.dev.rst.perst = false ∧ s.dev.power.trip = false ∧ base.dev.rst.held = false ∧
    goes (exec (.resetRelease b) base) base = true := by decide +kernel

theorem test_option_block :
    let s := base.onDev fun d => d.setRegN (Reg.optStage 0) 0x1_4F42_5A51
    let p := after (exec .optProgram s)
    let t := after (exec .optProgramDone p)
    let u := after (exec .optStatRead t)
    s.dev.rbit Reg.optStat 1 = false ∧ goes (exec .optProgramDone s) s ∧ p.dev.rbit Reg.optStat 1 = true ∧ goes (exec .optProgram p) p ∧
    (t.dev.rf Reg.optStat 2 0 = 4 ∧ (t.dev.rst.optFlash.map fun b => leAt b 0 8) = some 0x1_4F42_5A51) ∧
    u.dev.out = [.reg Reg.optStat 4] ∧ u.dev.rbit Reg.optStat 2 = false := by decide +kernel

theorem test_reset_registers :
    let s := base.onDev fun d => (d.setRegN Reg.rstStat 0x0001_0205).setRegN Reg.rstCause 0x1FF
    let t := after (exec .rstStatRead s)
    t.dev.out = [.reg Reg.rstStat 0x0001_0205] ∧ t.dev.regN Reg.rstStat = 5 ∧
    (after (exec (.rstCauseWrite 0xF0F) s)).dev.regN Reg.rstCause = 0x1F0 := by decide +kernel

/-- Bits of BLOCK_CMD: KIND, DIE, CLUSTER, UNIT, ASSERT, RELEASE. -/
def blk (kind die cl unit a r : Nat) : W64 := BitVec.ofNat 64 (kind + die <<< 2 + cl <<< 6 + unit <<< 10 + a <<< 16 + r <<< 17)

theorem test_block_reset_refusals :
    let st := fun (v : W64) (s : State) => after (exec (.blockResetAssert stw v) s)
    let re := fun (v : W64) (s : State) => after (exec (.blockResetRelease stw v) s)
    (st (blk 0 9 0 0 1 0) base).dev.rbit Reg.blockCmd 62 ∧ (st (blk 1 8 0 0 1 0) base).dev.rbit Reg.blockCmd 62 ∧
    (re (blk 0 0 0 5 0 1) base).dev.rbit Reg.blockCmd 62 ∧ base.dev.blockRefused stw ⟨0, 0, 0, 5⟩ true false = false ∧
    base.dev.blockRefused stw ⟨2, 0, 0, 0⟩ true false = false ∧ base.dev.blockRefused stw ⟨3, 0, 0, 15⟩ true false = false := by decide +kernel

theorem test_core_block_reset :
    let h := after (exec (.blockResetAssert stw (blk 0 0 0 5 1 0)) base)
    (h.dev.core ⟨0, 0, 5⟩).run = .blockReset ∧ h.dev.newest = some 0xC002 ∧ h.dev.blockRefused stw ⟨0, 0, 0, 5⟩ false true = false := by
  decide +kernel

theorem test_core_block_release :
    let h := base.onDev fun d => d.onCore ⟨0, 0, 5⟩ fun k => { k with run := .blockReset, pc := 4 }
    ((after (exec (.blockResetRelease stw (blk 0 0 0 5 0 1)) h)).dev.core ⟨0, 0, 5⟩).run = .idle ∧
    ((after (exec (.blockResetRelease stw (blk 0 0 0 5 0 1)) h)).dev.core ⟨0, 0, 5⟩).pc = 0 := by decide +kernel

theorem test_cluster_block_release :
    let h := base.onDev fun d => d.onRst fun r => { r with clusters := [0], ports := [15] }
    (after (exec (.blockResetRelease stw (blk 2 0 0 0 0 1)) h)).dev.rst.clusters = [] := by decide +kernel

theorem test_port_block_reset :
    let h := after (exec (.blockResetAssert stw (blk 3 0 0 15 1 0)) base)
    h.dev.rst.ports = [15] := by decide +kernel

theorem test_port_block_release :
    let h := base.onDev fun d => d.onRst fun r => { r with clusters := [0], ports := [15] }
    (after (exec (.blockResetRelease stw (blk 3 0 0 15 0 1)) h)).dev.rst.ports = [] := by decide +kernel

theorem test_wrapper :
    let h := base.onDev fun d => d.onCore ⟨0, 0, 5⟩ fun k => { k with run := .blockReset }
    let x : Block := .core 0 0 5
    base.dev.wrapped x = false ∧ goes (exec (.wrapperAnswer x .registerRead) base) base ∧ h.dev.wrapped x = true ∧
    goes (exec (.wrapperAnswer x .response) h) h ∧
    (after (exec (.wrapperAnswer x .registerRead) h)).dev.out.getLast? = some (.wrapper x [0, 0, 0, 0, 0, 0, 0, 0] false) := by
  decide +kernel

theorem test_cluster_watchdog :
    let m : Image := ⟨9, 0x80, 0x40, 1, []⟩
    let w := fun (n : Nat) => (runs base ctl fun k => { k with wdogAt := some 100 }).onDev fun d =>
      { d with clock := n, host := { d.host with image := some m } }
    let t := after (exec (.watchdog clu0) (w 100))
    goes (exec (.watchdog clu0) (w 99)) (w 99) ∧ clusterPresent clu0 = true ∧ (w 0).dev.blockHeld ⟨1, 0, 0, 0⟩ = false ∧
    ((t.dev.core ctl).pc = BitVec.ofNat 64 (bankStart 1 + 0x40) ∧ t.dev.newest = some 0xC004) := by decide +kernel

/-! ## Power and heat -/

theorem test_input_removed :
    let off := { base with dev := { base.dev with power := { base.dev.power with input := false } } }
    let t := after (exec .inputRemoved base)
    goes (exec .hotReset off) off ∧ t.mem = ⟨[], [], []⟩ ∧ t.dev.power.input = false ∧ t.dev.regs = [] := by decide +kernel

/-- 30 mK per W: class 1, 3,200 W. -/
theorem test_calibration :
    let s := base.onDev fun d => { (d.setRf (Reg.optBlock 1) 41 40 1) with power := { d.power with calib := true } }
    let t := after (exec (.calibrationEnd 0 384) s)
    s.dev.power.calib = true ∧ s.dev.rst.held = false ∧ t.dev.rf Reg.thermStat 4 0 = 0x15 ∧ t.dev.rf Reg.thermStat 39 32 = 30 ∧
    t.dev.newest = some 0xD001 ∧ envelopeOf 1 = 3200 ∧
    (after (exec (.calibrationEnd 0 512) s)).dev.rf Reg.thermStat 1 0 = 1 ∧ (after (exec (.calibrationEnd 0 525) s)).dev.rf Reg.thermStat 1 0 = 2 ∧
    (after (exec (.calibrationEnd 0 781) s)).dev.rf Reg.thermStat 1 0 = 0 := by decide +kernel

theorem test_power_period :
    let s := base.onDev fun d => { d with power := { d.power with atFloor := true, therm := 1600 } }
    let t := after (exec (.powerControlPeriod 1000 760 []) s)
    let u := after (exec (.powerControlPeriod 1601 760 []) s)
    t.dev.rf Reg.pwrStat 47 0 = 1600 + 1000 <<< 16 + 760 <<< 32 ∧ t.dev.power.turn = 1 ∧ t.dev.power.watts = [1000] ∧
    s.dev.nextToPark = some 0 ∧ u.dev.power.parked = [0] ∧
    (after (exec (.powerControlPeriod 1600 760 []) u)).dev.power.parked = [] := by decide +kernel

/-- Sensor 0 reads; the others have been reported as failed. -/
theorem test_sensors :
    let s := fun (hot : Bool) => base.onDev fun d => { d with power := { d.power with failed := List.range 228, hot := hot } }
    let t := after (exec (.sensorRead [some 110]) (s false))
    let u := after (exec (.sensorRead [some 110]) (s true))
    tripReading [some 110] = true ∧ tripReading [some 109] = false ∧ (s false).dev.power.trip = false ∧
    (t.dev.power.hot ∧ t.dev.rst.held = false) ∧ (u.dev.power.trip ∧ u.dev.power.fault ∧ u.dev.rbit Reg.rstCause 6) := by decide +kernel

theorem test_sensor_alert :
    let s := base.onDev fun d => { (d.setRf Reg.thermCtl 7 0 99) with power := { d.power with failed := List.range 228 } }
    (after (exec (.sensorRead [some 99]) s)).dev.rbit Reg.thermStat 5 = true := by decide +kernel

theorem test_thermal_limit :
    let s := fun (n th : Nat) (al : Bool) => base.onDev fun d =>
      { (d.setRf Reg.thermStat 5 5 (if al then 1 else 0)) with clock := n, power := { d.power with therm := th, thermAt := 0 } }
    let t := after (exec .thermalLimitStep (s 10000000 1600 true))
    goes (exec .thermalLimitStep (s 9999999 1600 true)) (s 9999999 1600 true) ∧
    goes (exec .thermalLimitStep (s 99999999 1600 false)) (s 99999999 1600 false) ∧
    (t.dev.power.therm = 1520 ∧ t.dev.newest = some 0xD003) ∧ (after (exec .thermalLimitStep (s 10000000 401 true))).dev.power.therm = 400 ∧
    (after (exec .thermalLimitStep (s 100000000 1590 false))).dev.power.therm = 1600 := by decide +kernel

theorem test_cooling_and_i3c :
    let t := after (exec (.coolReqWrite 40) base)
    let u := after (exec (.coolReqWrite 0x102) (base.onDev fun d => d.setRf Reg.thermStat 31 24 20))
    t.dev.power.duty = 40 ∧ (after (exec (.coolReqWrite 101) base)).dev.rf Reg.coolReq 7 0 = 100 ∧ u.dev.power.duty = 20 ∧
    (after (exec (.i3cAddressAssign 9) base)).dev.power.addr = some 9 ∧
    (after (exec (.i3cRead 0 8) base)).dev.out = [.i3c (leBytes 8 (base.dev.regN Reg.partId))] := by decide +kernel

/-! ## Peer ports -/

/-- Seat 2, whose port 3 leads to seat 4, in a state of the port, with the port changed by a function. -/
def port3 (st : Nat) (f : Port → Port) : State :=
  base.onDev fun d => (((d.setRf Reg.tableStat 3 0 2).setRf (Reg.portStat 3) 2 0 st).setPort 3 (f (d.port 3)))

/-- A flit: header, bytes from 8, CRC. -/
def flit (h : Nat) (body : List Byte) : List Byte :=
  let b := (leBytes 8 h ++ body ++ List.replicate 244 (0 : Byte)).take 252
  b ++ leBytes 4 (crc32 b)

/-- A packet of one flit waiting on VC 6. -/
def pk6 (n : Nat) : PeerPacket := ⟨6, List.replicate n 0, none, 0⟩

theorem test_port_hold :
    let s := port3 4 fun x => { x with hold := false, queue := [] }
    let q := port3 4 fun x => { x with queue := [pk6 64], credits := [0, 0, 0, 0, 0, 0, 2, 0], resend := [] }
    let t := after (exec (.peerHoldInRelease 3) q)
    s.dev.portSeat 3 = 4 ∧ ((after (exec (.peerHoldInAssert 3) s)).dev.port 3).hold = true ∧
    ((after (exec (.peerHoldInRelease 3) s)).dev.port 3).hold = false ∧ flitCount 64 = 1 ∧
    ((t.dev.port 3).queue = [] ∧ (t.dev.port 3).sent = (q.dev.port 3).sent + 1 ∧ (t.dev.port 3).resend.length = 1 ∧ t.dev.out.length = 1) := by
  decide +kernel

theorem test_port_states :
    let s0 := port3 0 id
    let s4 := port3 4 id
    let s5 := port3 5 id
    let f := after (exec (.portFence 3) s4)
    s0.dev.seated = true ∧ (after (exec (.portEnable 3 true) s0)).dev.portState 3 = 1 ∧ (after (exec (.portEnable 3 false) s4)).dev.portState 3 = 0 ∧
    (f.dev.portState 3 = 5 ∧ f.dev.rf (Reg.portStat 3) 11 8 = 1) ∧ (after (exec (.portFence 3) s5)).dev.rbit (Reg.portCtl 3) 1 ∧
    (after (exec (.unfence 3) s5)).dev.portState 3 = 1 ∧ goes (exec (.unfence 3) s4) s4 = true := by decide +kernel

/-- Eight codewords in step find the lock. -/
theorem test_codeword_lock :
    let x := port3 1 fun x => { x with good := 7, tag := some (false, 9) }
    let bs := List.replicate 640 (7 : Byte)
    inStep (some (false, 9)) true 9 = true ∧ (x.dev.port 3).good = 7 ∧ goes (exec (.codeword 3 0 false 0 bs) (port3 0 id)) (port3 0 id) := by
  decide +kernel

/-- An even pair keeps 128 bytes for its other half. -/
theorem test_codeword_flits :
    let bs := List.replicate 640 (7 : Byte)
    let e := after (exec (.codeword 3 0 false 10 bs) (port3 4 id))
    let o := after (exec (.codeword 3 0 true 10 bs) (port3 4 fun x => { x with half := some (List.replicate 128 7, false) }))
    (e.dev.chute (rxChute 3)).words.length = 8 ∧ (o.dev.chute (rxChute 3)).words = (List.replicate 3 (List.replicate 256 7, false)).flatMap flitWords := by decide +kernel

/-- The fourth uncorrectable one loses the lock. -/
theorem test_codeword_loss :
    let bs := List.replicate 640 (7 : Byte)
    let u := after (exec (.codeword 3 16 false 10 bs) (port3 4 fun x => { x with uncorr := 3 }))
    u.dev.portState 3 = 1 ∧ u.dev.rf (Reg.linkCnt 3) 47 32 = 1 := by decide +kernel

theorem test_fence_flit_and_starving :
    let f := (port3 4 id).onDev fun d => d.receiveFlits 3 [(flit 1 [4], false)]
    let q := fun (n : Nat) => (port3 4 fun x => { x with queue := [pk6 64], credits := List.replicate 8 0 }).onDev fun d =>
      { d with clock := n }
    let e := (port3 4 fun x => { x with queue := [] })
    let t := after (exec (.starveTimeout 3) (q (10000 * (q 0).dev.rf (Reg.portCtl 3) 47 32)))
    flitKind (flit 1 [4]) false = 7 ∧ (after (exec (.fenceFlit 3) f)).dev.portState 3 = 1 ∧ goes (exec (.starveTimeout 3) e) e ∧
    (t.dev.portState 3 = 5 ∧ t.dev.rf (Reg.portStat 3) 11 8 = 5) := by decide +kernel

theorem test_link_counters :
    let s := (port3 4 id).onDev fun d => (d.setRegN (Reg.linkCnt 3) 0x5).setRegN (Reg.fecCnt 3) 0x7
    let t := after (exec (.linkCntRead 3 false) s)
    let u := after (exec (.linkCntRead 3 true) s)
    t.dev.out = [.reg (Reg.linkCnt 3) 5] ∧ t.dev.reg (Reg.linkCnt 3) = 0 ∧ u.dev.out = [.reg (Reg.fecCnt 3) 7] ∧ u.dev.reg (Reg.fecCnt 3) = 0 := by
  decide +kernel

/-! ## Flits -/

/-- A data flit of the one-flit packet of 24 bytes on VC 6, number 5. -/
def data5 : List Byte := flit (6 <<< 2 + 1 <<< 5 + 1 <<< 6 + 5 <<< 8 + 24 <<< 40) (List.replicate 24 0)

/-- Port 3, up, with a flit at the head and the port changed. -/
def got (b : List Byte) (f : Port → Port) : State := (port3 4 fun x =>
  f { x with expect := 5, acked := 0, granted := List.replicate 8 4, credits := List.replicate 8 0, resend := [], queue := [], hold := false }).onDev
    fun d => d.setChute (rxChute 3) { Chute.empty with words := flitWords (b, false) }

def tx (n : Nat) : TxFlit := ⟨n, 0, [], none⟩

theorem test_data_flits :
    let s := got data5 id
    let t := after (exec (.dataFlit 3) s)
    let bad := got (data5.take 255 ++ [0]) id
    let b := after (exec (.dataFlit 3) bad)
    let n := after (exec (.dataFlit 3) (got data5 fun x => { x with expect := 6, discarding := true }))
    flitKind data5 false = 2 ∧ (s.dev.port 3).misplaced (leAt data5 0 8) (slice data5 8 24) = false ∧
    ((t.dev.chute (rxChute 3)).words = [] ∧ (t.dev.port 3).expect = 6 ∧ (t.dev.port 3).buffer = [⟨6, List.replicate 24 0, none, 0⟩]) ∧
    flitKind (data5.take 255 ++ [0]) false = 0 ∧ (bad.dev.faultsNow 3).length + 1 < bad.dev.rf (Reg.portCtl 3) 55 48 ∧
    ((b.dev.port 3).expect = 5 ∧ (b.dev.port 3).discarding ∧ b.dev.newest = some 0xA004) ∧
    (n.dev.port 3).expect = 6 ∧ (n.dev.port 3).buffer = [] := by decide +kernel

theorem test_acknowledgements :
    let idle := flit (2 + 7 <<< 20) []
    let s := got idle fun x => { x with resend := [tx 6, tx 7, tx 8] }
    let t := after (exec (.idleFlit 3) s)
    let nak := flit 1 [1, 7, 0]
    let k := got nak fun x => { x with resend := [tx 6, tx 7, tx 8], back := none }
    let u := after (exec (.nak 3) k)
    let again := got nak fun x => { x with resend := [tx 7], back := some 7, retries := 15 }
    let v := after (exec (.nak 3) again)
    flitKind idle false = 3 ∧ (t.dev.port 3).resend = [tx 8] ∧ (t.dev.port 3).acked = 7 ∧
    flitKind nak false = 4 ∧ 0 < k.dev.rf (Reg.portCtl 3) 11 8 ∧ k.dev.rf (Reg.portCtl 3) 11 8 ≤ 16 ∧
    ((u.dev.port 3).back = some 7 ∧ u.dev.out.length = 2 ∧ u.dev.rf (Reg.linkCnt 3) 15 0 = 1) ∧
    (v.dev.portState 3 = 5 ∧ v.dev.rf (Reg.portStat 3) 11 8 = 2) := by decide +kernel

theorem test_credits_and_time :
    let c := flit 1 ([2] ++ leBytes 2 3 ++ List.replicate 12 0 ++ leBytes 2 9)
    let t := after (exec (.credit 3) (got c id))
    let q := flit 1 ([3, 0] ++ List.replicate 6 0 ++ leBytes 8 500)
    let u := after (exec (.time 3) (got q id))
    flitKind c false = 5 ∧ (t.dev.port 3).credits = [3, 0, 0, 0, 0, 0, 0, 9] ∧ flitKind q false = 6 ∧
    (match u.dev.out with
     | [.flit 3 b] => decide (leAt b 8 2 = 0x103) && decide (leAt b 16 8 = 500)
     | _ => false) = true := by decide +kernel

/-- Port 3 leads to the time reference, seat 4. Its answer: asked at 0, received and answered at 100, here at 0: 100 ns behind. -/
def answer : List Byte := flit 1 ([3, 1] ++ List.replicate 6 0 ++ leBytes 8 0 ++ leBytes 8 100 ++ leBytes 8 100)
def answered (due : Bool) : State := (got answer id).onDev fun d => { (((d.setRf Reg.rosterCtl 15 0 1).setRf Reg.tableStat 11 8 4).setRf
  (Reg.roster 2) 2 0 1) with peer := { d.peer with stepDue := due } }

theorem test_time_answers : (answered true).dev.timeRef = 4 ∧ (answered true).dev.portSeat 3 = 4 ∧
    (answered true).dev.rosterEpoch ≠ 0 ∧ (answered true).dev.inRoster 2 = true := by decide +kernel

set_option maxRecDepth 4000 in
theorem test_time_steers : (after (exec (.time 3) (answered false))).dev.peer.steer = 1000 := by decide +kernel

set_option maxRecDepth 4000 in
theorem test_time_steps : (after (exec (.time 3) (answered true))).dev.clock = 1000 := by decide +kernel

theorem test_resend :
    let s := fun (n : Nat) => (got [] fun x => { x with resend := [tx 6, tx 7], back := none, progress := 0 }).onDev fun d => { d with clock := n }
    let w := 10000 * (s 0).dev.rf (Reg.portCtl 3) 31 16
    let t := after (exec (.resendTimeout 3) (s w))
    0 < w ∧ goes (exec (.resendTimeout 3) (s (w - 1))) (s (w - 1)) ∧ (t.dev.port 3).back = some 6 ∧ t.dev.out.length = 2 ∧
    t.dev.rf (Reg.linkCnt 3) 15 0 = 1 := by decide +kernel

/-! ## Identity and packets -/

/-- Port 3 identifying, with a HELLO of seat 4 and a whole chain. -/
def greeted : State := port3 3 fun x =>
  { x with hello := some ([0, 0, 0, 0, 4, 1] ++ List.replicate 58 0), cert := some ⟨2, 2, 3, [7, 8, 9]⟩, linkedAt := 0 }

theorem test_identity :
    let s := port3 3 id
    let msg := [0, 0, 0, 0, 4, 1] ++ List.replicate 58 (0 : Byte)
    let cert := [0, 0, 0, 0, 0, 0, 2, 0, 3, 0, 0x84, 3, 0, 0, 0, 0, 7, 8, 9] ++ List.replicate 45 (0 : Byte)
    let fenced := fun (t : State) => decide (t.dev.portState 3 = 5) && decide (t.dev.rf (Reg.portStat 3) 11 8 = 4)
    goes (exec (.hello 3 msg) (port3 2 id)) (port3 2 id) ∧ ((after (exec (.hello 3 msg) s)).dev.port 3).hello = some msg ∧
    fenced (after (exec (.hello 3 msg) greeted)) ∧ fenced (after (exec (.hello 3 (List.replicate 64 0)) s)) ∧
    ((after (exec (.cert 3 cert) s)).dev.port 3).cert = some ⟨1, 2, 0x384, [7, 8, 9]⟩ ∧ fenced (after (exec (.cert 3 cert) greeted)) ∧
    fenced (after (exec (.proof 3 msg ⟨true, false⟩) greeted)) = true := by decide +kernel

theorem test_proof :
    let t := after (exec (.proof 3 [] ⟨true, true⟩) greeted)
    greeted.dev.seat = 2 ∧ greeted.dev.portSeat 3 = 4 ∧ (greeted.dev.port 2).serial = none ∧ t.dev.portState 3 = 4 ∧
    t.dev.rf (Reg.portStat 3) 7 4 = 4 ∧ (t.dev.port 3).serial = some (List.replicate 12 0) := by decide +kernel

theorem test_ident_timeout :
    let s := fun (n : Nat) => greeted.onDev fun d => { d with clock := n }
    let w := 10000000 * greeted.dev.rf Reg.tableCtl 55 48
    let t := after (exec (.identTimeout 3) (s w))
    0 < w ∧ goes (exec (.identTimeout 3) (s (w - 1))) (s (w - 1)) ∧ t.dev.portState 3 = 5 ∧ t.dev.rf (Reg.portStat 3) 11 8 = 4 := by
  decide +kernel

/-- Seat 2 leads seats 2 and 4, in slots 0 and 1; port 3 is up toward seat 4 and held. -/
def table (f : Port → Port) : State :=
  (port3 4 fun x => f { x with hold := true, queue := [], buffer := [] }).onDev fun d =>
    (((((d.setRf Reg.rosterCtl 15 0 1).setRf Reg.tableStat 11 8 2).setRegN (Reg.roster 2) 1).setRegN (Reg.roster 4) (1 + 1 <<< 20)).setRf
      (Reg.route 4) 1 0 1).setRf Reg.tableCtl 3 0 3

/-- An on-chip packet of a core's memory read to the peer unit, for seat t. -/
def toSeat (t : Nat) : Packet :=
  ⟨{ asks false with dstDie := 8, dstUnit := 0x31, len := 48 }, leBytes 8 t ++ headerBytes { asks false with len := 24 } ++ List.replicate 24 0⟩

theorem test_packets_leave :
    let s := table id
    let t := after (exec (.peerPacketSend (toSeat 4)) s)
    let u := after (exec (.peerPacketSend (toSeat 5)) s)
    s.dev.egress 4 9 0 = some 3 ∧ s.dev.egress 5 9 0 = none ∧ s.dev.leads = true ∧
    goes (exec (.peerPacketSend ⟨asks false, []⟩) s) s ∧
    (t.dev.peer.ledger.map fun e => (e.1, e.2.seat, e.2.port)) = [(0, 4, 3)] ∧
    (match u.dev.out.getLast? with
     | some (.packet p) => p.hdr.poison && decide (p.hdr.opTag = 9)
     | _ => false) = true := by decide +kernel

theorem test_proxy :
    let h := asks false
    let pk : Packet := ⟨{ responseHdr h false (srcHub 0x30 0) with vnet := 1, dstDie := 8, dstUnit := 0x31 }, []⟩
    let s := (table id).onDev fun d => d.onPeer fun x => { x with proxy := [(3, ⟨4, { h with dstDie := pk.hdr.srcDie, dstUnit := pk.hdr.srcUnit }⟩)] }
    let t := after (exec (.peerPacketSend pk) s)
    (s.dev.proxyOf pk.hdr).isSome = true ∧ t.dev.peer.proxy = [] := by decide +kernel

/-- A packet on a port: DST and SRC seats, epoch, inner packet. -/
def peerBytes (dst src epoch : Nat) (h : Header) (bs : List Byte) : List Byte :=
  leBytes 2 (dst + src * 16) ++ leBytes 2 epoch ++ [0, 0, 0, 0] ++ headerBytes h ++ bs

def hears (vc : Nat) (b : List Byte) : State := table fun x => { x with buffer := [⟨vc, b, none, 0⟩] }

theorem test_packets_arrive :
    let ask := { asks false with len := 24 }
    let stale := hears 0 (peerBytes 2 4 7 ask [])
    let t := after (exec (.peerPacketReceive 3) stale)
    let s := hears 0 (peerBytes 2 4 1 ask (List.replicate 24 0))
    let u := after (exec (.peerPacketReceive 3) s)
    goes (exec (.peerPacketReceive 3) (table id)) (table id) ∧ (stale.dev.rf Reg.rosterCtl 31 16 ≠ 7 ∧ stale.dev.rbit Reg.rosterCtl 48 = false) ∧
    (t.dev.port 3).buffer = [] ∧ t.dev.rf (Reg.linkCnt 3) 63 48 = 1 ∧
    s.dev.inRoster 4 = true ∧ (u.dev.peer.proxy.map fun e => (e.1, e.2.seat)) = [(0, 4)] ∧
    (match u.dev.out.head? with
     | some (.packet p) => decide (p.hdr.srcDie = 8) && decide (p.hdr.srcUnit = 0x31)
     | _ => false) = true := by decide +kernel

theorem test_messages_arrive :
    let h := messageHdr 1 4
    let s := hears 6 (peerBytes 2 4 1 h [0x40, 5, 6, 7])
    let t := after (exec (.peerPacketReceive 3) s)
    let tail := s.dev.rf Reg.msgRx 25 16
    toSteward h = true ∧ messageType 0x40 = true ∧ s.dev.msgFull = false ∧ t.dev.rf Reg.msgRx 25 16 = (tail + 1) % 1024 ∧
    (t.dev.core (steward 1)).csr.ipend.getLsbD 4 = true ∧ t.loadN (hubStoreAddr (0x3F0_0000 + 1024 * tail) + 24) 4 = 0x07060540 := by
  decide +kernel

theorem test_ledger_timeout :
    let e : LedgerEntry := ⟨4, asks false, 0, 3, false⟩
    let s := fun (n : Nat) => (table id).onDev fun d => { (d.onPeer fun x => { x with ledger := [(3, e)] }) with clock := n }
    let w := 10000000 * (s 0).dev.rf Reg.tableCtl 63 56
    let t := after (exec (.ledgerTimeout 3) (s w))
    0 < w ∧ goes (exec (.ledgerTimeout 3) (s (w - 1))) (s (w - 1)) ∧ t.dev.peer.ledger = [] ∧ answers t true [] = true := by decide +kernel

theorem test_msg_tx :
    let s : State := { table id with mem := ⟨(table id).mem.cells ++ [(hubStoreAddr 8, 0x40)], [], []⟩ }
    let v : W64 := BitVec.ofNat 64 (4 + 1 <<< 4 + 8 <<< 8 + 1 <<< 20)
    let t := after (exec (.msgTx v) s)
    goes (exec (.msgTx (v + 5)) s) s ∧ s.dev.egress 4 0 3 = some 3 ∧
    ((t.dev.port 3).queue.map fun k => (k.vc, k.bytes.length, leAt k.bytes 0 4, leAt k.bytes 24 8)) = [(6, 32, 0x1_0024, 0x40)] := by
  decide +kernel

/-! ## Rosters -/

theorem test_leader_notes :
    let s := table id
    let j := after (exec (.join 5) s)
    let l := after (exec (.leave 4) s)
    let r := after (exec (.report 4 0x3FF none) s)
    let n := base
    s.dev.inRoster 5 = false ∧ s.dev.inRoster 4 = true ∧ (j.dev.peer.joiners = [5] ∧ j.dev.peer.waitUntil = some 1000000) ∧
    (l.dev.peer.left = [4] ∧ l.dev.peer.waitUntil = some 1000000) ∧ tfind r.dev.peer.live 4 = some 0x1FF ∧
    n.dev.leads = false ∧ (after (exec (.join 5) n)).dev.peer = n.dev.peer := by decide +kernel

theorem test_leaving :
    let t := after (exec .tableLeave (table id))
    t.dev.rbit Reg.tableCtl 8 ∧ t.dev.peer.left = [2] ∧ t.dev.peer.waitUntil = some 1000000 := by decide +kernel

/-- Seat 2 follows seat 4, which proposes epoch 2. -/
def follows : State := (table id).onDev fun d => d.setRf Reg.tableStat 11 8 4

theorem test_proposals :
    let es : List W64 := [0, 0, 1, 0, 0x100001]
    let t := after (exec (.propose 4 2 es) follows)
    let u := after (exec (.propose 4 1 es) follows)
    epochAfter 2 follows.dev.rosterEpoch = true ∧ epochAfter 1 follows.dev.rosterEpoch = false ∧ follows.dev.rbit Reg.rosterCtl 48 = false ∧
    follows.dev.leaderNow = 4 ∧ t.dev.rbit Reg.rosterCtl 48 ∧ t.dev.rf Reg.rosterCtl 47 32 = 2 ∧ t.dev.reg (Reg.rosterNext 4) = 0x100001 ∧
    t.dev.peer.proposer = 4 ∧ u.dev.peer = follows.dev.peer := by decide +kernel

/-- A proposal of epoch 2 that keeps seats 2 and 4 waits for acceptances. -/
def proposed (acc : List Nat) : State := (table id).onDev fun d =>
  { ((d.setRf Reg.rosterCtl 48 32 (2 + 1 <<< 16)).setRegN (Reg.rosterNext 2) 1) with
    peer := { d.peer with proposal := some ⟨2, [], [2, 4, 5], acc, 0⟩ } }

theorem test_acceptance :
    let t := after (exec (.accept 4 2 0) (proposed [2]))
    let u := after (exec (.accept 4 2 0) (proposed [2, 5]))
    (proposed []).dev.rbit Reg.rosterCtl 48 = true ∧ (t.dev.peer.proposal.map fun p => p.accepted) = some [2, 4] ∧ t.dev.rosterEpoch = 1 ∧
    (u.dev.rosterEpoch = 2 ∧ u.dev.rf Reg.rosterCtl 31 16 = 1 ∧ u.dev.reg (Reg.roster 2) = 1 ∧ u.dev.reg (Reg.roster 4) = (table id).dev.reg (Reg.rosterNext 4)) ∧
    goes (exec .rosterCommit (table id)) (table id) = true := by decide +kernel

theorem test_commits :
    let c := after (exec (.commitMessage 4 2 []) (proposed []))
    let r := after (exec .rosterCommit (proposed []))
    c.dev.rosterEpoch = 2 ∧ r.dev.rosterEpoch = 2 := by decide +kernel

theorem test_sync :
    let s := table id
    let t := after (exec (.sync 4) s)
    s.dev.egress 4 0 3 = some 3 ∧ ((t.dev.port 3).queue.map fun k => (k.vc, leAt k.bytes 24 1)) = [(6, 0x15)] := by decide +kernel

theorem test_leader_wait :
    let s := fun (n : Nat) => (table id).onDev fun d => { (d.onPeer fun x => { x with waitUntil := some 100, live := [(4, 0b10100)] }) with clock := n }
    let t := after (exec .leaderWaitExpiry (s 100))
    goes (exec .leaderWaitExpiry (s 99)) (s 99) ∧ (s 100).dev.quorum = 2 ∧ (s 100).dev.keep (s 100).dev.candidates = [2, 4] ∧
    t.dev.rbit Reg.rosterCtl 48 ∧ t.dev.rf Reg.rosterCtl 47 32 = 2 ∧ (t.dev.peer.proposal.map fun p => (p.kept, p.accepted)) = some ([2, 4], [2]) := by
  decide +kernel

/-- Alone of nine, seat 2 has no quorum. -/
theorem test_form_timeout :
    let s := fun (n : Nat) => (port3 0 id).onDev fun d => { ((d.setRf Reg.tableCtl 3 0 9).onPeer fun x => { x with firstUp := some 0 }) with clock := n }
    let w := 10000000 * (s 0).dev.rf Reg.tableCtl 47 32
    let t := after (exec .formTimeout (s w))
    (s 0).dev.rosterEpoch = 0 ∧ (s 0).dev.leaderNow = 2 ∧ 0 < w ∧ goes (exec .formTimeout (s (w - 1))) (s (w - 1)) ∧
    ((s w).dev.keep (s w).dev.candidates).length < (s w).dev.quorum ∧ t.dev.rf Reg.tableStat 13 12 = 2 := by decide +kernel

theorem test_roster_timeout :
    let s := fun (n : Nat) => (proposed [2]).onDev fun d => { d with clock := n }
    let w := 10000 * (s 0).dev.rf Reg.tableCtl 31 16
    let t := after (exec .rosterTimeout (s w))
    0 < w ∧ goes (exec .rosterTimeout (s (w - 1))) (s (w - 1)) ∧ t.dev.peer.silent = [4, 5] := by decide +kernel

/-! ## Steps and checkpoints -/

theorem test_time_requests :
    let s := follows
    let t := after (exec .timeRequestTimer (s.onDev fun d => { d with clock := 70 }))
    base.dev.timeRef = 15 ∧ goes (exec .timeRequestTimer base) base ∧ s.dev.timeRef = 4 ∧ s.dev.firstPort 4 = 2 ∧ s.dev.portUp 2 = false ∧
    (match t.dev.out with
     | [.flit 3 b] => decide (leAt b 8 2 = 3) && decide (leAt b 16 8 = 7)
     | _ => false) = true := by decide +kernel

theorem test_ptm :
    let t := after (exec (.ptmResult 1001) base)
    let u := after (exec (.ptmResult (-1000)) base)
    base.dev.peer.ptmFirst = none ∧ base.dev.rosterEpoch = 0 ∧ (t.dev.clock = 10010 ∧ t.dev.newest = some 0xA00B ∧ t.dev.rbit Reg.timeStat 5) ∧
    u.dev.clock = 0 ∧ u.dev.rf Reg.timeStat 39 8 = 2 ^ 32 - 1000 ∧ u.dev.peer.steer = -10000 := by decide +kernel

theorem test_slot_losses :
    let s := table id
    let t := after (exec (.slotLoss 1 7 3 4) s)
    let u := after (exec (.slotLoss 0 7 1 2) t)
    s.dev.leads = true ∧ s.dev.seatOfSlot 0 = some 2 ∧ s.dev.slotOf 2 = some 0 ∧ s.dev.servedSlots = [0, 1] ∧ s.dev.survMode = 0 ∧
    (t.dev.surv.losses = [(7, 1, 3, 4)] ∧ t.dev.surv.go = none) ∧ u.dev.surv.go = some 7 ∧ u.dev.surv.log.length = 1 := by decide +kernel

/-- The sum of a slot loss rounds at each addition of the tree: (2^24 + 1) + -2^24 is 0 (R169, R514). -/
theorem test_loss_sum :
    lossSum [0x4B800000, 0x3F800000, 0xCB800000] = 0 ∧ lossSum [0x4B800000, 0, 0x3F800000, 0xBF000000] = 0x4B800000 ∧ lossSum (List.replicate 33 0x3F800000) = 0x42040000 ∧ lossSum (List.replicate 128 0) = 0 ∧
    lossCrc [0x3F800000, 0] = BitVec.ofNat 32 (crc32c [0, 0, 0x80, 0x3F, 0, 0, 0, 0]) := by decide +kernel

theorem test_go :
    let r := leBytes 64 (9 + (1 + 1 <<< 8) <<< 64)
    let t := after (exec (.go r) base)
    bitAt (leAt r 8 1) 0 = true ∧ t.dev.surv.go = some 9 ∧ t.dev.surv.log = [r] ∧ t.dev.surv.ckpt = some ⟨9, 1, [], []⟩ := by decide +kernel

/-- Slot 0 is this seat's own: its command for another step, or once it is done, changes nothing. -/
theorem test_checkpoint_done :
    let st := fun (l : List (Nat × W32)) => (table id).onDev fun d => d.onSurv fun x => { x with ckpt := some ⟨9, 1, l, []⟩ }
    let t := after (exec (.ckptDone 9 1 6) (st []))
    let u := after (exec (.ckptDone 9 1 6) (st [(0, 5)]))
    (after (exec (.ckptDone 9 1 5) base)).dev.surv = base.dev.surv ∧ (t.dev.surv.ckpt = some ⟨9, 1, [(1, 6)], []⟩) ∧
    (after (exec (.ckptDone 8 0 5) (st []))).dev.surv.ckpt = (st []).dev.surv.ckpt ∧
    (after (exec (.ckptDone 9 0 7) (st [(0, 5)]))).dev.surv.ckpt = (st [(0, 5)]).dev.surv.ckpt ∧
    (u.dev.surv.ckpt = none ∧ u.dev.rf Reg.survStat 63 32 = 9 ∧ u.dev.rf Reg.survStat 5 4 = 3 ∧ u.dev.newest = some 0xB001) := by decide +kernel

theorem test_checkpoint_store :
    let s := (table id).onDev fun d => d.onSurv fun x => { x with ckpt := some ⟨9, 1, [], []⟩ }
    let t := after (exec (.ckptStoreWrite 0x5001) s)
    t.dev.rf Reg.ckptStore 63 12 = 5 ∧ t.dev.rbit Reg.ckptStore 0 ∧ t.dev.surv.ckpt = none ∧ t.dev.newest = some 0xB002 := by decide +kernel

/-- A registry of one tensor at 0x10_0000. -/
theorem test_registry :
    let s : State := { base with mem := ⟨[(0x10_0000, 1), (0x10_0040, 0x77)] ++ base.mem.cells, [], []⟩ }
    let t := after (exec (.survRegWrite 0x10_0001) s)
    t.dev.surv.registry.map RegEntry.tensor = [0x77] ∧ (after (exec (.survRegWrite 0x10_0000) s)).dev.surv.registry = [] := by decide +kernel

theorem test_odds :
    let s := table id
    let t := after (exec (.odds 4 900) s)
    (after (exec (.ckptReq 9) s)).dev.surv.requests = [9] ∧ goes (exec (.ckptReq 9) base) base ∧
    s.dev.surv.odds = [] ∧ t.dev.surv.odds = [(4, 900, 0)] ∧ t.dev.rf Reg.odds 31 16 = 900 ∧ base.dev.leads = false := by decide +kernel

/-! ## Halts, moves, relaunches -/

/-- The table's SURV_STAT.MODE and clock set, survival changed. -/
def halts (mode n : Nat) (f : Surv → Surv) : State :=
  (table id).onDev fun d => { (((d.setRf Reg.survStat 2 0 mode).setRf (Reg.roster 4) 5 4 1).onSurv f) with clock := n }

theorem test_halted :
    let s := halts 1 0 fun x => { x with lost := some (0, 9), halted := [2], go := some 9 }
    let t := after (exec (.halted 4 1) s)
    let u := after (exec (.halted 4 2) s)
    s.dev.leads = true ∧ s.dev.members = [2, 4] ∧ s.dev.mustRollBack 0 = false ∧ t.dev.survMode = 2 ∧ t.dev.surv.restoring = some (9, 0) ∧
    u.dev.surv = s.dev.surv ∧ (after (exec (.halted 4 1) (halts 1 0 id))).dev.surv.halted = [4] := by decide +kernel

theorem test_halt_timeout :
    let s := fun (n : Nat) => halts 1 n fun x => { x with halted := [2], haltAt := 0 }
    goes (exec .haltTimeout (s 99999999)) (s 99999999) ∧ (after (exec .haltTimeout (s 100000000))).dev.peer.unheard = [4] := by decide +kernel

theorem test_restores :
    let s := halts 1 0 id
    let fill := after (exec (.restore 8 0 1) s)
    let none' := after (exec (.restore 8 1 1) (s.onDev fun d => d.setRegN Reg.ckptStore 0))
    let back := after (exec (.restore 8 1 1) (s.onDev fun d => (d.setRf Reg.survStat 5 5 1).setRf Reg.ckptStore 0 0 1))
    s.dev.surv.lost = none ∧ (fill.dev.survMode = 2 ∧ fill.dev.surv.restoring = some (8, 0) ∧ fill.dev.newest = some 0xB00E) ∧
    (none'.dev.survMode = 1 ∧ none'.dev.newest = some 0xB00C) ∧
    (back.dev.survMode = 3 ∧ back.dev.surv.rolled ∧ back.dev.newest = some 0xB00B) := by decide +kernel

theorem test_fills_end :
    let s := halts 2 0 fun x => { x with restoring := some (8, 0) }
    let t := after (exec (.fillDone 1 8) s)
    let r := after (exec (.resume 8) s)
    let own := s.onDev fun d => d.setRf Reg.tableStat 11 8 0xF
    t.dev.survMode = 4 ∧ t.dev.surv.verify = some 9 ∧ r.dev.survMode = 4 ∧ r.dev.surv.verify = some 9 ∧
    (own.dev.leads = false ∧ own.dev.leaderNow = 0xF ∧ own.dev.slotOf 2 = some 0 ∧ own.dev.survMode = 2) ∧
    (after (exec (.fillDone 1 8) own)).dev.surv = own.dev.surv := by decide +kernel

/-- A ring of four commands at offset 0x1000 of the hub store; the first is a command with its operands. -/
def moves (op : Nat) (seat src dst n : Nat) : State :=
  { (table id) with
    mem := ⟨cells 0x8000 [1, 2, 3] ++ base.mem.cells ++
      cells (hubStoreAddr 0x1000) ((leBytes 32 (op + seat <<< 8 + src <<< 64 + dst <<< 128 + n <<< 192)).map BitVec.toNat), [], []⟩
    dev := (table id).dev.setRegN Reg.moveRing (1 + 0x10 <<< 8 + 1 <<< 32) }

theorem test_mover_idle : (table id).moverHead = none ∧ goes (exec .seatToSeat (table id)) (table id) = true ∧
    goes (exec (.deviceToStore false) (table id)) (table id) = true := by decide +kernel

theorem test_seat_to_seat :
    let s := moves 0 4 0x8000 0x9000 256
    let t := after (exec .seatToSeat s)
    let u := after (exec .seatToSeat (moves 0 4 0x8000 0x9000 100))
    (s.moverHead.map fun x => x.1) = some 0x1000 ∧ s.dev.egress 4 0 3 = some 3 ∧ s.presentRange 0x8000 256 = true ∧
    ((t.dev.port 3).queue.map fun k => (k.vc, leAt k.bytes 32 4)) = [(6, 0x030201)] ∧ t.dev.rf Reg.moveRing 46 40 = 1 ∧
    t.dev.rf Reg.moveRing 63 48 = 0 ∧ u.dev.rf Reg.moveRing 63 48 = 1 := by decide +kernel

theorem test_device_to_store :
    let s := moves 1 0 0x8000 0x9000 256
    let t := after (exec (.deviceToStore true) s)
    s.presentRange 0x8000 256 = true ∧ t.dev.rf Reg.moveRing 63 48 = 1 ∧ t.dev.out.length = 1 := by decide +kernel

theorem test_store_to_device :
    let s := moves 2 0 0x9000 0x8000 256
    let t := after (exec (.storeToDevice (.data (List.replicate 256 9) [])) s)
    let u := after (exec (.storeToDevice .timeout) (s.onDev fun d => d.setRf Reg.survStat 2 0 3))
    s.presentRange 0x8000 256 = true ∧ t.dev.rf Reg.moveRing 46 40 = 1 ∧
    u.dev.rf Reg.moveRing 63 48 = 1 ∧ u.dev.survMode = 1 ∧ u.dev.newest = some 0xB00C := by decide +kernel

theorem test_core_probe :
    let s := runs base core1 fun k => { k with launch := some (1, 5, 0) }
    let t := after (exec (.coreProbeTimeout core1) s)
    goes (exec (.coreProbeTimeout core0) s) s ∧ (isCompute core1 = true ∧ corePresent core1 = true ∧ 1 ∈ (s.dev.cluster clu0).positions) ∧
    t.dev.newest = some 0xB004 ∧ (t.dev.cluster clu0).positions.contains 0x20 ∧ (t.dev.cluster clu0).failed = [1] ∧
    (t.dev.core core1).run = .blockReset ∧ (t.dev.core ⟨0, 0, 0x20⟩).run = .idle := by decide +kernel

theorem test_core_relaunch :
    let r : Relaunch := ⟨coreKey core1, some (coreKey core0), 1, 5, 0, 3, 7⟩
    let s := (host1 id [lnch (4 <<< 8) 0 .running]).onDev fun d => d.onSurv fun x => { x with relaunch := [r] }
    let t := after (exec (.coreRelaunch core1) s)
    goes (exec (.coreRelaunch core0) s) s ∧ (s.dev.core core0).run = .idle ∧ (s.dev.core core0).parked = false ∧ coreOf (coreKey core0) = core0 ∧
    t.dev.surv.relaunch = [] ∧ (t.dev.core core0).pc = 0x2000 ∧ (t.dev.core core0).getS 2 = ⟨3, false⟩ ∧ t.dev.reg (Reg.passStat core0) = 7 := by
  decide +kernel

/-! ## Traces and dumps -/

/-- Partition 3 traces, with two outcomes gathered and a room of one page. -/
def traces (n : Nat) : State := base.onDev fun d =>
  { ((d.setRf (Reg.traceStat 3) 0 0 1).setTrace 3 { Trace.empty with outcomes := [true, false], brSince := 0 }) with clock := n }

theorem test_traces :
    let s := base.onDev fun d => d.setRf (Reg.traceCtl 3) 55 48 1
    let t := after (exec (.traceStart 3) s)
    goes (exec (.traceStart 132) base) base ∧ s.dev.rbit Reg.memCap 7 = false ∧ t.dev.rf (Reg.traceStat 3) 3 0 = 1 ∧
    t.dev.rf (Reg.traceStat 3) 34 8 = 16 ∧ tget (t.dev.trace 3).bytes 0 0 = 1 ∧ goes (exec (.traceStop 3) base) base ∧
    (after (exec (.traceStop 3) (traces 0))).dev.rbit (Reg.traceStat 3) 0 = false ∧
    (after (exec (.traceTrigger 3) (traces 0))).dev.rbit (Reg.traceStat 3) 1 := by decide +kernel

theorem test_trace_flush :
    let t := after (exec (.brFlush 3) (traces 10000))
    let s := base.onDev fun d => (d.setRegN Reg.tracePtr (3 + 8 <<< 8)).setTrace 3 { Trace.empty with bytes := [(9, 5)] }
    let u := after (exec .traceDataRead s)
    goes (exec (.brFlush 3) (traces 9999)) (traces 9999) ∧ (t.dev.trace 3).outcomes = [] ∧
    (((after (exec (.traceResume 3) (traces 0))).dev.trace 3).staged = []) ∧ u.dev.rf Reg.tracePtr 27 8 = 16 ∧
    u.dev.out = [.reg Reg.traceData 0x500] := by decide +kernel

theorem test_dump_premises :
    let s := (runs base stw id).onDev fun d => { d with fatal := some ⟨⟨0, srcReset, 0xE001, .fatal, false, false, []⟩, 0⟩ }
    base.dev.fatal = none ∧ goes (exec (.dump false) base) base ∧ s.dev.dumpWriter = some 0 ∧ s.mem.wf = true ∧ s.dumpSlot = 0 ∧
    onDeadChannel s.dev.memsys.retired (slotAddr 0) = false := by decide +kernel

theorem test_dump_release :
    let t := after (exec (.dumpRelease 1) base)
    t.dev.rf Reg.dumpCtl 1 0 = 1 ∧ t.dev.rf Reg.dumpStat 4 3 = 1 := by decide +kernel

/-! ## Reset and invariant -/

theorem test_reset :
    State.reset.pending = [] ∧ State.reset.dev.rst.held = true ∧ State.reset.dev.reg Reg.rstCause = 0x101 ∧
    State.reset.dev.rf Reg.pwrStat 15 0 = 1600 ∧ (State.reset.dev.core stw).run = .held ∧ (State.reset.dev.core core0).run = .idle ∧
    (State.reset.dev.core ⟨0, 0, 0x20⟩).run = .off := by decide +kernel

/-- A safe state with an answered step. -/
theorem test_safe : State.reset.mem.wf = true ∧ goes (step State.reset) State.reset = false ∧
    (after (step { base with pending := [.perstPulseFiltered] })).pending = [] := by decide +kernel

/-! ## Well-formedness: one ill-formed command for each check -/

theorem test_wf_accepts :
    Instr.wf (.closeBankSwap ⟨7, 15⟩) ∧ Instr.wf (.memRead (asks false) 0 1) ∧ Instr.wf (.programEnd ⟨0, 0, 0x22⟩) ∧
    Instr.wf (.flush ⟨.peer 15, 0⟩) ∧ Instr.wf (.wrapperAnswer (.steward 3) .response) ∧ Instr.wf (.registerWrite (.host 63) 0 0) ∧
    Instr.wf (.sqDoorbell 63 4095 8 0 false) ∧ Instr.wf (.traceStop 255) ∧ Instr.wf (.traceStop 131) = true := by decide +kernel

theorem test_wf_refuses_cluster : Instr.wf (.closeBankSwap ⟨8, 0⟩) = false := by decide +kernel

theorem test_wf_refuses_core : Instr.wf (.programEnd ⟨0, 0, 0x23⟩) = false ∧ Instr.wf (.programEnd ⟨8, 0, 4⟩) = false := by decide +kernel

theorem test_wf_refuses_chute : Instr.wf (.flush ⟨.peer 16, 0⟩) = false ∧ Instr.wf (.chuteStatRead ⟨.pci, 9⟩) = false := by decide +kernel

theorem test_wf_refuses_block : Instr.wf (.wrapperAnswer (.steward 4) .response) = false := by decide +kernel

theorem test_wf_refuses_writer :
    Instr.wf (.registerWrite (.host 64) 0 0) = false ∧ Instr.wf (.registerWrite (.firmware core0) 0 0) = false := by decide +kernel

theorem test_wf_refuses_numbers :
    Instr.wf (.dataFlit 16) = false ∧ Instr.wf (.orbitReady core0 16) = false ∧ Instr.wf (.pageReq 0 48 0) = false ∧
    Instr.wf (.loadQueue 0 4096 .abort) = false ∧ Instr.wf (.join 9) = false ∧ Instr.wf (.coreSwitch 132) = false := by decide +kernel

theorem test_wf_refuses_width : Instr.wf (.sqDoorbell 0 0 128 0 false) = false := by decide +kernel

theorem test_wf_refuses_part : Instr.wf (.traceStop 132) = false := by decide +kernel

theorem test_next_loss :
    let s := (halts 2 0 fun x => { x with lostNext := [1] }).onDev fun d => d.setRegN (Reg.roster 4) 2
    let t := after (exec (.resume 8) s)
    s.dev.unserved = some 1 ∧ t.dev.survMode = 5 ∧ t.dev.surv.lostNext = [] ∧
    t.dev.newest = some 0xB00D := by decide +kernel

theorem test_parity_fails_a_core :
    let ch : ChuteId := ⟨.core 0 0 3, 0⟩
    let d := fun n => base.dev.countParity ch n
    (d 16).surv.parity = [(coreKey ⟨0, 0, 3⟩, 0, 16)] ∧ ((d 16).countParity ch 1).newest = some 0xB004 ∧
    (d 17).newest = some 0xB004 ∧ (d 17).surv.parity = [] ∧ 3 ∈ ((d 17).cluster ⟨0, 0⟩).failed := by decide +kernel

/-! ## What waits, what has arrived, what is left of an item -/

theorem test_idle_unsteered : base.dev.peer.steer = 0 ∧ goes (step base) (base.onDev fun d => { d with clock := 64 }) = true := by decide +kernel

/-- SDRAIN behind an LDRAIN without a run, on the same handle: END ends the drain and waits for the rest. -/
def stuck (r : RunState) : State :=
  (evts [(4, armed wr32)] fun t => { t with
    drainQ := [top 1 0x93 (ins 4 0 0 0 4) 0 [4]], streamQ := [top 2 0x83 (ins 4 4 0 0 0) 0 [4]] }).onDev fun d =>
      d.onCore core0 fun k => { k with run := r }

theorem test_end_of_undrained :
    let s := stuck (.ending 3 none)
    let t := after (exec (.programEnd core0) s)
    let u := after (exec (.exceptionEnd core0) (stuck (.raising 0x8010 .deferred false [])))
    s.dev.tensorQuiet core0 = false ∧ s.dev.endStuck core0 = true ∧ (t.dev.core core0).run = .ending 3 none ∧
    (t.dev.tensor core0).drainQ = [] ∧ (u.dev.tensor core0).drainQ = [] := by decide +kernel

theorem test_tile_not_taken_past_end :
    let st := { armed rd32 with requested := 2, taken := 2, staged := [⟨2, [plain 2 [1, 2, 3, 4]]⟩] }
    let s := evts [(3, st)] fun t => { t with convQ := [top 0 0xC8 (ins 4 3 0 0 1) 0 [3, 4]] }
    st.limit (s.dev.tensor core0) = 2 ∧ goes (exec (.tileTaken core0 3) s) s = true := by decide +kernel

/-- Feeder 1 takes its word and feeder 31 has still to: the tile stays; when the last feeder has taken its word, it leaves. -/
theorem test_feeders_release :
    let a := after (exec (.feederRefill core0 0) (fixed 0 lrunOp))
    let put := fun (f : List Nat) => a.onDev fun d => d.onTensor core0 fun t => { t with run := t.run.map fun r => { r with feeders := f } }
    let b := put ((List.replicate 64 1).set 31 0)
    let t := after (exec (.feederRefill core0 31) b)
    ((a.dev.tensor core0).run.map fun r => (r.held.length, r.covered, r.covers (0, 32))) = some (1, 32, false) ∧
    ((a.dev.stream core0 1).map fun x => x.orbit.isNone) = some true ∧
    ((after (exec (.feederRefill core0 1) a)).dev.tensor core0).run = (a.dev.tensor core0).run.map (fun r => { r with feeders := r.feeders.set 1 1 }) ∧
    ((t.dev.tensor core0).run.map Run.held) = some [] ∧ t.dev.stream core0 1 = (b.dev.stream core0 1).map Stream.pop := by decide +kernel

/-- Sixteen of the 64 words of the open item are written before it is complete. -/
theorem test_open_item :
    let st := { armed wr32 with buf := [], puts := [plain 2 (7 :: List.replicate 63 0)] }
    let s := evts [(3, st)] id
    let t := after (exec (.streamWriteTile core0 3) s)
    st.openCount = 64 ∧ st.shownOf st.accepted = 0 ∧ sdTiles wr32 (sdExt wr32 1) = 2 ∧
    t.dev.stream core0 3 = some { st with shown := some (0, 64) } ∧ t.mem.get 0x6000 = 7 ∧
    goes (exec (.streamWriteTile core0 3) t) t = true := by decide +kernel

theorem test_run_spans :
    let s := loaded 0 lrunOp
    s.dev.actSpanBad core0 1 32 (runTra lrunOp) = false ∧
    s.outlSpanBad core0 lrunOp (s.dev.actFmt core0 lrunOp) 64 ((s.dev.genOf clu0 0).getD 0) = false := by decide +kernel

theorem test_chutes_of_others :
    let m := chutes { Chute.empty with writing := some ⟨(hdrW 2).data, 0⟩, midItem := true, feeder := some 5 }
    let q : ChuteId := rxChute 3
    let w : WideWord := ⟨5, 0xFFFF, 0, true, true, true, false, true⟩
    let s := base.onDev fun d => d.setChute q { Chute.empty with words := [w] }
    ((m.dev.chute ch0).midItem = true ∧ (m.dev.chute ch0).feeder ≠ none) ∧ goes (exec (.chuteWrite ch0 (hdrW 2)) m) m ∧
    carriesFlits q = true ∧ carriesFlits ch0 = false ∧
    ((after (exec (.chuteRead q 3) s)).dev.chute q).words = [{ w with data := 6 }] := by decide +kernel

/-! ## The host -/

theorem test_not_ready :
    let s := base.onDev fun d => { d with host := { d.host with ready := false } }
    let r := base.onDev fun d => { d with host := { d.host with linkReset := true } }
    (after (exec (.configRequest 0 false 0 4 0) s)).dev.out = [.config 0 none] ∧
    (after (exec (.configRequest 0 false 0 4 0) r)).dev.out = [.config 0 none] ∧
    s.dev.linkUp = true ∧ s.dev.barOpen 0 = false ∧ (after (exec (.apertureRead 0 0 8) s)).dev.out = [.unsupported 0] ∧
    (after (exec (.apertureWrite 0 0 [1] false) s)).mem = s.mem := by decide +kernel

/-- The slots of an event ring are cleared at its load; a poisoned context does not load (cause 2). -/
theorem test_ring_slots :
    let s := base.onDev fun d => { d with fns := [(0, { Function.empty with config := [(0x168, 1), (0x170, 1)] }), (1, Function.empty)] }
    let t := after (exec (.loadEventRing 1 3 (.data (rctx 4) [])) s)
    let p := after (exec (.loadQueue 1 5 (.data (qctx 4 1 2) [(0, 1)])) s)
    let b := s.onDev fun d => { d with rst := { d.rst with report := true } }
    t.dev.out.getLast? = some (.hostWrite 1 none 0x5000 (List.replicate 512 0) false) ∧ (p.dev.fn 1).queues = [] ∧ p.dev.rf (Reg.fnCmd 1) 63 62 = 1 ∧
    (after (exec (.loadEventRing 0 0 (.data (rctx 4) [])) b)).dev.rst.report = false := by decide +kernel

theorem test_doorbells_read :
    let s := host1 (fun f => { f with queues := f.queues.map fun q => (q.1, { q.2 with doorbell := 7 }) }) []
    (after (exec (.sqDoorbell 1 5 0 0 false) s)).dev.out = [.read 1 (leBytes 8 7) false] ∧
    (after (exec (.cqDoorbell 1 1 0 0 false) s)).dev.out = [.read 1 (leBytes 8 0) false] ∧
    (after (exec (.eqDoorbell 1 4 0 0 false) s)).dev.out = [.read 1 (leBytes 8 0) false] ∧
    (after (exec (.eqDoorbell 1 4 8 1 false) s)).dev.fns = s.dev.fns := by decide +kernel

/-- Four of sixteen bytes from the host are poisoned; a poisoned source stays where it is. -/
theorem test_copy_poison :
    let cp := fun (a b e : Nat) => space (host1 id [ent 2 a b 16 e .running])
    let p := after (exec (.copyComplete 1 5 0 (.data (List.replicate 16 5) [(0, 4)])) (cp 0x8000 0x6000 1))
    let s := { cp 0x6000 0x8000 2 with mem := ⟨base.mem.cells, [0x6000], []⟩ }
    p.loadN 0x6000 8 = 0x0505_0505_0505_0505 ∧ p.poisoned 0x6000 4 = true ∧ done p = some (7, 0, 0x9006) ∧
    s.poisoned 0x6000 16 = true ∧ done (after (exec (.copyComplete 1 5 0 .abort) s)) = some (7, 0, 0x9005) := by decide +kernel

theorem test_firmware_waits :
    let shut := (fw 3).onDev fun d => { d with host := { d.host with ready := false } }
    let m : Image := ⟨9, 0x80, 0x40, 0, []⟩
    let e := host1 id [{ ent 1 0 0 0x100 0 .held with slot := 0 }]
    let s := e.onDev fun d => { (d.setRf Reg.fwStat 2 0 2) with host := { d.host with next := some m } }
    goes (exec .fwCommit shut) shut ∧ s.dev.dispatching (clusterOf 0) = true ∧ goes (exec (.coreSwitch 0) s) s = true := by decide +kernel

theorem test_switch_from_recovery :
    let m : Image := ⟨9, 0x80, 0x40, 0, []⟩
    let s := (fw 2).onDev fun d => { d with host := { d.host with next := some m, prior := 5 } }
    let t := after (exec (.coreSwitch 0) s)
    t.dev.rf Reg.fwStat 2 0 = 3 ∧ t.dev.host.image = some m ∧ t.dev.newest = some 0x900B ∧
    (t.dev.core (switchOrder 131)).pc = BitVec.ofNat 64 (bankStart 0 + 0x80) := by decide +kernel

/-! ## The table -/

/-- A flit that returns two credits of VC 6 stands at the head: the VC does not starve. -/
theorem test_credit_arrived :
    let s := (got (flit (2 + 6 <<< 32 + 2 <<< 35) []) fun x => { x with queue := [pk6 64] }).onDev fun d => { d with clock := 2 ^ 60 }
    flitKind (flit (2 + 6 <<< 32 + 2 <<< 35) []) false = 3 ∧ s.dev.creditArrived 3 6 = true ∧ goes (exec (.starveTimeout 3) s) s = true := by decide +kernel

/-- A word of the flit fails its parity check: the packet comes in poisoned. -/
theorem test_poisoned_flit :
    let s := (got data5 id).onDev fun d => d.setChute (rxChute 3) { Chute.empty with
      words := (flitWords (data5, false)).modifyHead fun w => { w with par := w.par ^^^ 1 } }
    let t := after (exec (.dataFlit 3) s)
    flitKind data5 false = 2 ∧ (s.dev.headFails 3).2 = true ∧ (t.dev.port 3).buffer = [⟨6, poisonInner (List.replicate 24 0), none, 0⟩] := by decide +kernel

theorem test_proof_late :
    let s := greeted.onDev fun d => { d with clock := 2 ^ 60 }
    let t := after (exec (.proof 3 [] ⟨true, true⟩) s)
    t.dev.portState 3 = 5 ∧ t.dev.rf (Reg.portStat 3) 11 8 = 4 := by decide +kernel

/-- A request waits behind one that waits; what the ledger waits for has arrived. -/
theorem test_ledger_waits :
    let s := (table id).onDev fun d => d.onPeer fun x => { x with waiting := [toSeat 4] }
    let h := { asks false with len := 24 }
    let r := { responseHdr h false (srcHub 0x31 0) with len := 0 }
    let l := ((hears 2 (peerBytes 2 4 1 r [])).onDev fun d => d.onPeer fun x => { x with ledger := [(0, ⟨4, h, 0, 3, true⟩)] }).onDev fun d =>
      { d with clock := 2 ^ 60 }
    (after (exec (.peerPacketSend (toSeat 4)) s)).dev.peer.waiting = [toSeat 4, toSeat 4] ∧
    l.dev.responseArrived 0 = true ∧ goes (exec (.ledgerTimeout 0) l) l = true := by decide +kernel

/-- Two ports lead to seat 4: the packet that has waited longer leaves first. -/
theorem test_older_first :
    let k := fun (n : Nat) => (⟨0, peerBytes 2 4 1 { asks false with len := 8 } (List.replicate 8 0), none, n⟩ : PeerPacket)
    let s := (table fun x => { x with buffer := [k 5] }).onDev fun d =>
      (d.setRf (Reg.portStat 2) 2 0 4).setPort 2 { d.port 2 with buffer := [k 3] }
    s.dev.olderWaits 3 (k 5) = true ∧ goes (exec (.peerPacketReceive 3) s) s ∧ s.dev.olderWaits 2 (k 3) = false := by decide +kernel

/-- Without quorum nothing is committed; a proposal that nobody is missing from does not time out. -/
theorem test_roster_waits :
    let n := (proposed [2, 4]).onDev fun d => d.setRf Reg.tableStat 13 12 2
    let m := (proposed [2, 4, 5]).onDev fun d => { d with clock := 2 ^ 60 }
    n.dev.noQuorum = true ∧ goes (exec .rosterCommit n) n ∧
    m.muteSeats ⟨2, [], [2, 4, 5], [2, 4, 5], 0⟩ = [] ∧ goes (exec .rosterTimeout m) m = true := by decide +kernel

theorem test_time_asked :
    let s := fun (n : Nat) => (answered false).onDev fun d => { (d.onPeer fun x => { x with asked := some 0 }) with clock := n }
    (s 0).dev.timeRef = 4 ∧ goes (exec .timeRequestTimer (s 9999999)) (s 9999999) ∧
    (after (exec .timeRequestTimer (s 10000000))).dev.peer.asked = some 10000000 := by decide +kernel

/-! ## Survival -/

theorem test_checkpoint_needs_store :
    let s := (halts 0 0 fun x => { x with ckpt := some ⟨7, 0, [], []⟩ }).onDev fun d => d.setRf Reg.ckptStore 0 0 0
    s.dev.slotOf s.dev.seat = some 0 ∧ goes (exec (.ckptDone 7 0 0) s) s = true := by decide +kernel

/-- A single slot has no buddy: the restore is a rollback. -/
theorem test_halted_rolls_back :
    let s := (halts 1 0 fun x => { x with lost := some (0, 9), halted := [2], forced := true }).onDev fun d =>
      (d.setRf Reg.survStat 5 5 1).setRf Reg.ckptStore 0 0 1
    let t := after (exec (.halted 4 1) s)
    s.dev.mustRollBack 0 = true ∧ t.dev.survMode = 3 ∧ t.dev.surv.rolled = true := by decide +kernel

theorem test_fill_waits_for_copies :
    let s := halts 2 0 fun x => { x with restoring := some (8, 0), moves := [moveCmd 0 4 0 0 256] }
    s.dev.slotOf s.dev.seat = some 0 ∧ s.dev.movesDone = false ∧ (after (exec (.fillDone 0 8) s)).dev.surv = s.dev.surv ∧
    (halts 2 0 id).dev.movesDone = true := by decide +kernel

/-- Commands in error: a reserved OP, and one whose bytes are poisoned. -/
theorem test_mover_errors :
    let s := moves 7 0 0 0 256
    let p := { moves 0 4 0x8000 0 256 with mem := ⟨(moves 0 4 0x8000 0 256).mem.cells, [hubStoreAddr 0x1000], []⟩ }
    let errs := fun (t : State) => (t.dev.rf Reg.moveRing 46 40, t.dev.rf Reg.moveRing 63 48)
    s.dev.surv.moves = [] ∧ errs (after (exec .seatToSeat s)) = (1, 1) ∧ (p.moverHead.map fun h => h.2.2) = some true ∧
    errs (after (exec .seatToSeat p)) = (1, 1) := by decide +kernel

/-- A manifest of the store is known by its place; some 64 KiB fail the check of their own CRC. -/
theorem test_manifests :
    let x := (halts 3 0 id).dev.storeAddr 0 0 0
    let s := (moves 2 0 x 0 65536).onDev fun d => d.setRf Reg.survStat 2 0 3
    s.dev.manifestSlot x 65536 = some 0 ∧ s.dev.manifestSlot x 256 = none ∧ s.dev.survMode = 3 := by decide +kernel

theorem test_bad_manifest : ∃ bs : List Byte, bs.length = 65536 ∧ manifestOk bs = false := by
  have hl : (List.replicate 65532 (0 : Byte)).length = 65532 := List.length_replicate
  generalize List.replicate 65532 (0 : Byte) = m at hl
  have key : ∀ b : Byte, manifestOk (m ++ [b, 0, 0, 0]) = decide (crc32c m = b.toNat) := by
    intro b
    simp [manifestOk, leAt, ← hl, leNat]
  by_cases h : crc32c m = 0
  · exact ⟨m ++ [1, 0, 0, 0], by simp [hl], (key 1).trans (by simp [h])⟩
  · exact ⟨m ++ [0, 0, 0, 0], by simp [hl], (key 0).trans (by simpa using h)⟩

end Sys2Proof.Tests
end

section
/-!
PROOFS. Bit fields: what a field reads as after a field is set, and after a write of every field of a register.
-/
namespace Sys2Proof.Machine

/-! ## Bit fields (R6) -/

theorem bitsOf_lt (v hi lo : Nat) : bitsOf v hi lo < 2 ^ (hi + 1 - lo) := Nat.mod_lt _ (Nat.two_pow_pos _)

theorem testBit_bitsOf (v hi lo i : Nat) :
    (bitsOf v hi lo).testBit i = (decide (i < hi + 1 - lo) && v.testBit (lo + i)) := by
  rw [bitsOf, Nat.testBit_mod_two_pow, Nat.testBit_shiftRight]

/-- A number is its bits below the field, the field, and its bits above. -/
theorem split_at_field (v lo w : Nat) : v = 2 ^ lo * (2 ^ w * (v >>> lo / 2 ^ w) + v >>> lo % 2 ^ w) + v % 2 ^ lo := by
  rw [Nat.div_add_mod, Nat.shiftRight_eq_div_pow, Nat.div_add_mod]

theorem setBits_eq (v hi lo x : Nat) : setBits v hi lo x =
    2 ^ lo * (2 ^ (hi + 1 - lo) * (v >>> lo / 2 ^ (hi + 1 - lo)) + x % 2 ^ (hi + 1 - lo)) + v % 2 ^ lo := by
  have hv := split_at_field v lo (hi + 1 - lo)
  rw [Nat.mul_add] at hv ⊢
  simp only [setBits, bitsOf, Nat.shiftLeft_eq]
  rw [Nat.mul_comm _ (2 ^ lo), Nat.mul_comm _ (2 ^ lo)]
  omega

theorem testBit_setBits (v hi lo x i : Nat) :
    (setBits v hi lo x).testBit i = if lo ≤ i ∧ i ≤ hi then x.testBit (i - lo) else v.testBit i := by
  rw [setBits_eq, Nat.testBit_two_pow_mul_add _ (Nat.mod_lt _ (Nat.two_pow_pos lo)),
    Nat.testBit_two_pow_mul_add _ (Nat.mod_lt _ (Nat.two_pow_pos _))]
  by_cases hlo : i < lo
  · rw [if_pos hlo, if_neg (by omega), Nat.testBit_mod_two_pow, decide_eq_true hlo, Bool.true_and]
  · by_cases hhi : i ≤ hi
    · have hin : i - lo < hi + 1 - lo := by omega
      rw [if_neg hlo, if_pos hin, if_pos ⟨Nat.le_of_not_lt hlo, hhi⟩, Nat.testBit_mod_two_pow, decide_eq_true hin, Bool.true_and]
    · have hout : ¬ i - lo < hi + 1 - lo := by omega
      have hpos : lo + (hi + 1 - lo + (i - lo - (hi + 1 - lo))) = i := by omega
      rw [if_neg hlo, if_neg hout, if_neg fun h => hhi h.2, ← Nat.shiftRight_eq_div_pow, Nat.testBit_shiftRight,
        Nat.testBit_shiftRight, hpos]

/-- A field that is set reads as the value given. -/
theorem bitsOf_setBits_same (v hi lo x : Nat) : bitsOf (setBits v hi lo x) hi lo = x % 2 ^ (hi + 1 - lo) := by
  refine Nat.eq_of_testBit_eq fun i => ?_
  rw [testBit_bitsOf, testBit_setBits, Nat.testBit_mod_two_pow]
  by_cases hi' : i < hi + 1 - lo
  · rw [if_pos (by omega), Nat.add_sub_cancel_left]
  · simp [hi']

/-- A field apart from the one that is set keeps its value. -/
theorem bitsOf_setBits_other {hi lo hi' lo' : Nat} (v x : Nat) (h : hi < lo' ∨ hi' < lo) :
    bitsOf (setBits v hi' lo' x) hi lo = bitsOf v hi lo := by
  refine Nat.eq_of_testBit_eq fun i => ?_
  rw [testBit_bitsOf, testBit_bitsOf, testBit_setBits]
  by_cases hi' : i < hi + 1 - lo
  · rw [if_neg (by omega)]
  · simp [hi']

/-- A field of a word does not see what lies above the word. -/
theorem bitsOf_mod {hi : Nat} (lo n v : Nat) (h : hi < n) : bitsOf (v % 2 ^ n) hi lo = bitsOf v hi lo := by
  refine Nat.eq_of_testBit_eq fun i => ?_
  rw [testBit_bitsOf, testBit_bitsOf, Nat.testBit_mod_two_pow]
  by_cases hi' : i < hi + 1 - lo
  · have : lo + i < n := by omega
    simp [this]
  · simp [hi']

theorem setBits_lt {v hi n : Nat} (lo x : Nat) (hv : v < 2 ^ n) (h : hi < n) : setBits v hi lo x < 2 ^ n := by
  refine Nat.lt_pow_two_of_testBit _ fun i hi' => ?_
  rw [testBit_setBits, if_neg (by omega)]
  exact Nat.testBit_lt_two_pow (Nat.lt_of_lt_of_le hv (Nat.pow_le_pow_right (by decide) hi'))

/-- Setting every bit of a word replaces it. -/
theorem setBits_all {v x n : Nat} (hv : v < 2 ^ (n + 1)) (hx : x < 2 ^ (n + 1)) : setBits v n 0 x = x := by
  refine Nat.eq_of_testBit_eq fun i => ?_
  rw [testBit_setBits]
  by_cases hi : i ≤ n
  · simp [hi]
  · have above : ∀ y < 2 ^ (n + 1), y.testBit i = false := fun y hy =>
      Nat.testBit_lt_two_pow (Nat.lt_of_lt_of_le hy (Nat.pow_le_pow_right (by decide) (by omega)))
    simp [hi, above v hv, above x hx]

/-! ## Writes of every field of a register (R9, R12) -/

/-- Two fields share no bit. -/
def RegField.Apart (f g : RegField) : Prop := f.hi < g.lo ∨ g.hi < f.lo

/-- Every field of a list set to the value that a function gives it. -/
def setFields (g : RegField → Nat) (fs : List RegField) (a : Nat) : Nat :=
  fs.foldl (fun a f => setBits a f.hi f.lo (g f)) a

theorem setFields_cons (g : RegField → Nat) (f : RegField) (fs : List RegField) (a : Nat) :
    setFields g (f :: fs) a = setFields g fs (setBits a f.hi f.lo (g f)) := rfl

theorem setFields_lt (g : RegField → Nat) {fs : List RegField} {a n : Nat} (ha : a < 2 ^ n) (h : ∀ f ∈ fs, f.hi < n) :
    setFields g fs a < 2 ^ n := by
  induction fs generalizing a with
  | nil => exact ha
  | cons f r ih =>
    obtain ⟨hf, hr⟩ := List.forall_mem_cons.mp h
    exact ih (setBits_lt _ _ ha hf) hr

theorem bitsOf_setFields_apart (g : RegField → Nat) {f : RegField} {fs : List RegField} (a : Nat) (h : ∀ e ∈ fs, f.Apart e) :
    bitsOf (setFields g fs a) f.hi f.lo = bitsOf a f.hi f.lo := by
  induction fs generalizing a with
  | nil => rfl
  | cons e r ih =>
    obtain ⟨he, hr⟩ := List.forall_mem_cons.mp h
    rw [setFields_cons, ih _ hr, bitsOf_setBits_other _ _ he]

theorem bitsOf_setFields_mem (g : RegField → Nat) {f : RegField} {fs : List RegField} (a : Nat)
    (hd : fs.Pairwise RegField.Apart) (hf : f ∈ fs) :
    bitsOf (setFields g fs a) f.hi f.lo = g f % 2 ^ (f.hi + 1 - f.lo) := by
  induction fs generalizing a with
  | nil => cases hf
  | cons e r ih =>
    obtain ⟨he, hr⟩ := List.pairwise_cons.mp hd
    rw [setFields_cons]
    rcases List.mem_cons.mp hf with rfl | hmem
    · rw [bitsOf_setFields_apart g _ he, bitsOf_setBits_same]
    · exact ih _ hr hmem

theorem fieldWrite_lt (f : RegField) {old new n : Nat} (ho : old < 2 ^ n) (hn : new < 2 ^ n) : fieldWrite f old new < 2 ^ n := by
  unfold fieldWrite
  split
  · split
    · exact hn
    · exact ho
  · exact Nat.lt_of_le_of_lt Nat.and_le_left ho
  · exact Nat.or_lt_two_pow ho hn
  all_goals exact ho

/-- What a field's type makes of a write, as a choice between the types. -/
theorem fieldWrite_eq (f : RegField) (was new : Nat) : fieldWrite f was new =
    if f.ty = .rw then (if fieldLegal f new then new else was)
    else if f.ty = .w1c then was &&& (new ^^^ (2 ^ (f.hi + 1 - f.lo) - 1))
    else if f.ty = .w1s then was ||| new else was := by
  unfold fieldWrite
  cases f.ty <;> rfl

/-- A reserved encoding of a WO field leaves the whole register (R633). -/
theorem fieldsWrite_reserved {fs : List RegField} (old : Nat) {v : Nat}
    (h : ∃ g ∈ fs, g.ty = .wo ∧ fieldLegal g (bitsOf v g.hi g.lo) = false) : fieldsWrite fs old v = old := by
  obtain ⟨g, hg, hty, hbad⟩ := h
  exact if_pos (List.any_eq_true.mpr ⟨g, hg, by simp [hty, hbad]⟩)

/-- No WO field of a list receives a reserved encoding. -/
theorem any_reservedWo_eq_false {fs : List RegField} {v : Nat}
    (h : ∀ g ∈ fs, g.ty = .wo → fieldLegal g (bitsOf v g.hi g.lo) = true) :
    (fs.any fun f => decide (f.ty = .wo) && !(fieldLegal f (bitsOf v f.hi f.lo))) = false := by
  rw [List.any_eq_false]
  intro g hg hbad
  simp only [Bool.and_eq_true, decide_eq_true_eq, Bool.not_eq_true'] at hbad
  rw [h g hg hbad.1] at hbad
  exact absurd hbad.2 (by decide)

/-- Each field of a written register takes what its type makes of the write. -/
theorem bitsOf_fieldsWrite {fs : List RegField} {f : RegField} {old v : Nat} (hd : fs.Pairwise RegField.Apart)
    (hlegal : ∀ g ∈ fs, g.ty = .wo → fieldLegal g (bitsOf v g.hi g.lo) = true) (hf : f ∈ fs) :
    bitsOf (fieldsWrite fs old v) f.hi f.lo = fieldWrite f (bitsOf old f.hi f.lo) (bitsOf v f.hi f.lo) := by
  have hw : fieldsWrite fs old v = setFields (fun f => fieldWrite f (bitsOf old f.hi f.lo) (bitsOf v f.hi f.lo)) fs old := by
    rw [fieldsWrite, any_reservedWo_eq_false hlegal]
    rfl
  rw [hw, bitsOf_setFields_mem _ _ hd hf]
  exact Nat.mod_eq_of_lt (fieldWrite_lt f (bitsOf_lt _ _ _) (bitsOf_lt _ _ _))

end Sys2Proof.Machine
end

section
/-!
PROOFS. O40: writes and reads of registers of the hub by REGISTER_WRITE and BAR0_ACCESS, and FN_STAT_READ.
-/
namespace Sys2Proof.Machine

/-! ## Whole writes of a register -/

/-- A write of all eight bytes of a register gives the register's word as it stands. -/
theorem mergeWord_whole {fs : List RegField} (old : Nat) (v : W64) (h : ∀ g ∈ fs, g.hi < 64) :
    mergeWord fs old 0 8 v.toNat = v.toNat := by
  have hkept : fs.foldl (fun a f => if f.ty = .rw then setBits a f.hi f.lo (bitsOf old f.hi f.lo) else a) 0 =
      setFields (fun f => bitsOf old f.hi f.lo) (fs.filter fun f => f.ty = .rw) 0 := by
    simp [setFields, List.foldl_filter]
  have hlt : setFields (fun f => bitsOf old f.hi f.lo) (fs.filter fun f => f.ty = .rw) 0 < 2 ^ 64 :=
    setFields_lt _ (by decide) fun g hg => h g (List.mem_filter.mp hg).1
  rw [mergeWord, hkept]
  exact setBits_all (n := 63) hlt v.isLt

theorem fieldTouched_whole {f : RegField} (h : f.lo < 64) : fieldTouched f 0 8 = true := by
  simp [fieldTouched, h]

/-- A register that the writer may not write now stays (R427, R633). -/
theorem State.regWrite_denied {s : State} {w : Writer} {a : Nat} (n v : Nat) (h : s.dev.mayWriteNow w (a / 8 * 8) = false) :
    s.regWrite w a n v = s := by
  simp [State.regWrite, h]

/-! ## The hub's registers -/

theorem ite_ne_of_ne {α : Type} {c : Prop} [Decidable c] {a b x : α} (ha : a ≠ x) (hb : b ≠ x) : (if c then a else b) ≠ x := by
  split
  · exact ha
  · exact hb

/-- The offsets of the region that fall in the hub's block. -/
theorem lt_of_blockAt_hub {o off : Nat} (h : blockAt o = some (.hub, off)) : o < 0x1_0000 := by
  refine Decidable.byContradiction fun hge => ?_
  rw [blockAt, if_neg hge] at h
  refine absurd h ?_
  repeat' apply ite_ne_of_ne
  all_goals simp

/-- An offset names a register of the hub whose fields lie in its word, that has no action of its own on a write and shows no unit's
state on a read. -/
structure HubWord (o off : Nat) (fs : List RegField) : Prop where
  block : blockAt o = some (.hub, off)
  aligned : o % 8 = 0
  noChute : chuteRegAt .hub off = none
  fields : fieldsAt o = some fs
  bounds : ∀ g ∈ fs, g.lo ≤ g.hi ∧ g.hi < 64
  plain : o ∉ [Reg.trainMask, Reg.survReg, Reg.ckptStore, Reg.coolReq, Reg.time, Reg.timeStat]

namespace HubWord
variable {o off : Nat} {fs : List RegField} (h : HubWord o off fs)
include h

theorem word_base : o / 8 * 8 = o := by
  have := h.aligned
  omega

theorem not_reportReg : ¬ reportReg o := fun hr => by
  have := lt_of_blockAt_hub h.block
  have := reportReg_bounds hr
  omega

theorem not_hidden (d : Device) : d.hidden o = false := by simp [Device.hidden, h.block, blockPresent, Device.wrapped]

theorem wake_eq (d : Device) : d.wake o = d := by simp [Device.wake, h.block]

/-- A read shows the stored value. -/
theorem viewIn_eq (d : Device) : d.viewIn .hub off o = (d, d.regN o) := by
  have hplain := h.plain
  simp only [List.mem_cons, List.not_mem_nil, or_false, not_or] at hplain
  obtain ⟨-, -, -, -, htime, hstat⟩ := hplain
  simp [Device.viewIn, h.noChute, isIslandCycle, htime, hstat]

/-- A read of the whole register gives its bytes (R9). -/
theorem regRead_eq (d : Device) : d.regRead o 8 = (d.readClears o 0 8, leBytes 8 (d.regN o)) := by
  simp [Device.regRead, h.word_base, h.not_hidden, h.wake_eq, h.block, h.fields, h.viewIn_eq, h.aligned]

/-- A write goes to the fields (R9). -/
theorem writeWord_eq (s : State) (w : Writer) (i n : Nat) (v : W64) :
    s.writeWord w o i n v = s.onDev fun d => d.writeFields o v := by
  have hplain := h.plain
  simp only [List.mem_cons, List.not_mem_nil, or_false, not_or] at hplain
  obtain ⟨hmask, hreg, hstore, hcool, -, -⟩ := hplain
  simp only [State.writeWord, h.block, h.noChute, State.writeHub, if_neg hmask, if_neg hreg, if_neg hstore, if_neg hcool]

/-- A whole write by a writer that may write the register, with no reserved encoding of a WO field, goes to the fields (R9, R12). -/
theorem regWrite_eq {s : State} {w : Writer} (v : W64) (hmay : s.dev.mayWriteNow w o = true)
    (hact : ∃ g ∈ fs, g.ty ≠ .ro ∧ g.ty ≠ .rc)
    (hwo : ∀ g ∈ fs, g.ty = .wo → fieldLegal g (bitsOf v.toNat g.hi g.lo) = true) :
    s.regWrite w o 8 v.toNat = s.onDev fun d => d.writeFields o v := by
  have hacts : (fs.any fun f => !(decide (f.ty = .ro) || decide (f.ty = .rc)) && fieldTouched f 0 8) = true := by
    obtain ⟨g, hg, hro, hrc⟩ := hact
    obtain ⟨hle, hlt⟩ := h.bounds g hg
    exact List.any_eq_true.mpr ⟨g, hg, by simp [hro, hrc, fieldTouched_whole (Nat.lt_of_le_of_lt hle hlt)]⟩
  have hmerge := mergeWord_whole (s.dev.regN o) v fun g hg => (h.bounds g hg).2
  simp only [State.regWrite, h.word_base, h.aligned, h.not_hidden, hmay, h.fields, hmerge, hacts, any_reservedWo_eq_false hwo,
    h.wake_eq, State.onDev_id, BitVec.ofNat_toNat, BitVec.setWidth_eq]
  exact h.writeWord_eq s w 0 8 v

end HubWord

/-! ## REGISTER_WRITE -/

/-- The writer of a REGISTER_WRITE reaches registers: BAR0 of the function is open, or the core is a control core. -/
def Device.reachedBy (d : Device) (w : Writer) : Bool :=
  match w with
  | .host f => d.barOpen f
  | .firmware c => corePresent c && isControl c

theorem exec_registerWrite_reached {s : State} {w : Writer} {o : Nat} (v : W64) (hp : s.dev.power.input = true)
    (hw : s.dev.reachedBy w = true) (h8 : o % 8 = 0) :
    exec (.registerWrite w o v) s = .next { s with mem := (s.regWrite w o 8 v.toNat).mem, dev := (s.regWrite w o 8 v.toNat).dev } := by
  rw [exec_registerWrite, execRegisterWrite, memNext_on _ hp]
  cases w with
  | host f => simp only [if_pos (And.intro (show s.dev.barOpen f = true from hw) h8)]
  | firmware c => simp only [if_pos (And.intro (show (corePresent c && isControl c) = true from hw) h8)]

/-! ## BAR0_ACCESS (R425 to R427, R452) -/

@[simp] theorem Device.send_out (d : Device) (x : Output) : (d.send x).out = d.out ++ [x] := by
  unfold Device.send
  split <;> rfl

@[simp] theorem Device.readClears_out (d : Device) (o i n : Nat) : (d.readClears o i n).out = d.out := by
  unfold Device.readClears
  split
  · rfl
  · simp only
    split <;> rfl

/-- An access to a function whose BAR0 is closed: a write is dropped, a read turned away. -/
theorem exec_bar0Access_closed {s : State} {f : Nat} (write : Bool) (a n : Nat) (v : W64) (p : Bool) (hp : s.dev.power.input = true)
    (hf : s.dev.barOpen f = false) :
    exec (.bar0Access f write a n v p) s = .next (if write then s else s.onDev fun d => d.turnAway f) := by
  rw [exec_bar0Access, execBar0Access, memNext_keep hp]
  · simp [hf]
  · cases write <;> simp [hf]

/-- A read turned away answers only while the link is up. -/
theorem State.onDev_turnAway (s : State) (f : Nat) :
    (s.onDev fun d => d.turnAway f) = if s.dev.linkUp then s.onDev fun d => d.send (.unsupported f) else s := by
  simp only [State.onDev, Device.turnAway]
  split <;> rfl

theorem exec_bar0Access_read {s : State} {f : Nat} (a n : Nat) (v : W64) (p : Bool) (hp : s.dev.power.input = true)
    (hf : s.dev.barOpen f = true) :
    exec (.bar0Access f false a n v p) s = .next (s.onDev fun d => d.barRead f a n) := by
  rw [exec_bar0Access, execBar0Access, memNext_keep hp] <;> simp [hf]

theorem exec_bar0Access_write {s : State} {f : Nat} (a n : Nat) (v : W64) (p : Bool) (hp : s.dev.power.input = true)
    (hf : s.dev.barOpen f = true) :
    exec (.bar0Access f true a n v p) s = .next { s with
      mem := ((s.onDev fun d => d.received n).barWrite f a n v.toNat p).mem
      dev := ((s.onDev fun d => d.received n).barWrite f a n v.toNat p).dev } := by
  rw [exec_bar0Access, execBar0Access, memNext_on _ hp]
  simp [hf]

/-- A read of another size or alignment answers zeros and reaches no register (R427). -/
theorem Device.barRead_unsized (d : Device) (f : Nat) {a n : Nat} (h : barSized a n = false) :
    d.barRead f a n = d.send (.read f (List.replicate n 0) false) := by
  simp [Device.barRead, h]

/-- A whole read of a HubWord register sends its bytes. -/
theorem HubWord.barRead_out {o off : Nat} {fs : List RegField} (h : HubWord o off fs) (d : Device) (hplace : barPlace 0 o = .reg o) :
    (d.barRead 0 o 8).out = d.out ++ [.read 0 (leBytes 8 (d.regN o)) false] := by
  have hsized : barSized o 8 = true := by simp [barSized, h.aligned]
  simp [Device.barRead, hsized, hplace, h.regRead_eq]

theorem Device.reg_setFn (d : Device) (f o : Nat) (x : Function) : (d.setFn f x).reg o = d.reg o := rfl

/-- The record and the error status of a poisoned TLP leave a register that reporting does not count in. -/
theorem Device.poisonFromHost_reg {d : Device} {o : Nat} (f tag addr : Nat) (ho : ¬ reportReg o) :
    (d.poisonFromHost f tag addr).reg o = d.reg o := by
  rw [Device.poisonFromHost, Device.logPoisoned, (Device.Reports.send _ _).regs o ho, Device.reg_setFn, Device.pcieEmit,
    (Device.Reports.emit _ _ _ _ _ _ _).regs o ho]

/-- A poisoned TLP for a device address is recorded as POISON_FROM_HOST (R452). -/
theorem Device.poisonFromHost_newest {d : Device} (f tag addr : Nat) (h : d.untraced) :
    (d.poisonFromHost f tag addr).newest = some 0x9006 := by
  have hlog : (d.poisonFromHost f tag addr).log = (d.pcieEmit f 0x9006 .deferred true [(0, 2, tag), (4, 8, addr)] none).log :=
    Device.send_log _ _
  rw [Device.newest, hlog, Device.pcieEmit, Device.emit_log h]
  rfl

/-- The count of bytes received starts no trace. -/
theorem Device.untraced_received {d : Device} (n : Nat) (h : d.untraced) : (d.received n).untraced := by
  intro p hp
  have hne : Reg.traceStat p ≠ Reg.dbgCnt 0 := by simp only [Reg.traceStat, Reg.dbgCnt]; omega
  rw [Device.rbit, Device.regN, Device.received, Device.reg_addRf_other _ _ _ _ hne]
  exact h p hp

/-- A poisoned write by a function whose BAR0 is open reaches no register and is recorded. -/
theorem exec_bar0Access_poisoned {s : State} {f o : Nat} (a n : Nat) (v : W64) (hp : s.dev.power.input = true)
    (hf : s.dev.barOpen f = true) (ho : ¬ reportReg o) :
    ∃ t, exec (.bar0Access f true a n v true) s = .next t ∧ t.mem = s.mem ∧ t.dev.reg o = s.dev.reg o ∧
      (s.dev.untraced → t.dev.newest = some 0x9006) := by
  refine ⟨_, exec_bar0Access_write a n v true hp hf, rfl, ?_, fun h => ?_⟩
  · exact (Device.poisonFromHost_reg f 0 _ ho).trans ((Device.Reports.addRf s.dev 47 0 n (Device.Reports.dbgCnt (by decide))).regs o ho)
  · exact Device.poisonFromHost_newest f 0 _ (Device.untraced_received n h)

/-! ## FN_STAT_READ (R12, R430, R449) -/

/-- The fields of PCI.FN_STAT. -/
def fnStatFields : List RegField := [fRo 0 0 0, fRo 1 1 0, fRo 2 2 0, fRc 31 16, fRc 47 32]

theorem blockAt_pci {o : Nat} (h : 0x10_0000 ≤ o) (h' : o < 0x20_0000) : blockAt o = some (.pci, o - 0x10_0000) := by
  unfold blockAt
  iterate 6 rw [if_neg (by omega)]
  rw [if_pos h']

/-- No chute register of the PCIe controller stands beyond those of its eight chutes. -/
theorem chuteFieldsAt_pci {off : Nat} (h : 0x880 ≤ off) : chuteFieldsAt .pci off = none := by
  have hdepth : chuteDepth .pci ((off - 0x800) / 16) = none := if_neg (by omega)
  simp only [chuteFieldsAt, Reg.chuteOff, hdepth, ite_self]

theorem fieldsAt_fnStat {f : Nat} (hf : f < 64) : fieldsAt (Reg.fnStat f) = some fnStatFields := by
  have hoff : Reg.fnStat f - 0x10_0000 = 0x1_0000 + 0x1000 * f := by simp only [Reg.fnStat, Reg.fn]; omega
  have hat : blockAt (Reg.fnStat f) = some (.pci, 0x1_0000 + 0x1000 * f) := by
    rw [blockAt_pci, hoff] <;> simp only [Reg.fnStat, Reg.fn] <;> omega
  have hpage : pciFields (0x1_0000 + 0x1000 * f) = fnPageFields f 0 := by
    have hfn : (0x1_0000 + 0x1000 * f - 0x1_0000) / 0x1000 = f := by omega
    have hword : (0x1_0000 + 0x1000 * f - 0x1_0000) % 0x1000 = 0 := by omega
    unfold pciFields
    rw [if_neg (by omega), if_pos (by omega), hfn, hword]
  simp only [fieldsAt, hat, chuteFieldsAt_pci (off := 0x1_0000 + 0x1000 * f) (by omega), blockFields, hpage]
  rfl

/-- FN_STAT once read: DB_BAD and EVT_DROP are clear (R9). -/
theorem Device.clearRc_fnStat (d : Device) {f : Nat} (hf : f < 64) : d.clearRc (Reg.fnStat f) =
    d.setRegN (Reg.fnStat f) (setBits (setBits (d.regN (Reg.fnStat f)) 31 16 0) 47 32 0) := by
  rw [Device.clearRc, fieldsAt_fnStat hf]
  rfl

theorem Device.rf_setRegN_same (d : Device) (o v : Nat) {hi : Nat} (lo : Nat) (h : hi < 64) :
    (d.setRegN o v).rf o hi lo = bitsOf v hi lo := by
  simp only [Device.rf, Device.regN, Device.setRegN, Device.reg_setReg_same, BitVec.toNat_ofNat]
  exact bitsOf_mod lo 64 v h

theorem exec_fnStatRead_clears {s : State} {f : Nat} (hp : s.dev.power.input = true) (hf : f < 64) :
    ∃ t, exec (.fnStatRead f) s = .next t ∧ t.mem = s.mem ∧
      t.dev.out = s.dev.out ++ [.reg (Reg.fnStat f) (s.dev.reg (Reg.fnStat f))] ∧
      t.dev.rf (Reg.fnStat f) 31 16 = 0 ∧ t.dev.rf (Reg.fnStat f) 47 32 = 0 := by
  refine ⟨_, (exec_fnStatRead s f).trans (devNext_on _ hp), rfl, ?_⟩
  simp only [State.onDev_dev, if_pos hf, Device.clearRc_fnStat _ hf, Device.setRegN_out, Device.send_out, true_and]
  constructor
  · rw [Device.rf_setRegN_same _ _ _ _ (by decide), bitsOf_setBits_other _ _ (by decide), bitsOf_setBits_same,
      Nat.zero_mod]
  · rw [Device.rf_setRegN_same _ _ _ _ (by decide), bitsOf_setBits_same, Nat.zero_mod]

/-! ## O40 -/

/-- Settles O40, by one lemma for each command: a write of every field by its type, REGISTER_WRITE on a hub register, each kind of
BAR0_ACCESS, and FN_STAT_READ. -/
theorem registersTakeWritesFieldByField : Obligations.RegistersTakeWritesFieldByField := by
  refine ⟨fun fs old v _ _ hd => ⟨fieldsWrite_reserved old, fun hwo f hf => ?_⟩, ?_⟩
  · exact (bitsOf_fieldsWrite hd hwo hf).trans (fieldWrite_eq f _ _)
  intro s o off fs v hp d hb h8 hc hf hfs ho
  have hub : HubWord o off fs := ⟨hb, h8, hc, hf, hfs, ho⟩
  refine ⟨fun w hw => ⟨fun hmay => ?_, fun hmay hact hwo => ?_⟩, fun f a n p hclosed => ⟨?_, ?_⟩, fun f a n hopen hodd => ?_,
    fun hopen hplace => ?_, fun f a n hopen => ?_, fun f hlt => ?_⟩
  · rw [exec_registerWrite_reached v hp hw h8, State.regWrite_denied 8 _ (hub.word_base.symm ▸ hmay)]
  · rw [exec_registerWrite_reached v hp hw h8, hub.regWrite_eq v hmay hact hwo]
    rfl
  · exact exec_bar0Access_closed true a n v p hp hclosed
  · rw [exec_bar0Access_closed false a n v p hp hclosed]
    exact congrArg _ (State.onDev_turnAway s f)
  · refine ⟨_, exec_bar0Access_read a n v false hp hopen, rfl, ?_⟩
    have hsized : barSized a n = false := by
      simp only [barSized, Bool.and_eq_false_iff, Bool.or_eq_false_iff, decide_eq_false_iff_not]
      exact hodd
    rw [State.onDev_dev, Device.barRead_unsized _ f hsized, Device.send_out]
  · exact ⟨_, exec_bar0Access_read o 8 v false hp hopen, rfl, hub.barRead_out _ hplace⟩
  · exact exec_bar0Access_poisoned a n v hp hopen hub.not_reportReg
  · exact exec_fnStatRead_clears hp hlt

end Sys2Proof.Machine
end

section
/-!
PROOFS. O59: the state right after a cold reset.
-/
namespace Sys2Proof.Machine

/-- Every byte of empty memory reads as one that nothing has written. -/
@[simp] theorem Memory.get_empty (a : Nat) : Memory.get ⟨[], [], []⟩ a = memDefault := rfl

/-- A core at reset is one to which nothing has happened (R17, R575). -/
theorem Device.core_reset (c : CoreId) : Device.reset.core c = Core.init (coreRunInit c) := rfl

/-- A register at reset holds its Reset entries (R10). -/
theorem Device.reg_reset (o : Nat) : Device.reset.reg o = regReset o := rfl

/-- Control cores are held at reset, reserve cores off, and other compute cores idle. -/
theorem coreRunInit_eq (c : CoreId) : coreRunInit c = if isControl c then .held else if c.core < 32 then .idle else .off := by
  unfold coreRunInit isControl
  cases isCompute c <;> rfl

/-- The fields of DBG.TRACE_STAT. -/
def traceStatFields : List RegField := [fRo 0 0 0, fRo 1 1 0, fRo 2 2 0, fRo 3 3 0, fRo 34 8 0, fRo 63 40 0]

theorem blockAt_dbg {o : Nat} (h : 0x30_0000 ≤ o) (h' : o < 0x34_0000) : blockAt o = some (.dbg, o - 0x30_0000) := by
  unfold blockAt
  iterate 8 rw [if_neg (by omega)]
  rw [if_pos h']

theorem chuteFieldsAt_dbg (off : Nat) : chuteFieldsAt .dbg off = none := by
  simp only [chuteFieldsAt, chuteDepth, ite_self]

theorem fieldsAt_traceStat {p : Nat} (hp : p < 132) : fieldsAt (Reg.traceStat p) = some traceStatFields := by
  have hoff : Reg.traceStat p - 0x30_0000 = 0x1008 + 16 * p := by simp only [Reg.traceStat]; omega
  have hat : blockAt (Reg.traceStat p) = some (.dbg, 0x1008 + 16 * p) := by
    rw [blockAt_dbg, hoff] <;> simp only [Reg.traceStat] <;> omega
  have hdbg : dbgFields (0x1008 + 16 * p) = some traceStatFields := by
    unfold dbgFields
    rw [if_neg (by omega)]
    split
    case h_6 => rw [if_pos (by omega), if_neg (by omega), if_pos (by omega), traceStatFields]
    all_goals omega
  simp only [fieldsAt, hat, chuteFieldsAt_dbg, blockFields, hdbg]

/-- No trace partition writes at reset. -/
theorem Device.untraced_reset : Device.reset.untraced := by
  intro p hp
  rw [Device.rbit, Device.regN, Device.reg_reset, regReset, fieldsAt_traceStat hp]
  decide

/-- Settles O59: each part of the reset state by its law, and the registers named by their Reset entries. -/
theorem resetLeavesTheStatedState : Obligations.ResetLeavesTheStatedState := by
  refine ⟨rfl, Memory.wf_empty, Memory.get_empty, rfl, rfl, rfl, fun c _ => ?_, by decide, by decide, by decide, by decide, rfl,
    Device.untraced_reset⟩
  rw [show State.reset.dev = Device.reset from rfl, Device.core_reset]
  exact ⟨rfl, rfl, coreRunInit_eq c⟩

end Sys2Proof.Machine
end

section
/-!
PROOFS. O3: what every command does to the queue, and the one command that stops the machine.
-/
namespace Sys2Proof.Machine

/-- What stands behind the gate of the 40 V input answers a next state with the queue as it was: changed only while the input is
present (R581). -/
theorem next_gated_keeps_pending {s t : State} (h : t.pending = s.pending) :
    ∃ u, (.next (if s.dev.power.input then t else s) : Host.Outcome State Fault Refusal) = .next u ∧ u.pending = s.pending := by
  refine ⟨_, rfl, ?_⟩
  split
  · exact h
  · rfl

/-- POWER_ON_RESET brings the input back and leaves the queue. -/
theorem exec_powerOnReset_keeps_pending (seat : BitVec 4) (feed : BitVec 2) (s : State) :
    ∃ u, exec (.powerOnReset seat feed) s = .next u ∧ u.pending = s.pending := by
  refine ⟨_, rfl, ?_⟩
  split <;> rfl

/-- Settles O3, by the command: RAIL_LEAVES_WINDOW faults, POWER_ON_RESET acts while the input is absent, and every other command
stands behind the input's gate, where it changes memory and the module only. -/
theorem onlyTheSupplyStopsTheMachine : Obligations.OnlyTheSupplyStopsTheMachine := by
  refine ⟨fun c s hc => ?_, fun _ => rfl⟩
  cases c with
  | railLeavesWindow => exact absurd rfl hc
  | powerOnReset seat feed => exact exec_powerOnReset_keeps_pending seat feed s
  | _ => exact next_gated_keeps_pending rfl

end Sys2Proof.Machine
end

section
/-!
PROOFS. O13: bytes stored in a core store or a cluster store are read back with their poison.
-/
namespace Sys2Proof.Machine

/-! ## Poison marks after a write (R35, R367) -/

/-- A poisoned write marks the units that it touches. -/
theorem Memory.mem_poison_markUnits_poisoned (m : Memory) (a n : Nat) (lost : Nat → Bool) (us : List Nat) (v : Nat) :
    v ∈ (us.foldl (fun m u => m.markUnit a n true (lost u) u) m).poison ↔ v ∈ us ∨ v ∈ m.poison := by
  induction us generalizing m with
  | nil => simp
  | cons u r ih =>
    rw [List.foldl_cons, ih]
    simp only [Memory.markUnit, if_true, mem_sinsert, List.mem_cons]
    rw [or_left_comm, or_assoc]

/-- A clean write unmarks the units that it covers whole. -/
theorem Memory.mem_poison_markUnits_clean (m : Memory) {a n : Nat} (lost : Nat → Bool) {us : List Nat} (v : Nat)
    (hcover : ∀ u ∈ us, a ≤ u ∧ u + poisonUnit u ≤ a + n) :
    v ∈ (us.foldl (fun m u => m.markUnit a n false (lost u) u) m).poison ↔ v ∈ m.poison ∧ v ∉ us := by
  induction us generalizing m with
  | nil => simp
  | cons u r ih =>
    obtain ⟨hu, hr⟩ := List.forall_mem_cons.mp hcover
    rw [List.foldl_cons, ih _ hr]
    simp only [Memory.markUnit, Bool.false_eq_true, if_false, if_pos hu, mem_sremove, List.mem_cons]
    rw [not_or, and_assoc]

@[simp] theorem Memory.putBytes_poison (m : Memory) (a : Nat) (bs : List Byte) : (m.putBytes a bs).poison = m.poison := by
  induction bs generalizing m a with
  | nil => rfl
  | cons b r ih => exact ih (m.put a b) (a + 1)

/-! ## Poison units outside LPDDR -/

/-- Outside LPDDR a word carries one mark (log 3). -/
theorem poisonUnit_above {a : Nat} (h : 0xB3F_FFFF_FFFF < a) : poisonUnit a = 8 := if_neg (by omega)

/-- An access of some bytes touches the unit of its first one. -/
theorem unitBase_mem_unitsOf (a : Nat) {n : Nat} (h : 0 < n) : unitBase a ∈ unitsOf a n := by
  rw [unitsOf, if_neg (by omega)]
  exact List.mem_map.mpr ⟨0, List.mem_range.mpr (Nat.succ_pos _), rfl⟩

/-- The units of whole words lie within the bytes accessed. -/
theorem mem_unitsOf_whole {a n u : Nat} (hreg : 0xB3F_FFFF_FFFF < a) (ha : a % 8 = 0) (hn : n % 8 = 0) (h : u ∈ unitsOf a n) :
    a ≤ u ∧ u + 8 ≤ a + n := by
  rw [unitsOf, poisonUnit_above hreg] at h
  split at h
  case isTrue => cases h
  case isFalse hpos =>
    obtain ⟨i, hi, rfl⟩ := List.mem_map.mp h
    have := List.mem_range.mp hi
    omega

/-- A unit outside LPDDR reads poisoned where it is marked. -/
theorem State.unitPoisoned_above (s : State) {u : Nat} (h : 0xB3F_FFFF_FFFF < u) : s.unitPoisoned u = s.mem.poison.contains u := by
  simp [State.unitPoisoned, Nat.not_le.mpr h]

/-! ## Writes and poison -/

/-- What a poisoned write has written reads poisoned. -/
theorem State.poisoned_writeMem (s : State) (a : Nat) {bs : List Byte} (h : 0 < bs.length) :
    (s.writeMem a bs true).poisoned a bs.length = true := by
  have hmark : unitBase a ∈ (s.writeMem a bs true).mem.poison :=
    (Memory.mem_poison_markUnits_poisoned _ _ _ _ _ _).mpr (.inl (unitBase_mem_unitsOf a h))
  have hunit : (s.writeMem a bs true).unitPoisoned (unitBase a) = true := by
    simp [State.unitPoisoned, hmark]
  rw [State.poisoned, List.any_eq_true.mpr ⟨_, unitBase_mem_unitsOf a h, hunit⟩, Bool.true_or]

/-- The wrapper of a block depends on the module alone. -/
@[simp] theorem State.behindWrapper_writeMem (s : State) (a b : Nat) (bs : List Byte) (p : Bool) :
    (s.writeMem a bs p).behindWrapper b = s.behindWrapper b := rfl

/-- Whole words written clean outside LPDDR read clean, where no wrapper answers for them. -/
theorem State.not_poisoned_writeMem {s : State} {a : Nat} {bs : List Byte} (hreg : 0xB3F_FFFF_FFFF < a)
    (hw : s.behindWrapper a = false) (ha : a % 8 = 0) (hn : bs.length % 8 = 0) :
    (s.writeMem a bs false).poisoned a bs.length = false := by
  rw [State.poisoned, State.behindWrapper_writeMem, hw, Bool.or_false, List.any_eq_false]
  intro u hu
  obtain ⟨hlo, -⟩ := mem_unitsOf_whole hreg ha hn hu
  have hcover : ∀ v ∈ unitsOf a bs.length, a ≤ v ∧ v + poisonUnit v ≤ a + bs.length := fun v hv => by
    have hin := mem_unitsOf_whole hreg ha hn hv
    rwa [poisonUnit_above (by omega)]
  have hclean : u ∉ (s.writeMem a bs false).mem.poison := fun hmem =>
    ((Memory.mem_poison_markUnits_clean _ _ _ hcover).mp hmem).2 hu
  simpa [State.unitPoisoned_above _ (Nat.lt_of_lt_of_le hreg hlo)] using hclean

/-! ## Core stores and cluster stores -/

/-- The address lies in a core store, or in a cluster store below its width-controller region (R192, R356). -/
def inStore (a : Nat) : Prop :=
  match regionOf a with
  | (.coreStore _ _ _, _) => True
  | (.clusterStore _ _, o) => o < 0x7F_0000
  | _ => False

theorem lpddr_lt_of_inStore {a : Nat} (h : inStore a) : 0xB3F_FFFF_FFFF < a := by
  refine Nat.not_le.mp fun hle => ?_
  have hlpddr : regionOf a = (.lpddr, a) := if_pos hle
  rw [inStore, hlpddr] at h
  exact h

/-- A store there is a write of memory, where the block is not in block reset. -/
theorem State.store_inStore {s : State} {a : Nat} (bs : List Byte) (p : Bool) (hw : s.behindWrapper a = false) (h : inStore a) :
    s.store a bs p = s.writeMem a bs p := by
  unfold inStore at h
  rw [State.store, hw, if_neg Bool.false_ne_true]
  split at h
  case h_1 he => rw [he]
  case h_2 he => rw [he]; exact if_neg (by omega)
  case h_3 => exact h.elim

/-- A byte there is the one that memory keeps. -/
theorem State.byte_inStore (s : State) {a : Nat} (h : inStore a) : s.byte a = s.mem.get a := by
  unfold inStore at h
  unfold State.byte
  split at h
  case h_1 he => rw [he]
  case h_2 he => rw [he]; exact if_neg (by omega)
  case h_3 => exact h.elim

/-- Settles O13: the store is a write of memory, whose bytes and marks are read back. -/
theorem storedBytesAreReadBack : Obligations.StoredBytesAreReadBack := by
  intro s a i bs p hwf hw hi hplace
  have hin : inStore a ∧ inStore (a + i) := by
    unfold inStore
    split at hplace
    case h_1 hb hc => rw [hb, hc]; exact ⟨trivial, trivial⟩
    case h_2 hb hc => rw [hb, hc]; exact hplace
    case h_3 => exact hplace.elim
  obtain ⟨hfirst, hbyte⟩ := hin
  rw [State.store_inStore bs p hw hfirst]
  refine ⟨?_, ?_, ?_⟩
  · rw [State.byte_inStore _ hbyte, State.writeMem_inside a i bs p hwf hi]
  · rintro rfl
    exact State.poisoned_writeMem s a (by omega)
  · rintro rfl ha hn
    exact State.not_poisoned_writeMem (lpddr_lt_of_inStore hfirst) hw ha hn

end Sys2Proof.Machine
end

section
/-!
PROOFS. O33: writes of the width controller's registers.
-/
namespace Sys2Proof.Machine

/-! ## Fields of a register after a write -/

/-- A field that is set reads as the value given. -/
theorem Device.rf_setRf_same (d : Device) (o lo v : Nat) {hi : Nat} (h : hi < 64) :
    (d.setRf o hi lo v).rf o hi lo = v % 2 ^ (hi + 1 - lo) := by
  rw [Device.setRf, Device.rf_setRegN_same _ _ _ _ h, bitsOf_setBits_same]

/-- A field apart from the one that is set keeps its value. -/
theorem Device.rf_setRf_apart (d : Device) (o v : Nat) {hi lo hi' lo' : Nat} (h : hi < 64) (hap : hi < lo' ∨ hi' < lo) :
    (d.setRf o hi' lo' v).rf o hi lo = d.rf o hi lo := by
  rw [Device.setRf, Device.rf_setRegN_same _ _ _ _ h, bitsOf_setBits_other _ _ hap, Device.rf]

/-- A bit that is set reads as the value given. -/
theorem Device.rbit_setRf_same (d : Device) (o v : Nat) {i : Nat} (h : i < 64) : (d.setRf o i i v).rbit o i = v.testBit 0 := by
  simp only [Device.rbit, bitAt, Device.setRf, Device.regN, Device.setRegN, Device.reg_setReg_same, BitVec.toNat_ofNat]
  rw [Nat.testBit_mod_two_pow, decide_eq_true h, Bool.true_and, testBit_setBits, if_pos ⟨Nat.le_refl i, Nat.le_refl i⟩,
    Nat.sub_self]

/-- A write of the generic kind reaches the register written alone. -/
theorem Device.reg_writeFields_other (d : Device) {o p : Nat} (v : W64) (h : p ≠ o) : (d.writeFields o v).reg p = d.reg p := by
  unfold Device.writeFields
  split
  · rfl
  · exact Device.reg_setReg_other d _ h

/-- What a write of the generic kind leaves in a register depends on what the register held. -/
theorem Device.reg_writeFields_congr {d e : Device} {o : Nat} (v : W64) (h : d.reg o = e.reg o) :
    (d.writeFields o v).reg o = (e.writeFields o v).reg o := by
  unfold Device.writeFields
  split
  · exact h
  · simp only [Device.setRegN, Device.reg_setReg_same, Device.regN, h]

/-! ## Commands of a cluster of the module -/

/-- Two changes of the module that agree on a state's module give the same state. -/
theorem State.onDev_congr {s : State} {f g : Device → Device} (h : f s.dev = g s.dev) : s.onDev f = s.onDev g :=
  congrArg (fun d => { s with dev := d }) h

/-- A command whose change agrees with another on the state's module answers with that other. -/
theorem exec_next_congr {c : Instr} {s : State} {f g : Device → Device} (hx : exec c s = .next (s.onDev f))
    (h : f s.dev = g s.dev) : exec c s = .next (s.onDev g) :=
  hx.trans (congrArg _ (State.onDev_congr h))

/-- A command whose change leaves the module leaves the state. -/
theorem exec_next_keep {c : Instr} {s : State} {f : Device → Device} (hx : exec c s = .next (s.onDev f)) (h : f s.dev = s.dev) :
    exec c s = .next s :=
  exec_next_congr (g := fun d => d) hx h

/-- A command of a cluster of the module answers with the change that it makes to the module. -/
theorem onCluster_next {s : State} {cl : ClusterId} {f g : Device → Device} (hp : s.dev.power.input = true)
    (hc : clusterPresent cl = true) (h : f s.dev = g s.dev) : onCluster s cl f = .next (s.onDev g) := by
  rw [onCluster, devNext_on _ hp]
  exact congrArg _ (State.onDev_congr ((if_pos hc).trans h))

section Writes
variable {s : State} {cl : ClusterId} (hp : s.dev.power.input = true) (hc : clusterPresent cl = true)
include hp hc

theorem exec_cbDescWrite_next {n : Nat} (v : W64) (hn : n < 64) :
    exec (.cbDescWrite cl n v) s = .next (s.onDev fun d => d.writeCbDesc cl n v) :=
  onCluster_next hp hc (if_pos hn)

theorem exec_cbEntryWrite_next {n k : Nat} (v : W16) (hn : n < 64) (hk : k < 256) :
    exec (.cbEntryWrite cl n k v) s = .next (s.onDev fun d => d.writeCbEntry cl n k v) :=
  onCluster_next hp hc (if_pos ⟨hn, hk⟩)

theorem exec_tscaleEntWrite_next {i : Nat} (v : W64) (hi : i < 256) :
    exec (.tscaleEntWrite cl i v) s = .next (s.onDev fun d => d.writeTscaleEnt cl i v) :=
  onCluster_next hp hc (if_pos hi)

theorem exec_tscaleNextWrite_next {i : Nat} (v : W64) (hi : i < 256) :
    exec (.tscaleNextWrite cl i v) s = .next (s.onDev fun d => d.writeTscaleNext cl i v) :=
  onCluster_next hp hc (if_pos hi)

theorem exec_layerDescWrite_next {n k : Nat} (v : W64) (hn : n < 256) (hk : k < 2) :
    exec (.layerDescWrite cl n k v) s = .next (s.onDev fun d => d.writeLayerDesc cl n k v) :=
  onCluster_next hp hc (if_pos ⟨hn, hk⟩)

theorem exec_layerNextWrite_next {n k : Nat} (v : W64) (hn : n < 256) (hk : k < 2) :
    exec (.layerNextWrite cl n k v) s = .next (s.onDev fun d => d.writeLayerNext cl n k v) :=
  onCluster_next hp hc (if_pos ⟨hn, hk⟩)

theorem exec_wcLadderWrite_next (v : W64) : exec (.wcLadderWrite cl v) s = .next (s.onDev fun d => d.writeWcLadder cl v) :=
  onCluster_next hp hc rfl

theorem exec_wcRuleWrite_next {k : Nat} (th : Bool) (v : W64) (hk : k < 32) :
    exec (.wcRuleWrite cl k th v) s = .next (s.onDev fun d => d.writeWcRule cl k th v) :=
  onCluster_next hp hc (if_pos hk)

theorem exec_wcStepWrite_next (seed : Bool) (v : W64) :
    exec (.wcStepWrite cl seed v) s = .next (s.onDev fun d => d.writeWcStep cl seed v) :=
  onCluster_next hp hc rfl

theorem exec_wcEnable_next (e : Bool) : exec (.wcEnable cl e) s = .next (s.onDev fun d => d.writeWcEnable cl e) :=
  onCluster_next hp hc rfl

end Writes

section Registers
variable {d : Device} {cl : ClusterId}

/-! ## CB_ENTRY and CB_DESC (R93) -/

/-- A valid slot keeps its entries. -/
theorem Device.writeCbEntry_valid {n : Nat} (k : Nat) (v : W16) (h : d.rf (Reg.cbDesc cl n) 3 0 ≠ 0) :
    d.writeCbEntry cl n k v = d := if_pos h

/-- Both fields of an entry of a slot that is not valid take the value written. -/
theorem Device.writeCbEntry_rf {n : Nat} (k : Nat) (v : W16) (h : d.rf (Reg.cbDesc cl n) 3 0 = 0) :
    (d.writeCbEntry cl n k v).rf (Reg.cbEntry cl n k) (16 * (k % 4) + 6) (16 * (k % 4)) = v.toNat % 128 ∧
      (d.writeCbEntry cl n k v).rf (Reg.cbEntry cl n k) (16 * (k % 4) + 14) (16 * (k % 4) + 8) = v.toNat / 256 % 128 := by
  have hw : d.writeCbEntry cl n k v = _ := if_neg (not_not_intro h)
  have hlo : 16 * (k % 4) + 6 + 1 - 16 * (k % 4) = 7 := by omega
  have hhi : 16 * (k % 4) + 14 + 1 - (16 * (k % 4) + 8) = 7 := by omega
  rw [hw]
  constructor
  · rw [Device.rf_setRf_apart _ _ _ (by omega) (by omega), Device.rf_setRf_same _ _ _ _ (by omega), hlo]
    simp [bitsOf]
  · rw [Device.rf_setRf_same _ _ _ _ (by omega), hhi]
    simp [bitsOf, Nat.shiftRight_eq_div_pow]

/-- A WIDTH that leaves 0 stands where the entries pass the check, and CHECK tells the outcome. -/
theorem Device.writeCbDesc_checked {n : Nat} (v : W64) (h : d.rf (Reg.cbDesc cl n) 3 0 = 0)
    (hw : (d.writeFields (Reg.cbDesc cl n) v).rf (Reg.cbDesc cl n) 3 0 ≠ 0) :
    let d1 := d.writeFields (Reg.cbDesc cl n) v
    let w := d1.rf (Reg.cbDesc cl n) 3 0
    (d.writeCbDesc cl n v).rf (Reg.cbDesc cl n) 3 0 = (if d1.cbCheck cl n w then w else 0) ∧
      (d.writeCbDesc cl n v).rbit (Reg.cbDesc cl n) 16 = !(d1.cbCheck cl n w) := by
  intro d1 w
  have heq : d.writeCbDesc cl n v = if d1.cbCheck cl n w then d1.setRf (Reg.cbDesc cl n) 16 16 0
      else (d1.setRf (Reg.cbDesc cl n) 3 0 0).setRf (Reg.cbDesc cl n) 16 16 1 := by
    rw [Device.writeCbDesc]
    exact if_pos ⟨h, hw⟩
  rw [heq]
  by_cases hcheck : d1.cbCheck cl n w = true
  · rw [if_pos hcheck, if_pos hcheck, hcheck]
    exact ⟨Device.rf_setRf_apart _ _ _ (by decide) (by decide), Device.rbit_setRf_same _ _ _ (by decide)⟩
  · rw [if_neg hcheck, if_neg hcheck, Bool.eq_false_iff.mpr hcheck]
    refine ⟨?_, Device.rbit_setRf_same _ _ _ (by decide)⟩
    rw [Device.rf_setRf_apart _ _ _ (by decide) (by decide), Device.rf_setRf_same _ _ _ _ (by decide), Nat.zero_mod]

/-! ## TSCALE_ENT and TSCALE_NEXT (R214, R219) -/

theorem Device.writeTscaleEnt_on (i : Nat) (v : W64) (h : d.wcOn cl = true) : d.writeTscaleEnt cl i v = d := if_pos h

theorem Device.writeTscaleEnt_off (i : Nat) (v : W64) (h : d.wcOn cl = false) : d.writeTscaleEnt cl i v =
    (d.installTscale cl i ((d.writeFields (Reg.tscaleEnt cl i) v).reg (Reg.tscaleEnt cl i))).writeFields (Reg.tscaleNext cl i) v :=
  if_neg (Bool.eq_false_iff.mp h)

/-- Of the registers, installing an entry sets that entry's. -/
theorem Device.reg_installTscale (i o : Nat) (w : W64) :
    (d.installTscale cl i w).reg o = (d.setReg (Reg.tscaleEnt cl i) w).reg o := by
  unfold Device.installTscale
  simp only
  split <;> split <;> rfl

/-- The two generations' entries are two registers. -/
theorem Reg.tscaleNext_ne_tscaleEnt (cl : ClusterId) (i : Nat) : Reg.tscaleNext cl i ≠ Reg.tscaleEnt cl i := by
  simp only [Reg.tscaleNext, Reg.tscaleEnt, Reg.clu]
  omega

theorem Device.reg_writeTscaleEnt_ent (i : Nat) (v : W64) (h : d.wcOn cl = false) :
    (d.writeTscaleEnt cl i v).reg (Reg.tscaleEnt cl i) = (d.writeFields (Reg.tscaleEnt cl i) v).reg (Reg.tscaleEnt cl i) := by
  rw [Device.writeTscaleEnt_off i v h, Device.reg_writeFields_other _ _ (Reg.tscaleNext_ne_tscaleEnt cl i).symm,
    Device.reg_installTscale, Device.reg_setReg_same]

theorem Device.reg_writeTscaleEnt_next (i : Nat) (v : W64) (h : d.wcOn cl = false) :
    (d.writeTscaleEnt cl i v).reg (Reg.tscaleNext cl i) = (d.writeFields (Reg.tscaleNext cl i) v).reg (Reg.tscaleNext cl i) := by
  rw [Device.writeTscaleEnt_off i v h]
  refine Device.reg_writeFields_congr v ?_
  rw [Device.reg_installTscale, Device.reg_setReg_other _ _ (Reg.tscaleNext_ne_tscaleEnt cl i)]

theorem Device.writeTscaleNext_closed (i : Nat) (v : W64) (h : d.nextReady cl = false) : d.writeTscaleNext cl i v = d :=
  if_neg (Bool.eq_false_iff.mp h)

theorem Device.writeTscaleNext_ready (i : Nat) (v : W64) (h : d.nextReady cl = true) :
    d.writeTscaleNext cl i v = d.writeFields (Reg.tscaleNext cl i) v := if_pos h

/-! ## LAYER_DESC and LAYER_NEXT (R185, R186, R219, R220) -/

theorem Device.writeLayerDesc_on (n k : Nat) (v : W64) (h : d.wcOn cl = true) : d.writeLayerDesc cl n k v = d := if_pos h

theorem Device.writeLayerDesc_off (n k : Nat) (v : W64) (h : d.wcOn cl = false) : d.writeLayerDesc cl n k v =
    (d.writeFields (Reg.layerDesc cl n k) v).writeFields (Reg.layerNext cl n k) v := if_neg (Bool.eq_false_iff.mp h)

theorem Device.writeLayerNext_closed (n k : Nat) (v : W64) (h : d.nextReady cl = false) : d.writeLayerNext cl n k v = d := by
  simp [Device.writeLayerNext, h]

theorem Device.writeLayerNext_map (n : Nat) (v : W64) (h : d.nextReady cl = true) :
    d.writeLayerNext cl n 1 v = d.writeFields (Reg.layerNext cl n 1) v := by
  simp [Device.writeLayerNext, h]

/-- The rungs that a write of word 0 of CLU.LAYER_NEXT may name, among the fields it leaves (R186). -/
def Device.nextLegal (d : Device) (cl : ClusterId) (n : Nat) (v : W64) : Nat → Bool :=
  rungLegal (d.regN (Reg.wcLadder cl)) ((d.writeFields (Reg.layerNext cl n 0) v).regN (Reg.layerNext cl n 0))

/-- The rung field at bit lo of word 0 of CLU.LAYER_NEXT, where d was written with v, judged in a later module e: a reserved rung
gives way to the one of d, with a record for tensor t (R186, R220). -/
def Device.judgeRung (d : Device) (cl : ClusterId) (n : Nat) (v : W64) (t lo : Nat) (e : Device) : Device :=
  let r := bitsOf v.toNat (lo + 2) lo
  if d.nextLegal cl n v r then e
  else
    let kept := d.rf (Reg.layerNext cl n 0) (lo + 2) lo
    (e.setRf (Reg.layerNext cl n 0) (lo + 2) lo kept).wcEmit cl 0x4002 .notice [(0, 1, n), (1, 1, t), (2, 1, r), (3, 1, kept)]

/-- A write of word 0 writes the fields, then judges both rungs. -/
theorem Device.writeLayerNext_rungs (n : Nat) (v : W64) (h : d.nextReady cl = true) : d.writeLayerNext cl n 0 v =
    d.judgeRung cl n v 1 4 (d.judgeRung cl n v 0 0 (d.writeFields (Reg.layerNext cl n 0) v)) := by
  have hready : ¬ (!(d.nextReady cl)) = true := by simp [h]
  rw [Device.writeLayerNext, if_neg hready, if_neg (by decide), List.foldl_cons, List.foldl_cons, List.foldl_nil]
  rfl

theorem Device.judgeRung_legal {n lo : Nat} {v : W64} (t : Nat) (e : Device)
    (h : d.nextLegal cl n v (bitsOf v.toNat (lo + 2) lo) = true) : d.judgeRung cl n v t lo e = e := if_pos h

/-- Reporting counts in no register of LAYER_NEXT. -/
theorem not_reportReg_layerNext (cl : ClusterId) (n k : Nat) : ¬ reportReg (Reg.layerNext cl n k) := fun h => by
  have := reportReg_bounds h
  simp only [Reg.layerNext, Reg.clu, blockBase] at this
  omega

/-- A record of the width controller leaves a field of LAYER_NEXT. -/
theorem Device.rf_layerNext_wcEmit (e : Device) (n k hi lo code : Nat) (cls : EvClass) (det : List (Nat × Nat × Nat)) :
    (e.wcEmit cl code cls det).rf (Reg.layerNext cl n k) hi lo = e.rf (Reg.layerNext cl n k) hi lo := by
  rw [Device.rf, Device.regN, Device.wcEmit, (Device.Reports.emit e _ _ _ _ _ _).regs _ (not_reportReg_layerNext cl n k)]
  rfl

/-- A reserved rung leaves its field as it was before the write. -/
theorem Device.rf_judgeRung_reserved {n lo : Nat} {v : W64} (t : Nat) (e : Device) (hlo : lo + 2 < 64)
    (h : d.nextLegal cl n v (bitsOf v.toNat (lo + 2) lo) = false) :
    (d.judgeRung cl n v t lo e).rf (Reg.layerNext cl n 0) (lo + 2) lo = d.rf (Reg.layerNext cl n 0) (lo + 2) lo := by
  have hj : d.judgeRung cl n v t lo e = _ := if_neg (Bool.eq_false_iff.mp h)
  rw [hj, Device.rf_layerNext_wcEmit, Device.rf_setRf_same _ _ _ _ hlo]
  exact Nat.mod_eq_of_lt (bitsOf_lt _ _ _)

/-- Judging a rung leaves every field apart from its own. -/
theorem Device.rf_judgeRung_apart (n : Nat) (v : W64) (t : Nat) {lo hi' lo' : Nat} (e : Device) (hhi : hi' < 64)
    (hap : hi' < lo ∨ lo + 2 < lo') :
    (d.judgeRung cl n v t lo e).rf (Reg.layerNext cl n 0) hi' lo' = e.rf (Reg.layerNext cl n 0) hi' lo' := by
  unfold Device.judgeRung
  simp only
  split
  · rfl
  · rw [Device.rf_layerNext_wcEmit, Device.rf_setRf_apart _ _ _ hhi hap]

/-- A write of two legal rungs is a write of the fields. -/
theorem Device.writeLayerNext_legal {n : Nat} {v : W64} (h : d.nextReady cl = true) (hw : d.nextLegal cl n v (v.toNat % 8) = true)
    (hx : d.nextLegal cl n v (v.toNat / 16 % 8) = true) :
    d.writeLayerNext cl n 0 v = d.writeFields (Reg.layerNext cl n 0) v := by
  have hx' : d.nextLegal cl n v (bitsOf v.toNat (4 + 2) 4) = true := by
    rwa [bitsOf, Nat.shiftRight_eq_div_pow]
  rw [Device.writeLayerNext_rungs n v h, Device.judgeRung_legal 1 _ hx', Device.judgeRung_legal 0 _ hw]

/-- A reserved rung of the first field leaves that field. -/
theorem Device.writeLayerNext_reserved {n : Nat} {v : W64} (h : d.nextReady cl = true)
    (hw : d.nextLegal cl n v (v.toNat % 8) = false) :
    (d.writeLayerNext cl n 0 v).rf (Reg.layerNext cl n 0) 2 0 = d.rf (Reg.layerNext cl n 0) 2 0 := by
  rw [Device.writeLayerNext_rungs n v h, Device.rf_judgeRung_apart n v 1 _ (by decide) (by decide)]
  exact Device.rf_judgeRung_reserved 0 _ (by decide) hw

/-! ## WC_LADDER, WC_STEP and WC_SEED (R183, R216) -/

theorem Device.writeWcLadder_refused {v : W64} (h : d.wcOn cl = true ∨ d.ladderOk cl v.toNat = false) :
    d.writeWcLadder cl v = d := if_pos (by simpa using h)

theorem Device.writeWcLadder_taken {v : W64} (h : d.wcOn cl = false) (hok : d.ladderOk cl v.toNat = true) :
    d.writeWcLadder cl v = d.writeFields (Reg.wcLadder cl) v := if_neg (by simp [h, hok])

theorem Device.writeWcStep_on (seed : Bool) (v : W64) (h : d.wcOn cl = true) : d.writeWcStep cl seed v = d := if_pos h

theorem Device.writeWcStep_off (seed : Bool) (v : W64) (h : d.wcOn cl = false) :
    d.writeWcStep cl seed v = d.writeFields (if seed then Reg.wcSeed cl else Reg.wcStep cl) v := if_neg (Bool.eq_false_iff.mp h)

/-! ## WC_RULE and WC_CTL.ENABLE (R200, R203) -/

/-- An entry that a filter by keys drops is not found. -/
theorem tfind_filter_dropped {α : Type} (t : Table α) (f : Nat → Bool) {k : Nat} (h : f k = false) :
    tfind (t.filter fun p => f p.1) k = none := by
  induction t with
  | nil => rfl
  | cons p r ih =>
    rw [List.filter_cons]
    split
    case isTrue hkept =>
      have hne : p.1 ≠ k := fun e => absurd (e ▸ hkept) (by simp [h])
      simp only [tfind, if_neg hne, ih]
    case isFalse => exact ih

/-- A word that is cleared reads zero. -/
theorem Cluster.wcClear_word (x : Cluster) {lo hi i : Nat} (h : lo ≤ i) (h' : i < hi) : tget (x.wcClear lo hi).wc 0 i = 0 := by
  have hdrop : tfind (x.wcClear lo hi).wc i = none :=
    tfind_filter_dropped x.wc (fun k => decide (k < lo) || decide (hi ≤ k)) (by simp [h, h'])
  rw [tget, hdrop]
  rfl

/-- A streak count reads 0 once its word is cleared. -/
theorem Cluster.wcClear_streak (x : Cluster) {lo hi k n : Nat} (h : lo ≤ 0x100 + 16 * k) (h' : 0x100 + 16 * k + 16 ≤ hi)
    (hn : n < 256) : (x.wcClear lo hi).streak k n = 0 := by
  rw [Cluster.streak, Cluster.wcClear_word x (by omega) (by omega)]
  simp [bitsOf]

theorem Device.writeWcRule_reg (k : Nat) (th : Bool) (v : W64) (o : Nat) :
    (d.writeWcRule cl k th v).reg o = (d.writeFields (if th then Reg.wcRuleTh cl k else Reg.wcRule cl k) v).reg o := rfl

/-- A rule's streaks start again when it is written. -/
theorem Device.writeWcRule_streak (k : Nat) (th : Bool) (v : W64) {n : Nat} (hn : n < 256) :
    ((d.writeWcRule cl k th v).cluster cl).streak k n = 0 := by
  rw [Device.writeWcRule, Device.cluster_setCluster_same]
  exact Cluster.wcClear_streak _ (Nat.le_refl _) (Nat.le_refl _) hn

theorem Device.writeWcEnable_reg (e : Bool) (o : Nat) :
    (d.writeWcEnable cl e).reg o = (d.setRf (Reg.wcCtl cl) 0 0 (ofBool e)).reg o := by
  unfold Device.writeWcEnable
  simp only
  split <;> rfl

/-- ENABLE is what is written. -/
theorem Device.writeWcEnable_on (e : Bool) : (d.writeWcEnable cl e).wcOn cl = e := by
  rw [Device.wcOn, Device.rbit, Device.regN, Device.writeWcEnable_reg]
  refine (Device.rbit_setRf_same d (Reg.wcCtl cl) (ofBool e) (by decide)).trans ?_
  cases e <;> rfl

/-- Every streak starts again when ENABLE goes from 0 to 1. -/
theorem Device.writeWcEnable_streak {k n : Nat} (h : d.wcOn cl = false) (hk : k < 32) (hn : n < 256) :
    ((d.writeWcEnable cl true).cluster cl).streak k n = 0 := by
  simp only [Device.writeWcEnable, h, Bool.not_false, Bool.and_self, if_true, Device.cluster_setCluster_same]
  exact Cluster.wcClear_streak _ (by omega) (by omega) hn

end Registers

/-! ## O33 -/

/-- Settles O33: each command answers with one write of the module, and each write has its law for each state of ENABLE, NEXT_READY
and the codebook slot. That LAYER_NEXT takes a LAYER_DESC write as it stands, reserved rungs included, is the model's choice (log 216). -/
theorem widthControlRegistersTakeTheirWrites : Obligations.WidthControlRegistersTakeTheirWrites := by
  intro s cl n k v hp hc d on next goes
  refine ⟨fun e hn hk => ?_, fun hn hfree => ?_, fun hn => ?_, fun hn hk => ?_, ?_, ?_, fun th hn => ?_, fun seed => ?_, fun e => ?_⟩
  · have hx := exec_cbEntryWrite_next hp hc e hn hk
    exact ⟨fun h => exec_next_keep hx (Device.writeCbEntry_valid k e h), fun h => ⟨_, hx, rfl, Device.writeCbEntry_rf k e h⟩⟩
  · exact fun hw => ⟨_, exec_cbDescWrite_next hp hc v hn, rfl, Device.writeCbDesc_checked v hfree hw⟩
  · have hent := exec_tscaleEntWrite_next hp hc v hn
    have hnext := exec_tscaleNextWrite_next hp hc v hn
    exact ⟨fun h => exec_next_keep hent (Device.writeTscaleEnt_on n v h),
      fun h => ⟨_, hent, rfl, Device.reg_writeTscaleEnt_ent n v h, Device.reg_writeTscaleEnt_next n v h⟩,
      fun h => exec_next_keep hnext (Device.writeTscaleNext_closed n v h),
      fun h => exec_next_congr hnext (Device.writeTscaleNext_ready n v h)⟩
  · have hdesc := exec_layerDescWrite_next hp hc v hn hk
    have hnext := exec_layerNextWrite_next hp hc v hn hk
    refine ⟨fun h => exec_next_keep hdesc (Device.writeLayerDesc_on n k v h),
      fun h => exec_next_congr hdesc (Device.writeLayerDesc_off n k v h),
      fun h => exec_next_keep hnext (Device.writeLayerNext_closed n k v h), fun h h1 => ?_, fun h h0 => ?_⟩
    · subst h1
      exact exec_next_congr hnext (Device.writeLayerNext_map n v h)
    · subst h0
      exact ⟨fun hw hx => exec_next_congr hnext (Device.writeLayerNext_legal h hw hx),
        fun hw => ⟨_, hnext, rfl, Device.writeLayerNext_reserved h hw⟩⟩
  · exact fun h => exec_next_keep (exec_wcLadderWrite_next hp hc v) (Device.writeWcLadder_refused h)
  · exact fun hoff hok => exec_next_congr (exec_wcLadderWrite_next hp hc v) (Device.writeWcLadder_taken hoff hok)
  · exact ⟨_, exec_wcRuleWrite_next hp hc th v hn, rfl, Device.writeWcRule_reg n th v _,
      fun _ hj => Device.writeWcRule_streak n th v hj⟩
  · have hx := exec_wcStepWrite_next hp hc seed v
    exact ⟨fun h => exec_next_keep hx (Device.writeWcStep_on seed v h),
      fun h => exec_next_congr hx (Device.writeWcStep_off seed v h)⟩
  · refine ⟨_, exec_wcEnable_next hp hc e, rfl, Device.writeWcEnable_on e, ?_⟩
    rintro rfl h r hr j hj
    exact Device.writeWcEnable_streak h hr hj

end Sys2Proof.Machine
end

section
/-!
PROOFS. The engines of a core: what records, handles and items leave of them, and a step of a core that is calm.
-/
namespace Sys2Proof.Machine

/-! ## A step of a calm core -/

theorem State.calm_iff (s : State) (c : CoreId) : s.calm c = true ↔ s.dev.power.input = true ∧ corePresent c = true ∧
    isCompute c = true ∧ (s.dev.tensor c).vectorQ = [] ∧ (s.dev.tensor c).streamQ = [] := by
  simp only [State.calm, Bool.and_eq_true, List.isEmpty_iff, and_assoc]

/-- Nothing takes effect of its own where no vector operation and no stream instruction is queued. -/
theorem State.settle_idle {s : State} {c : CoreId} (n : Nat) (hv : (s.dev.tensor c).vectorQ = [])
    (hs : (s.dev.tensor c).streamQ = []) : State.settle n s c = s := by
  cases n with
  | zero => rfl
  | succ n =>
    have hvec : s.vectorHead c = none := by simp only [State.vectorHead, hv]
    have hstr : s.dev.streamHead c = none := by simp only [Device.streamHead, hs]
    simp only [State.settle, hvec, hstr]

/-- An event of the engines of a calm core that leaves the vector and the stream queue is all that happens. -/
theorem engine_calm {s : State} {c : CoreId} {f : State → State} (h : s.calm c = true)
    (hv : ((f s).dev.tensor c).vectorQ = (s.dev.tensor c).vectorQ)
    (hs : ((f s).dev.tensor c).streamQ = (s.dev.tensor c).streamQ) :
    engine s c f = .next { s with mem := (f s).mem, dev := (f s).dev } := by
  obtain ⟨hp, hpres, hcomp, hvec, hstr⟩ := (s.calm_iff c).mp h
  rw [engine, memNext_on _ hp]
  simp only [hpres, hcomp, Bool.and_self, if_true, State.settle_idle 32 (hv.trans hvec) (hs.trans hstr)]

/-- An event that does nothing to a calm core leaves the state. -/
theorem engine_keep {s : State} {c : CoreId} {f : State → State} (h : s.calm c = true) (hf : f s = s) :
    engine s c f = .next s := by
  have hx := engine_calm (f := f) h (by rw [hf]) (by rw [hf])
  rw [hf] at hx
  exact hx

/-! ## What leaves the engines of a core as they are -/

theorem Device.tensor_congr {d e : Device} (c : CoreId) (h : e.tensors = d.tensors) : e.tensor c = d.tensor c := by
  rw [Device.tensor, h, Device.tensor]

@[simp] theorem Device.tensor_onTensor_same (d : Device) (c : CoreId) (f : Tensor → Tensor) :
    (d.onTensor c f).tensor c = f (d.tensor c) := Device.tensor_setTensor_same ..

section Unchanged
variable (d : Device) (c e : CoreId)

@[simp] theorem Device.tensor_setRegN (o v : Nat) : (d.setRegN o v).tensor e = d.tensor e := rfl
@[simp] theorem Device.tensor_setRf (o hi lo v : Nat) : (d.setRf o hi lo v).tensor e = d.tensor e := rfl
@[simp] theorem Device.tensor_addRf (o hi lo n : Nat) : (d.addRf o hi lo n).tensor e = d.tensor e := rfl
@[simp] theorem Device.tensor_onCore (f : Core → Core) : (d.onCore c f).tensor e = d.tensor e := rfl
@[simp] theorem Device.tensor_takeFresh : d.takeFresh.tensor e = d.tensor e := rfl
@[simp] theorem Device.tensor_setUnits (cl : ClusterId) (x : CluUnits) : (d.setUnits cl x).tensor e = d.tensor e := rfl
@[simp] theorem Device.tensor_setCluster (cl : ClusterId) (x : Cluster) : (d.setCluster cl x).tensor e = d.tensor e := rfl

@[simp] theorem Device.tensor_emit (src : EvSrc) (code : Nat) (cls : EvClass) (p : Bool) (det : List Byte)
    (o : Option (Nat × Nat)) : (d.emit src code cls p det o).tensor e = d.tensor e :=
  Device.tensor_congr e (Device.Reports.emit ..).tensors

@[simp] theorem Device.tensor_trec (unit code : Nat) (cls : EvClass) (p : Bool) (tag : W16) (det : List (Nat × Nat × Nat)) :
    (d.trec c unit code cls p tag det).tensor e = d.tensor e := Device.tensor_emit ..

@[simp] theorem Device.tensor_tfault (code : Nat) (tag : W16) : (d.tfault c code tag).tensor e = d.tensor e := rfl

@[simp] theorem Device.tensor_trecFault (unit code : Nat) (p : Bool) (tag : W16) (det : List (Nat × Nat × Nat)) :
    (d.trecFault c unit code p tag det).tensor e = d.tensor e := by
  rw [Device.trecFault, Device.tensor_tfault, Device.tensor_trec]

@[simp] theorem Device.tensor_latticeOperand (tag : W16) (mode cause : Nat) :
    (d.latticeOperand c tag mode cause).tensor e = d.tensor e := Device.tensor_trecFault ..

@[simp] theorem Device.tensor_latticeSequence (tag : W16) : (d.latticeSequence c tag).tensor e = d.tensor e :=
  Device.tensor_trecFault ..

@[simp] theorem Device.tensor_streamState (op : TOp) (h cause : Nat) : (d.streamState c op h cause).tensor e = d.tensor e :=
  Device.tensor_trecFault ..

@[simp] theorem Device.tensor_scAdd (cl : ClusterId) (n off size k : Nat) : (d.scAdd cl n off size k).tensor e = d.tensor e := by
  unfold Device.scAdd
  split <;> rfl

@[simp] theorem Device.tensor_scPoison (cl : ClusterId) (n : Nat) : (d.scPoison cl n).tensor e = d.tensor e := rfl

@[simp] theorem Device.tensor_countTally (op : TOp) (fmt : Nat) (x : TallyCnt) :
    (d.countTally c op fmt x).tensor e = d.tensor e := by
  unfold Device.countTally
  dsimp only
  split
  · rfl
  · simp

@[simp] theorem Device.tensor_countPass (groups : Nat) (short : Bool) : (d.countPass c groups short).tensor e = d.tensor e := rfl
@[simp] theorem Device.tensor_stall (k : Nat) : (d.stall c k).tensor e = d.tensor e := rfl

end Unchanged

/-! ## Records emitted once, and items taken -/

/-- Engines after records and the handling of items: only the handles and the list of records emitted once may differ. -/
def Tensor.Bookkept (t u : Tensor) : Prop := u = { t with streams := u.streams, once := u.once }

/-- The engines of a core after records and the handling of items, with memory as it was. -/
structure State.Bookkept (c : CoreId) (s t : State) : Prop where
  mem : t.mem = s.mem
  tensor : (s.dev.tensor c).Bookkept (t.dev.tensor c)

namespace Tensor.Bookkept
variable {t u v : Tensor}

theorem refl (t : Tensor) : t.Bookkept t := rfl

theorem of_eq (h : u = t) : t.Bookkept u := h ▸ refl t

theorem trans (h : t.Bookkept u) (h' : u.Bookkept v) : t.Bookkept v := by
  unfold Tensor.Bookkept at *
  rw [h', h]

theorem eq (h : t.Bookkept u) : u = { t with streams := u.streams, once := u.once } := h
theorem front (h : t.Bookkept u) : u.front = t.front := by rw [h.eq]
theorem back (h : t.Bookkept u) : u.back = t.back := by rw [h.eq]
theorem run (h : t.Bookkept u) : u.run = t.run := by rw [h.eq]
theorem outs (h : t.Bookkept u) : u.outs = t.outs := by rw [h.eq]
theorem vectorQ (h : t.Bookkept u) : u.vectorQ = t.vectorQ := by rw [h.eq]
theorem streamQ (h : t.Bookkept u) : u.streamQ = t.streamQ := by rw [h.eq]

end Tensor.Bookkept

theorem State.Bookkept.refl (c : CoreId) (s : State) : State.Bookkept c s s := ⟨rfl, .refl _⟩

theorem State.Bookkept.trans {c : CoreId} {s t u : State} (h : State.Bookkept c s t) (h' : State.Bookkept c t u) :
    State.Bookkept c s u := ⟨h'.mem.trans h.mem, h.tensor.trans h'.tensor⟩

/-- A change of the module that keeps the books keeps those of the state. -/
theorem State.Bookkept.onDev {c : CoreId} {s : State} {f : Device → Device}
    (h : (s.dev.tensor c).Bookkept ((f s.dev).tensor c)) : State.Bookkept c s (s.onDev f) := ⟨rfl, h⟩

section Books
variable (d : Device) (c : CoreId)

theorem Device.bookkept_setStream (h : Nat) (st : Stream) : (d.tensor c).Bookkept ((d.setStream c h st).tensor c) := by
  rw [Device.setStream, Device.tensor_onTensor_same]
  rfl

theorem Device.bookkept_putStream (h : Nat) (st : Stream) : (d.tensor c).Bookkept ((d.putStream c h st).tensor c) :=
  Device.bookkept_setStream ..

theorem Device.bookkept_trecOnce (unit code : Nat) (cls : EvClass) (p : Bool) (tag : W16) (h : Nat)
    (det : List (Nat × Nat × Nat)) : (d.tensor c).Bookkept ((d.trecOnce c unit code cls p tag h det).tensor c) := by
  unfold Device.trecOnce
  dsimp only
  split
  · exact .refl _
  · rw [Device.tensor_trec, Device.tensor_setTensor_same]
    rfl

theorem Device.bookkept_streamFault (code : Nat) (p : Bool) (tag : W16) (h : Nat) (det : List (Nat × Nat × Nat)) :
    (d.tensor c).Bookkept ((d.streamFault c code p tag h det).tensor c) := by
  unfold Device.streamFault
  split
  · exact .refl _
  · exact Device.bookkept_trecOnce ..

theorem Device.bookkept_streamEnd (tag : W16) (h : Nat) : (d.tensor c).Bookkept ((d.streamEnd c tag h).tensor c) := by
  unfold Device.streamEnd
  split
  · exact .refl _
  · exact Device.bookkept_streamFault ..

theorem Device.bookkept_useHandle (op : TOp) (h dir : Nat) : (d.tensor c).Bookkept ((d.useHandle c op h dir).1.tensor c) := by
  unfold Device.useHandle
  split
  · exact .of_eq (Device.tensor_streamState ..)
  · split
    · exact Device.bookkept_streamFault ..
    · split
      · exact .of_eq (Device.tensor_streamState ..)
      · exact .refl _

theorem Device.bookkept_poisonConsumed (op : TOp) (fmt who : Nat) :
    (d.tensor c).Bookkept ((d.poisonConsumed c op fmt who).tensor c) := by
  have hrec := d.bookkept_trecOnce c 0x01 0x3002 .deferred true op.tag 16 [(2, 1, who)]
  unfold Device.poisonConsumed
  dsimp only
  split
  · exact hrec
  · exact hrec

/-- Changes that keep the books, one after the other. -/
theorem Device.bookkept_foldl {α : Type} {f : Device → α → Device} (hf : ∀ (d : Device) a, (d.tensor c).Bookkept ((f d a).tensor c))
    (l : List α) : (d.tensor c).Bookkept ((l.foldl f d).tensor c) := by
  induction l generalizing d with
  | nil => exact .refl _
  | cons a r ih => exact (hf d a).trans (ih (f d a))

theorem Device.bookkept_emitReads (unit : Nat) (tag : W16) (rs : List ReadRec) :
    (d.tensor c).Bookkept ((d.emitReads c unit tag rs).tensor c) := by
  refine Device.bookkept_foldl d c (fun d r => ?_) rs
  split
  · exact .of_eq (Device.tensor_emit ..)
  · split
    · exact Device.bookkept_trecOnce ..
    · exact .of_eq (Device.tensor_trec ..)

/-- The records of reading an item, and the item used up. -/
theorem Device.bookkept_emitReads_putStream (unit : Nat) (tag : W16) (rs : List ReadRec) (h : Nat) (st : Stream) :
    (d.tensor c).Bookkept (((d.emitReads c unit tag rs).putStream c h st).tensor c) :=
  (d.bookkept_emitReads c unit tag rs).trans (Device.bookkept_putStream ..)

theorem Device.bookkept_pullIndices (fuel h n : Nat) : (d.tensor c).Bookkept ((Device.pullIndices fuel d c h n).tensor c) := by
  induction fuel generalizing d with
  | zero => exact .refl _
  | succ fuel ih =>
    unfold Device.pullIndices
    split
    · exact .refl _
    · split
      · exact .refl _
      · split
        · exact .refl _
        · split
          · exact .refl _
          · split
            · exact .refl _
            · exact ((Device.bookkept_setStream ..).trans (Device.bookkept_setStream ..)).trans (ih _)

end Books

section Items
variable {c : CoreId} {s t : State}

theorem State.Bookkept.thenDev {f : Device → Device} (h : State.Bookkept c s t)
    (hf : ∀ d : Device, (d.tensor c).Bookkept ((f d).tensor c)) : State.Bookkept c s (t.onDev f) := h.trans (.onDev (hf _))

/-- A change of the module that is made in some cases only. -/
theorem State.Bookkept.ite {p : Prop} [Decidable p] {f : Device → Device} (h : State.Bookkept c s t)
    (hf : ∀ d : Device, (d.tensor c).Bookkept ((f d).tensor c)) : State.Bookkept c s (if p then t.onDev f else t) := by
  split
  · exact h.thenDev hf
  · exact h

variable (c s)

theorem State.bookkept_formItem (h : Nat) (st : Stream) (f : Fetch) : State.Bookkept c s (s.formItem c h st f).1 := by
  unfold State.formItem
  dsimp only
  split
  · exact ((State.Bookkept.refl c s).ite fun d => d.bookkept_trecOnce ..).ite fun d => .of_eq (d.tensor_trec ..)
  · exact .refl c s

theorem State.bookkept_requestTile (h : Nat) : State.Bookkept c s (s.requestTile c h) := by
  unfold State.requestTile
  split
  · exact .refl c s
  · dsimp only
    split
    · exact .refl c s
    · split
      · exact .refl c s
      · split
        · exact .onDev (Device.bookkept_pullIndices ..)
        · have hask : ∀ n st', State.Bookkept c s ((s.onDev fun d => Device.pullIndices 4096 d c h n).onDev fun d =>
              (d.setStream c h st').takeFresh) := fun n st' =>
            (State.Bookkept.onDev (s.dev.bookkept_pullIndices c 4096 h n)).thenDev fun d => d.bookkept_setStream c h st'
          have hindex : ∀ n st' tag det, State.Bookkept c s (((s.onDev fun d => Device.pullIndices 4096 d c h n).onDev fun d =>
              (d.setStream c h st').takeFresh).onDev fun d => d.trecOnce c 0x04 0x6012 .deferred true tag 16 det) :=
            fun n st' _ _ => (hask n st').thenDev fun d => d.bookkept_trecOnce ..
          split
          · split
            · exact hask ..
            · exact hindex ..
          · refine State.Bookkept.thenDev ?_ fun d => d.bookkept_streamFault ..
            split
            · exact hask ..
            · exact hindex ..

theorem State.bookkept_stageTile (h n : Nat) : State.Bookkept c s (s.stageTile c h n) := by
  unfold State.stageTile
  split
  · exact .refl c s
  · split
    · exact .refl c s
    · refine (State.bookkept_formItem ..).trans (.onDev ?_)
      split
      · exact .refl _
      · exact Device.bookkept_setStream ..

/-- Bringing an item to its consumer leaves memory and the work of the engines. -/
theorem State.bookkept_bringItem (h : Nat) : State.Bookkept c s (s.bringItem c h) := by
  unfold State.bringItem
  split
  · exact .refl c s
  · split
    · exact .refl c s
    · refine State.Bookkept.trans ?_ (State.bookkept_stageTile ..)
      split
      · exact State.bookkept_requestTile ..
      · exact .refl c s

end Items

end Sys2Proof.Machine
end

section
/-!
PROOFS. O29: loads, swaps, the start of a run and the anchor that the pre-pass fixes.
-/
namespace Sys2Proof.Machine

/-! ## Loads (R127, R208, R212) -/

/-- A tile that is taken: the operation's epoch is reached, its item is not newer, and only books are kept. -/
theorem Device.loadTile_some {d d' : Device} {c : CoreId} {op : TOp} {h : Nat} {trw one : Bool} {w : WTile}
    (hl : d.loadTile c op h trw one = some (d', w)) : d.epochReached c op.epoch = true ∧
      (∀ e, d.srcOf c op h ≠ .newer e) ∧ (d.tensor c).Bookkept (d'.tensor c) := by
  unfold Device.loadTile at hl
  dsimp only at hl
  split at hl
  · cases hl
  · rename_i hep
    refine ⟨by simpa using hep, ?_⟩
    split at hl
    · cases hl
    · cases hl
    · rename_i hsrc
      obtain ⟨rfl, -⟩ := Prod.mk.inj (Option.some.inj hl)
      exact ⟨fun e he => (nomatch hsrc.symm.trans he), Device.bookkept_useHandle ..⟩
    · rename_i hsrc
      obtain ⟨rfl, -⟩ := Prod.mk.inj (Option.some.inj hl)
      exact ⟨fun e he => (nomatch hsrc.symm.trans he), Device.bookkept_streamEnd ..⟩
    · rename_i hsrc
      obtain ⟨rfl, -⟩ := Prod.mk.inj (Option.some.inj hl)
      refine ⟨fun e he => (nomatch hsrc.symm.trans he), ?_⟩
      split
      · exact (Device.bookkept_emitReads_putStream ..).trans (.of_eq (Device.tensor_trec ..))
      · exact Device.bookkept_emitReads_putStream ..

/-- A load whose item is not newer stays at its epoch. -/
theorem Device.loadAdopt_settled {d : Device} {c : CoreId} {op : TOp} {rest : List TOp} (n : Nat)
    (hq : (d.tensor c).latticeQ = op :: rest) (hs : ∀ e, d.srcOf c op op.ins.a.toNat ≠ .newer e) :
    Device.loadAdopt n d c = d := by
  cases n with
  | zero => rfl
  | succ n =>
    unfold Device.loadAdopt
    rw [hq]
    dsimp only
    split
    · exact absurd ‹_› (hs _)
    · rfl

theorem Device.loadHead_loads {d d' : Device} {c : CoreId} {op : TOp} {rest : List TOp} {w : WTile}
    (hq : (d.tensor c).latticeQ = op :: rest) (hopc : op.opc = 0x90) (hturn : (d.tensor c).turns op = true)
    (hl : d.loadTile c op op.ins.a.toNat (bitAt op.ins.imm.toNat 0) false = some (d', w)) :
    d.loadHead c = d'.onTensor c fun t => ({ t with latticeQ := rest } : Tensor).fillBack w := by
  obtain ⟨hep, hsrc, -⟩ := Device.loadTile_some hl
  simp [Device.loadHead, hq, hopc, hturn, hep, Device.loadAdopt_settled 65536 hq hsrc, hl]

theorem exec_loadDone_loads {s : State} {c : CoreId} {op : TOp} {rest : List TOp} {d : Device} {w : WTile}
    (h : s.calm c = true) (hrun : (s.dev.tensor c).run = none) (hq : (s.dev.tensor c).latticeQ = op :: rest)
    (hopc : op.opc = 0x90) (hturn : (s.dev.tensor c).turns op = true)
    (hl : s.dev.loadTile c op op.ins.a.toNat (bitAt op.ins.imm.toNat 0) false = some (d, w)) :
    ∃ t, exec (.loadDone c) s = .next t ∧ t.mem = s.mem ∧ (t.dev.tensor c).back = some w ∧
      (t.dev.tensor c).latticeQ = rest := by
  obtain ⟨-, -, hbooks⟩ := Device.loadTile_some hl
  have hdone : s.dev.loadDone c = d.onTensor c fun t => ({ t with latticeQ := rest } : Tensor).fillBack w := by
    simp only [Device.loadDone, hrun, Device.loadHead_loads hq hopc hturn hl]
  have htensor : (s.dev.loadDone c).tensor c = ({ d.tensor c with latticeQ := rest } : Tensor).fillBack w := by
    rw [hdone, Device.tensor_onTensor_same]
  refine ⟨_, (exec_loadDone s c).trans (engine_calm h ?_ ?_), rfl, ?_, ?_⟩
  all_goals simp only [State.onDev_dev, htensor]
  · exact hbooks.vectorQ
  · exact hbooks.streamQ
  · rfl
  · rfl

/-! ## Swaps (R128) -/

theorem exec_swapTakeEffect_swaps {s : State} {c : CoreId} {op : TOp} {rest : List TOp} {w : WTile} (h : s.calm c = true)
    (hrun : (s.dev.tensor c).run = none) (hq : (s.dev.tensor c).latticeQ = op :: rest) (hopc : op.opc = 0x91)
    (hback : (s.dev.tensor c).back = some w) : exec (.swapTakeEffect c) s = .next (s.onDev fun d => d.onTensor c fun t =>
      { t with latticeQ := rest, front := some w, back := none, spare := (s.dev.tensor c).front }) := by
  have hswap : s.dev.swapTiles c = s.dev.onTensor c fun t => ({ t with latticeQ := rest } : Tensor).swapIn w := by
    simp [Device.swapTiles, hrun, hq, hopc, hback]
  refine (exec_swapTakeEffect s c).trans ((engine_calm h ?_ ?_).trans ?_)
  · simp only [State.onDev_dev, hswap, Device.tensor_onTensor_same, Tensor.swapIn]
  · simp only [State.onDev_dev, hswap, Device.tensor_onTensor_same, Tensor.swapIn]
  · simp only [State.onDev_dev, hswap, Tensor.swapIn, Device.onTensor]
    rfl

/-- A tensor fault sets FPEND. -/
theorem Device.fpend_tfault (d : Device) (c : CoreId) (code : Nat) (tag : W16) :
    ((d.tfault c code tag).core c).csr.fpend = true := by
  rw [Device.tfault, Device.core_onCore_same]
  dsimp only
  split <;> simp [*]

theorem exec_swapTakeEffect_empty {s : State} {c : CoreId} {op : TOp} {rest : List TOp} (h : s.calm c = true)
    (hrun : (s.dev.tensor c).run = none) (hq : (s.dev.tensor c).latticeQ = op :: rest) (hopc : op.opc = 0x91)
    (hback : (s.dev.tensor c).back = none) : ∃ t, exec (.swapTakeEffect c) s = .next t ∧ t.mem = s.mem ∧
      (t.dev.tensor c).latticeQ = rest ∧ (t.dev.tensor c).front = (s.dev.tensor c).front ∧ (t.dev.core c).csr.fpend = true := by
  have hswap : s.dev.swapTiles c = (s.dev.onTensor c fun t => { t with latticeQ := rest }).latticeSequence c op.tag := by
    simp [Device.swapTiles, hrun, hq, hopc, hback]
  have htensor : (s.dev.swapTiles c).tensor c = { s.dev.tensor c with latticeQ := rest } := by
    rw [hswap, Device.tensor_latticeSequence, Device.tensor_onTensor_same]
  refine ⟨_, (exec_swapTakeEffect s c).trans (engine_calm h ?_ ?_), rfl, ?_, ?_, ?_⟩
  all_goals simp only [State.onDev_dev, htensor]
  rw [hswap]
  exact Device.fpend_tfault ..

/-! ## The start of a run (R142, R167, R281, R282) -/

theorem State.seedItem_unseeded {s : State} {c : CoreId} {op : TOp} (h : runSeed op = false) : s.seedItem c op = some none := by
  simp [State.seedItem, h]

/-- Reduction positions of a run: of its own weight tiles, or of the tile in front (R281). -/
def Tensor.runLength (t : Tensor) (op : TOp) : Nat :=
  if runWsrc op then op.x.toNat else (t.front.map fun w => w.positions).getD 0

/-- A run as it starts: at the first wave of its first tile, with nothing broadcast and its anchor not fixed. -/
structure Run.Begins (r : Run) (op : TOp) (k : Nat) (f : WForm) : Prop where
  op : r.op = op
  k : r.k = k
  tile : r.tile = 0
  wave : r.wave = 0
  fixed : r.fixed = false
  flight : r.flight = []
  form : r.form = some f

/-- An output tile as its run starts: empty tallies, and not ended. -/
structure OutTile.Begins (o : OutTile) (op : TOp) (n : Nat) : Prop where
  seq : o.seq = op.seq
  m : o.m = runM op
  n : o.n = n
  ended : o.ended = false
  tallies : o.tallies = []

theorem State.startRun_starts {s : State} {c : CoreId} {op : TOp} {rest : List TOp} {f : WForm}
    (hq : (s.dev.tensor c).latticeQ = op :: rest) (hopc : op.opc = 0x92) (hmay : s.dev.runMayStart c op = true)
    (hform : s.firstForm c op = some f) (hseed : runSeed op = false) (hhand : (s.dev.runHandles c op).2 = true)
    (hmode : runMode op < 7) (hk : 0 < (s.dev.tensor c).runLength op) (hk' : (s.dev.tensor c).runLength op ≤ 2 ^ 32)
    (hsize : runM op * f.cols ≤ 8192)
    (hweights : runWsrc op = true →
      s.dev.spanBad c op.ins.b.toNat (runTiles ((s.dev.tensor c).runLength op) f.positions) = false)
    (hacts : s.dev.actSpanBad c op.ins.a.toNat ((s.dev.tensor c).runLength op) (runTra op) = false)
    (houtl : s.outlSpanBad c op (s.dev.actFmt c op) f.cols ((s.dev.genOf (cluOfCore c) op.epoch).getD 0) = false) :
    ∃ d r o, s.startRun c = s.onDev (fun _ => d) ∧ r.Begins op ((s.dev.tensor c).runLength op) f ∧ o.Begins op f.cols ∧
      d.tensor c = { s.dev.tensor c with
        latticeQ := rest, run := some r, outs := (s.dev.tensor c).outs ++ [o]
        lastLayer := some (fmtLayer (s.dev.actFmt c op)), lastMode := runMode op } := by
  have hspan : (runWsrc op && s.dev.spanBad c op.ins.b.toNat (runTiles ((s.dev.tensor c).runLength op) f.positions)) = false := by
    cases h : runWsrc op with
    | true => simp [hweights h]
    | false => rfl
  have hmode' : ¬ 7 ≤ runMode op := Nat.not_le.mpr hmode
  have hk0 : (s.dev.tensor c).runLength op ≠ 0 := Nat.ne_of_gt hk
  have hk32 : ¬ 2 ^ 32 < (s.dev.tensor c).runLength op + 0 := by omega
  have hsize' : ¬ 8192 < runM op * f.cols := Nat.not_lt.mpr hsize
  unfold Tensor.runLength at *
  unfold State.startRun
  simp only [hq, hopc, hmay, hform, State.seedItem_unseeded hseed, hhand, hmode', hk0, hk32, hsize', hspan, hacts, houtl, hseed,
    ne_eq, not_true_eq_false, Bool.not_true, Bool.false_eq_true, or_self, if_false, false_and, Option.isSome_none, Bool.false_and]
  refine ⟨_, ?run, ?out, rfl, ?runBegins, ?outBegins, ?tensor⟩
  case tensor =>
    simp only [Device.tensor_setRegN, Device.tensor_onTensor_same, apply_ite (Device.tensor · c), Device.tensor_latticeOperand,
      Device.tensor_trec, ite_self]
    rfl
  case runBegins => exact ⟨rfl, rfl, rfl, rfl, rfl, rfl, rfl⟩
  case outBegins => exact ⟨rfl, rfl, rfl, rfl, rfl⟩

/-! ## Output tiles of a run (R129, R130) -/

@[simp] theorem Device.tensor_onOut (d : Device) (c : CoreId) (seq : Nat) (f : OutTile → OutTile) :
    (d.onOut c seq f).tensor c =
      { d.tensor c with outs := (d.tensor c).outs.map fun o => if o.seq = seq then f o else o } :=
  Device.tensor_onTensor_same ..

theorem Device.outs_onOut (d : Device) (c : CoreId) (seq : Nat) (f : OutTile → OutTile) :
    ((d.onOut c seq f).tensor c).outs = (d.tensor c).outs.map fun o => if o.seq = seq then f o else o := by
  rw [Device.tensor_onOut]

@[simp] theorem Device.tensor_setRun (d : Device) (c : CoreId) (r : Run) :
    (d.setRun c r).tensor c = { d.tensor c with run := some r } := Device.tensor_onTensor_same ..

/-- The output tile of a run, once it is changed. -/
theorem Tensor.outOf_map {t u : Tensor} {seq : Nat} {o : OutTile} {f : OutTile → OutTile} (hf : ∀ o, (f o).seq = o.seq)
    (hu : u.outs = t.outs.map fun o => if o.seq = seq then f o else o) (h : t.outOf seq = some o) :
    u.outOf seq = some (f o) := by
  have hkey : ((fun o : OutTile => decide (o.seq = seq)) ∘ fun o => if o.seq = seq then f o else o) =
      fun o => decide (o.seq = seq) := by
    funext o
    by_cases ho : o.seq = seq <;> simp [ho, hf]
  have hseq : o.seq = seq := by simpa using List.find?_some h
  rw [Tensor.outOf, hu, List.find?_map, hkey, ← Tensor.outOf, h, Option.map_some, if_pos hseq]

/-! ## The anchor (R142, R153, R154, R212) -/

/-- An anchor lies at or above an exponent. -/
def anchors (a : Option Int) (e : Int) : Prop := ∃ x, a = some x ∧ e ≤ x

theorem anchors_omax_left {a : Option Int} {e : Int} (b : Option Int) (h : anchors a e) : anchors (omax a b) e := by
  obtain ⟨x, rfl, hx⟩ := h
  cases b with
  | none => exact ⟨x, rfl, hx⟩
  | some y => exact ⟨max x y, rfl, Int.le_trans hx (Int.le_max_left x y)⟩

theorem anchors_omax_right (a : Option Int) (e : Int) : anchors (omax a (some e)) e := by
  cases a with
  | none => exact ⟨e, rfl, Int.le_refl e⟩
  | some x => exact ⟨max x e, rfl, Int.le_max_right x e⟩

/-- An anchor that a fold never lowers stays at or above what it is above. -/
theorem anchors_foldl {α : Type} {f : Option Int → α → Option Int} {e : Int} (hf : ∀ a x, anchors a e → anchors (f a x) e)
    (l : List α) {a : Option Int} (h : anchors a e) : anchors (l.foldl f a) e := by
  induction l generalizing a with
  | nil => exact h
  | cons x r ih => exact ih (hf a x h)

/-- An anchor that a fold never lowers comes to lie at or above what one of the list raises it to. -/
theorem anchors_foldl_of_mem {α : Type} {f : Option Int → α → Option Int} {e : Int}
    (hf : ∀ a x, anchors a e → anchors (f a x) e) {l : List α} {x : α} (hx : x ∈ l) (hraise : ∀ a, anchors (f a x) e)
    (a : Option Int) : anchors (l.foldl f a) e := by
  obtain ⟨l1, l2, rfl⟩ := List.append_of_mem hx
  rw [List.foldl_append, List.foldl_cons]
  exact anchors_foldl hf l2 (hraise _)

theorem State.runAdopt_settled {s : State} {c : CoreId} {o : OutTile} {nw n : Nat} {r : Run} (hn : 0 < n)
    (h : s.runNewer c r o nw = none) : s.runAdopt c o nw n r = (r, true) := by
  obtain ⟨m, rfl⟩ := Nat.exists_eq_add_of_lt hn
  simp only [State.runAdopt, h]

/-- An anchor lies at or above the products of an outlier path: a product that is zero or not finite does not count (R153, R154). -/
def anchorsProducts (a : Option Int) (prods : List OutProd) : Prop :=
  ∀ p ∈ prods, p.s ≠ 0 → p.nonfin = false → anchors a (p.e + 2)

/-- The fold of the products' exponents into an anchor lies at or above every product. -/
theorem anchorsProducts_foldl (a : Option Int) (prods : List OutProd) :
    anchorsProducts (prods.foldl (fun m p => if p.s = 0 ∨ p.nonfin = true then m else omax m (some (p.e + 2))) a) prods := by
  intro p hp hs hn
  refine anchors_foldl_of_mem (fun m q h => ?_) hp (fun m => ?_) a
  · split
    · exact h
    · exact anchors_omax_left _ h
  · rw [if_neg (by simp [hs, hn])]
    exact anchors_omax_right ..

/-- The engines of a core whose pre-pass has ended: the run's anchor is fixed, 143 in a semiring mode, else at or above the outlier
products (R142, R153, R154). -/
structure Tensor.AnchorFixed (t u : Tensor) (r : Run) (o : OutTile) (prods : List OutProd) : Prop where
  vectorQ : u.vectorQ = t.vectorQ
  streamQ : u.streamQ = t.streamQ
  run : u.run.map Run.fixed = some true
  out : ∃ o', u.outOf r.op.seq = some o' ∧ (o.mode ≠ 0 → o'.anchor = some 143) ∧
    (o.mode = 0 → anchorsProducts o'.anchor prods)

theorem State.fixAnchor_fixes {s : State} {c : CoreId} {r : Run} {o : OutTile} {as' : List ATile × Bool}
    {ws : List WTile × Bool} {prods : List OutProd} {left : Nat}
    (hleft : left = if runWsrc r.op then runTiles r.k ((r.form.getD .single).positions) - r.loaded else 0)
    (hrun : (s.dev.tensor c).run = some r) (hfix : r.fixed = false) (hout : (s.dev.tensor c).outOf r.op.seq = some o)
    (hnew : s.runNewer c r o left = none) (hacts : s.peekActs c r (r.k + 1) r.held.length r.covered = some as')
    (hws : s.peekWeights c r left = some ws) (hprods : s.outProds c r o (r.row0 as'.1) = some prods) :
    (s.fixAnchor c).mem = s.mem ∧ (s.dev.tensor c).AnchorFixed ((s.fixAnchor c).dev.tensor c) r o prods := by
  unfold State.fixAnchor
  extract_lets t cl
  rw [show t.run = some r from hrun]
  dsimp -zeta only
  extract_lets f nw o0 q r1 s0 item own s1 src op'
  rw [if_neg (by simp [hfix])]
  have hnw : nw = left := hleft.symm
  have ho : o0 = o := by simp only [o0, t, hout, Option.getD_some]
  have hq : q = (r, true) := by simp only [q, ho, hnw, State.runAdopt_settled (n := 65536) (by decide) hnew]
  have hr : r1 = r := by simp only [r1, hq]
  have hs : s0 = s := by simp only [s0, hr, if_true]
  clear_value s0 r1 q o0 nw
  subst s0 r1 q o0 nw
  simp -zeta only [hacts, hws, hout, hprods, Bool.not_true, Bool.false_eq_true, if_false]
  extract_lets mode acts wparts pair seeds a1 a2 anchor wb ab sf wide st d1 d2 d d4 d5 nonfin d6
  have hs1 : State.Bookkept c s s1 := by
    simp only [s1]
    split
    · exact State.bookkept_bringItem ..
    · exact .refl c s
  have hd1 : d1.tensor c = s1.dev.tensor c := by
    simp only [d1, apply_ite (Device.tensor · c), Device.tensor_latticeOperand, ite_self]
  have hd2 : d2.tensor c = d1.tensor c := by
    rcases Option.eq_none_or_eq_some sf with h | ⟨n, h⟩
    · simp only [d2, h]
    · simp only [d2, h, apply_ite (Device.tensor · c), Device.tensor_latticeOperand, ite_self]
  have hd : (d2.tensor c).Bookkept (d.tensor c) := by
    simp only [d]
    split
    · exact Device.bookkept_poisonConsumed ..
    · exact .refl _
  have hd4 : (d2.tensor c).Bookkept (d4.tensor c) := by
    rcases Option.eq_none_or_eq_some item with h | ⟨ps, h⟩
    · simp only [d4, h]
      exact .refl _
    · simp only [d4, h]
      split
      · exact hd.trans (Device.bookkept_streamEnd ..)
      · split
        · exact hd.trans (Device.bookkept_emitReads_putStream ..)
        · exact hd
  have hbooks : (s.dev.tensor c).Bookkept (d4.tensor c) := hs1.tensor.trans (hd1 ▸ hd2 ▸ hd4)
  have hd6 : d6.tensor c = d5.tensor c := by
    simp only [d6, Device.tensor_setRegN, Device.tensor_countTally]
  have houts := (d4.outs_onOut c r.op.seq _ : (d5.tensor c).outs = _).trans (congrArg _ hbooks.outs)
  obtain ⟨o', hout', hanchor⟩ : ∃ o', (d5.tensor c).outOf r.op.seq = some o' ∧ o'.anchor = anchor :=
    ⟨_, Tensor.outOf_map (by intro; rfl) houts hout, rfl⟩
  have hraised : anchorsProducts a2 prods := fun p hp hp0 hpn => by
    refine anchors_foldl (fun a x h => ?_) _ (anchorsProducts_foldl pair prods p hp hp0 hpn)
    split
    · exact h
    · exact anchors_omax_left _ h
  have hqueues : (d5.tensor c).vectorQ = (s.dev.tensor c).vectorQ ∧ (d5.tensor c).streamQ = (s.dev.tensor c).streamQ := by
    rw [Device.tensor_onOut]
    exact ⟨hbooks.vectorQ, hbooks.streamQ⟩
  refine ⟨hs1.mem, ?_⟩
  rw [State.onDev_dev, Device.tensor_setRun, hd6]
  refine ⟨hqueues.1, hqueues.2, rfl, o', hout', fun hm => hanchor.trans (if_neg hm), fun hm => ?_⟩
  rw [hanchor.trans (if_pos hm)]
  exact hraised

/-! ## O29 -/

/-- Settles O29: each event of the calm core by the law of what it does, LOAD_DONE by that of the tile taken, and the anchor by the
folds of the pre-pass, none of which lowers it. -/
theorem latticeTilesAreLoadedAndRunsStart : Obligations.LatticeTilesAreLoadedAndRunsStart := by
  intro s c hcalm x
  refine ⟨fun op rest d w hrun hq hopc hturn hl => exec_loadDone_loads hcalm hrun hq hopc hturn hl,
    fun op rest hrun hq hopc => ⟨fun w => exec_swapTakeEffect_swaps hcalm hrun hq hopc,
      exec_swapTakeEffect_empty hcalm hrun hq hopc⟩, ?_, ?_⟩
  · intro op rest f _ hq hopc hmay hform hseed hhand hmode k hk hk' hsize hweights hacts houtl
    obtain ⟨d, r, o, hstart, hr, ho, htensor⟩ :=
      State.startRun_starts hq hopc hmay hform hseed hhand hmode hk hk' hsize hweights hacts houtl
    refine ⟨_, r, o, (exec_runStart s c).trans (engine_calm hcalm ?_ ?_), ?_⟩
    all_goals rw [hstart, State.onDev_dev, htensor]
    exact ⟨rfl, rfl, rfl, rfl, hr.op, hr.k, hr.tile, hr.wave, hr.fixed, hr.flight, hr.form, ho.seq, ho.m, ho.n, ho.ended,
      ho.tallies⟩
  · intro r o as' ws prods hrun hfix hout left hnew hacts hws hprods
    obtain ⟨hmem, hfixed⟩ := State.fixAnchor_fixes (left := left) rfl hrun hfix hout hnew hacts hws hprods
    obtain ⟨o', hout', hanchor⟩ := hfixed.out
    exact ⟨_, o', (exec_anchorFixed s c).trans (engine_calm hcalm hfixed.vectorQ hfixed.streamQ), hmem, hfixed.run, hout', hanchor⟩

end Sys2Proof.Machine
end

section
/-!
PROOFS. O30: passes, contributions, outlier products, the end of a run and the drain in tally form.
-/
namespace Sys2Proof.Machine

/-! ## One cycle of the array (R132, R135 to R137) -/

@[simp] theorem Run.nextWave_flight (r : Run) (m : Nat) : (r.nextWave m).flight = r.flight := by
  unfold Run.nextWave
  split <;> rfl

/-- A frozen array broadcasts nothing: the cycle is counted. -/
theorem State.broadcast_frozen {s : State} {c : CoreId} {r : Run} {o : OutTile} {k : Nat} (hrun : (s.dev.tensor c).run = some r)
    (hout : (s.dev.tensor c).outOf r.op.seq = some o) (hall : r.allPassed = false) (hfreeze : s.freeze c r o = some k) :
    s.broadcast c = s.onDev fun d => d.stall c k := by
  simp only [State.broadcast, hrun, hout, hall, hfreeze, Bool.false_eq_true, if_false]

/-- A wave that is not zero is not skipped. -/
theorem Device.skipWaves_nonzero (n : Nat) (d : Device) (c : CoreId) {r : Run} (o : OutTile) (h : r.waveZero r.wave = false) :
    Device.skipWaves n d c r o = (d, r) := by
  cases n with
  | zero => rfl
  | succ n => simp only [Device.skipWaves, h, Bool.not_false, Bool.or_true, if_true]

/-- The run once a pass is broadcast: at its next nibble, or at its next wave (R122, R133). -/
def Run.afterPass (r : Run) (o : OutTile) : Run :=
  let two := decide (o.mode = 0) && r.twoPasses r.wave
  if two && !r.high && !(two && !r.high && r.nibbleShort r.wave) then { r with high := true } else r.nextWave o.m

theorem Run.afterPass_flight (r : Run) (o : OutTile) : (r.afterPass o).flight = r.flight := by
  unfold Run.afterPass
  dsimp only
  split
  · rfl
  · exact Run.nextWave_flight r o.m

/-- A wave without a second pass gives way to the next one. -/
theorem Run.afterPass_single {r : Run} {o : OutTile} (h : o.mode ≠ 0 ∨ r.twoPasses r.wave = false) :
    r.afterPass o = r.nextWave o.m := by
  have htwo : (decide (o.mode = 0) && r.twoPasses r.wave) = false := by
    rcases h with h | h <;> simp [h]
  simp [Run.afterPass, htwo]

/-- The run with the pass of its wave on its way to the tallies (R132). -/
def Run.send (r : Run) (w : WTile) (o : OutTile) : Run := { r with flight := r.flight ++ [(r.pass w o r.wave r.high).1] }

theorem Device.advance_sends {d : Device} {c : CoreId} {r : Run} {o : OutTile} {w : WTile} (htile : r.tile < r.swapped)
    (hfront : (d.tensor c).front = some w) (hall : r.allPassed = false) (hzero : r.waveZero r.wave = false) :
    ∃ r', (d.advance c r o).tensor c = { d.tensor c with run := some r' } ∧ r'.flight = (r.send w o).flight ∧
      (o.mode ≠ 0 ∨ r.twoPasses r.wave = false → r' = (r.send w o).nextWave o.m) := by
  have htile' : ¬ r.swapped ≤ r.tile := Nat.not_le.mpr htile
  refine ⟨(r.send w o).afterPass o, ?_, Run.afterPass_flight .., fun h => Run.afterPass_single (r := r.send w o) h⟩
  simp only [Device.advance, htile', Device.skipWaves_nonzero 4 d c o hzero, Device.tensor_setRun, Device.tensor_countPass, hfront,
    hall, hzero, ne_eq, not_true_eq_false, Bool.false_eq_true, Bool.and_false, or_self, if_false]
  rfl

/-- A cycle that does not freeze broadcasts the pass of the wave and the tile in front. -/
theorem State.broadcast_sends {s : State} {c : CoreId} {r : Run} {o : OutTile} {w : WTile} (hrun : (s.dev.tensor c).run = some r)
    (hout : (s.dev.tensor c).outOf r.op.seq = some o) (hall : r.allPassed = false) (hfreeze : s.freeze c r o = none)
    (htile : r.tile < r.swapped) (hfront : (s.dev.tensor c).front = some w) (hzero : r.waveZero r.wave = false) :
    (s.broadcast c).mem = s.mem ∧ ∃ r', (s.broadcast c).dev.tensor c = { s.dev.tensor c with run := some r' } ∧
      r'.flight = (r.send w o).flight ∧ (o.mode ≠ 0 ∨ r.twoPasses r.wave = false → r' = (r.send w o).nextWave o.m) := by
  have hsends : ∀ d : Device, d.tensor c = s.dev.tensor c → ∃ r', (d.advance c r o).tensor c = { s.dev.tensor c with run := some r' } ∧
      r'.flight = (r.send w o).flight ∧ (o.mode ≠ 0 ∨ r.twoPasses r.wave = false → r' = (r.send w o).nextWave o.m) := by
    intro d hd
    rw [← hd] at hfront ⊢
    exact Device.advance_sends htile hfront hall hzero
  simp only [State.broadcast, hrun, hout, hall, hfreeze, Bool.false_eq_true, if_false, State.onDev_mem, State.onDev_dev, true_and]
  split
  · exact hsends _ (Device.tensor_stall ..)
  · exact hsends _ rfl

/-! ## Contributions (R156) -/

/-- What is asked of every output tile of a run holds where each of them is changed and the change brings it about. -/
theorem outs_map_of_change {outs : List OutTile} {seq : Nat} {f : OutTile → OutTile} {p : OutTile → Prop} (hp : ∀ o, p (f o)) :
    ∀ o ∈ outs.map fun o => if o.seq = seq then f o else o, o.seq = seq → p o := by
  intro o ho
  obtain ⟨o0, -, rfl⟩ := List.mem_map.mp ho
  split
  · exact fun _ => hp o0
  · exact fun h => absurd h ‹_›

/-- A pass of one contribution, none of whose columns is poisoned, enters its tally. -/
theorem Device.tallyPass_enters {d : Device} {c : CoreId} {r : Run} {o : OutTile} {p : Pass} {rest : List Pass} {col : Nat}
    {v e : Int} {b : Bool} (hrun : (d.tensor c).run = some r) (hout : (d.tensor c).outOf r.op.seq = some o)
    (hflight : r.flight = p :: rest) (hadds : p.adds = [(col, v, e, b)]) (hbad : p.bad = []) :
    (d.tallyPass c).tensor c = { d.tensor c with
      run := some { r with flight := rest }
      outs := (d.tensor c).outs.map fun o' => if o'.seq = r.op.seq then { o' with
        tallies := tput o.tallies (p.wave * o.n + col)
          ((tget o.tallies Tally.empty (p.wave * o.n + col)).enter o.mode (o.anchor.getD 0) v e).1 } else o' } := by
  simp only [Device.tallyPass, hrun, hflight, hout, hadds, hbad, List.foldl_cons, List.foldl_nil, List.isEmpty_nil, if_true,
    Device.tensor_countTally, Device.tensor_onOut, Device.tensor_setRun, OutTile.poisonCols]

/-- A product of finite operands, none of them poisoned, enters its tally (R158). -/
theorem State.outlierProduct_enters {s : State} {c : CoreId} {r : Run} {o : OutTile} {ps : List OutProd} {p : OutProd}
    (hrun : (s.dev.tensor c).run = some r) (hout : (s.dev.tensor c).outOf r.op.seq = some o) (hfix : r.fixed = true)
    (hprods : s.outProds c r o (r.row0 []) = some ps) (hp : ps[r.outliers]? = some p) (hdead : o.dead = false)
    (hfin : p.nonfin = false) (hclean : p.poison = false) : (s.outlierProduct c).mem = s.mem ∧
      Tensor.Bookkept { s.dev.tensor c with
        run := some { r with outliers := r.outliers + 1 }
        outs := (s.dev.tensor c).outs.map fun o' => if o'.seq = r.op.seq then { o' with
          tallies := tput o'.tallies (p.wave * o.n + p.col)
            ((tget o.tallies Tally.empty (p.wave * o.n + p.col)).enter 0 (o.anchor.getD 0) p.s p.e).1 } else o' }
        ((s.outlierProduct c).dev.tensor c) := by
  simp only [State.outlierProduct, hrun, hout, hfix, hprods, hp, hdead, hfin, hclean, Bool.not_true, Bool.false_eq_true, if_false,
    Bool.or_self, Bool.or_false, State.onDev_mem, State.onDev_dev, true_and]
  split
  · refine Tensor.Bookkept.trans (.of_eq ?_) (Device.bookkept_trecOnce ..)
    simp only [Device.tensor_addRf, Device.tensor_countTally, Device.tensor_onOut, Device.tensor_setRun]
  · refine .of_eq ?_
    simp only [Device.tensor_addRf, Device.tensor_countTally, Device.tensor_onOut, Device.tensor_setRun]

/-! ## The end of a run (R283) -/

theorem State.bookkept_foldl {α : Type} {c : CoreId} {f : State → α → State} (hf : ∀ s a, State.Bookkept c s (f s a)) (l : List α)
    (s : State) : State.Bookkept c s (l.foldl f s) := by
  induction l generalizing s with
  | nil => exact .refl c s
  | cons a r ih => exact (hf s a).trans (ih (f s a))

theorem State.bookkept_outlTake (s : State) (c : CoreId) (r : Run) (o : OutTile) : State.Bookkept c s (s.outlTake c r o) := by
  unfold State.outlTake
  dsimp only
  split
  · exact .refl c s
  · split
    · exact .refl c s
    · refine State.bookkept_foldl (fun s _ => (State.bookkept_bringItem ..).thenDev fun d => ?_) _ s
      split
      · exact .refl _
      · split
        · exact Device.bookkept_emitReads_putStream ..
        · exact Device.bookkept_streamEnd ..

section RunEnd
variable {s : State} {c : CoreId} {r : Run} {o : OutTile} {ps : List OutProd} (hrun : (s.dev.tensor c).run = some r)
  (hout : (s.dev.tensor c).outOf r.op.seq = some o) (hprods : s.outProds c r o (r.row0 []) = some ps)
include hrun hout hprods

/-- A run with a pass to broadcast or to enter, or an outlier product to enter, goes on. -/
theorem State.endRun_waits (h : r.allPassed = false ∨ r.flight ≠ [] ∨ r.outliers < ps.length) : s.endRun c = s := by
  have hwait : (!r.allPassed || !r.flight.isEmpty || decide (r.outliers < ps.length) || !r.fixed) = true := by
    rcases h with h | h | h <;> simp [h]
  simp only [State.endRun, hrun, hout, hprods, hwait, if_true]

/-- A run with nothing left to broadcast or to enter ends, and its output tile is complete. -/
theorem State.endRun_ends (hfix : r.fixed = true) (hall : r.allPassed = true) (hflight : r.flight = [])
    (hlen : ps.length ≤ r.outliers) : (s.endRun c).mem = s.mem ∧ ∃ u, (s.dev.tensor c).Bookkept u ∧
      (s.endRun c).dev.tensor c = { u with
        run := none
        outs := u.outs.map fun o => if o.seq = r.op.seq then { o with ended := true, acts := r.values o.m } else o } := by
  have hlen' : ¬ r.outliers < ps.length := Nat.not_lt.mpr hlen
  have htake := s.bookkept_outlTake c r o
  simp only [State.endRun, hrun, hout, hprods, hfix, hall, hflight, hlen', List.isEmpty_nil, Bool.not_true, decide_false,
    Bool.or_self, Bool.false_eq_true, if_false, State.onDev_mem, State.onDev_dev]
  refine ⟨htake.mem, _, htake.tensor, ?_⟩
  rw [Device.tensor_onOut, Device.tensor_onTensor_same]

end RunEnd

/-! ## Items in tally form (R165, R284) -/

theorem rowsOf_flatten {α : Type} {n : Nat} (hn : 0 < n) (fuel : Nat) (l : List α) (h : l.length < fuel) :
    (rowsOf n fuel l).flatten = l := by
  induction fuel generalizing l with
  | zero => omega
  | succ fuel ih =>
    rw [rowsOf]
    split
    · simp_all
    · rename_i hne
      have hpos : 0 < l.length := List.length_pos_iff.mpr (by simpa using hne)
      rw [List.flatten_cons, ih _ (by rw [List.length_drop]; omega), List.take_append_drop]

/-- What a change of the last element keeps. -/
theorem map_mapLast {α β : Type} {f : α → α} {g : α → β} (h : ∀ x, g (f x) = g x) : ∀ l, (mapLast f l).map g = l.map g
  | [] => rfl
  | [x] => congrArg (· :: []) (h x)
  | x :: y :: r => congrArg (g x :: ·) (map_mapLast h (y :: r))

/-- Marking the last packet of an item changes LAST alone. -/
theorem map_markLast {β : Type} {g : Packet → β} (h : ∀ p, g { p with hdr := { p.hdr with last := true } } = g p) (ps : List Packet) :
    (markLast ps).map g = ps.map g := map_mapLast h ps

/-- The packets of records in tally form, 32 records to each (R165). -/
def tallyPackets (hdr : Header) (rs : List (List Byte × Bool)) : List Packet :=
  markLast ((rowsOf 32 (rs.length + 1) rs).map fun q => plainPacket hdr 0 0 (q.map fun x => x.1).flatten (q.any fun x => x.2))

/-- The packets carry the records in order. -/
theorem tallyPackets_payload (hdr : Header) (rs : List (List Byte × Bool)) :
    ((tallyPackets hdr rs).map fun p => p.payload).flatten = (rs.map fun x => x.1).flatten := by
  have hrows := rowsOf_flatten (n := 32) (by decide) (rs.length + 1) rs (Nat.lt_succ_self _)
  rw [tallyPackets, map_markLast (g := fun p => p.payload) fun _ => rfl, List.map_map]
  conv => rhs; rw [← hrows, List.map_flatten, List.flatten_flatten, List.map_map]
  rfl

/-- The packets carry the epoch of their header. -/
theorem tallyPackets_epoch (hdr : Header) (rs : List (List Byte × Bool)) : ∀ p ∈ tallyPackets hdr rs, p.hdr.epoch = hdr.epoch := by
  intro p hp
  have hmem : p.hdr.epoch ∈ (tallyPackets hdr rs).map fun p => p.hdr.epoch := List.mem_map_of_mem hp
  rw [tallyPackets, map_markLast (g := fun p => p.hdr.epoch) fun _ => rfl, List.map_map] at hmem
  obtain ⟨q, -, hq⟩ := List.mem_map.mp hmem
  exact hq.symm

/-! ## The drain (R130, R212, R284) -/

theorem Device.useHandle_usable {d : Device} {c : CoreId} {op : TOp} {h dir : Nat} {st : Stream} (hst : d.stream c h = some st)
    (hdrives : st.drives = none) (hdir : sdDir st.desc.toNat = dir) : d.useHandle c op h dir = (d, true) := by
  simp [Device.useHandle, hst, hdrives, hdir]

theorem Device.acceptItem_accepts {d : Device} {c : CoreId} {h : Nat} {st : Stream} (tag : W16) (ps : List Packet)
    (hst : d.stream c h = some st) (hleft : st.accepted < sdTiles st.desc.toNat (sdExt st.desc.toNat 1)) :
    d.acceptItem c h tag ps = d.setStream c h { st with buf := st.buf ++ [⟨st.accepted, ps⟩], accepted := st.accepted + 1 } := by
  simp only [Device.acceptItem, hst, if_neg (Nat.not_le.mpr hleft)]

@[simp] theorem Device.stream_setStream_same (d : Device) (c : CoreId) (h : Nat) (st : Stream) :
    (d.setStream c h st).stream c h = some st := by
  rw [Device.stream, Device.setStream, Device.tensor_onTensor_same]
  exact tfind_tput_same ..

/-- Sampling an output tile leaves memory and the engines. -/
theorem State.sampleTile_frame (s : State) (c : CoreId) (o : OutTile) (w : Nat) (td : TileAt) :
    (s.sampleTile c o w td).mem = s.mem ∧ (s.sampleTile c o w td).dev.tensor c = s.dev.tensor c := by
  unfold State.sampleTile
  dsimp only
  split
  · exact ⟨rfl, rfl⟩
  · split
    · exact ⟨rfl, rfl⟩
    · exact ⟨rfl, rfl⟩

/-- The drain of an output tile whose run went over to a newer epoch goes over to it (R212). -/
def OutTile.drainOp (o : OutTile) (op : TOp) : TOp :=
  match o.adopted with
  | some e => if epochClass e op.epoch = .newer then { op with epoch := e } else op
  | none => op

/-- A drain differs in its epoch alone from the operation issued, and there only where its run went over. -/
theorem OutTile.drainOp_eq (o : OutTile) (op : TOp) :
    ∃ e, o.drainOp op = { op with epoch := e } ∧ (e = op.epoch ∨ o.adopted = some e) := by
  unfold OutTile.drainOp
  split
  · rename_i e he
    split
    · exact ⟨e, rfl, .inr he⟩
    · exact ⟨op.epoch, rfl, .inl rfl⟩
  · exact ⟨op.epoch, rfl, .inl rfl⟩

theorem State.drainTile_waits {s : State} {c : CoreId} {op : TOp} {rest : List TOp} {o : OutTile} {outs : List OutTile}
    (hq : (s.dev.tensor c).drainQ = op :: rest) (houts : (s.dev.tensor c).outs = o :: outs) (hended : o.ended = false) :
    s.drainTile c = s := by
  simp only [State.drainTile, hq, houts, hended, Bool.not_false, Bool.true_or, if_true]

theorem State.drainTile_sends {s : State} {c : CoreId} {op : TOp} {rest : List TOp} {o : OutTile} {outs : List OutTile} {st : Stream}
    (hq : (s.dev.tensor c).drainQ = op :: rest) (houts : (s.dev.tensor c).outs = o :: outs)
    (hturn : (s.dev.tensor c).turns op = true) (hep : s.dev.epochReached c op.epoch = true)
    (hadopted : ∀ e, o.adopted = some e → s.dev.epochReached c e = true)
    (hhold : s.dev.holdOut ⟨.core c.die c.cluster c.core, 64⟩ = false) (hst : s.dev.stream c op.ins.d.toNat = some st)
    (hdrives : st.drives = none) (hdir : sdDir st.desc.toNat = 1) (hroom : st.room = true)
    (hleft : st.accepted < sdTiles st.desc.toNat (sdExt st.desc.toNat 1)) (hended : o.ended = true)
    (hkind : (tgtOf op op.x op.y).kind = 4) :
    let ps := tallyPackets (coreHdr c 0x01 op.tag (o.drainOp op).epoch) ((List.range (o.m * o.n)).map fun i => o.record i)
    (s.drainTile c).mem = s.mem ∧
      (s.drainTile c).dev.tensor c = { s.dev.tensor c with
        drainQ := rest, outs := outs
        streams := tput (s.dev.tensor c).streams op.ins.d.toNat
          { st with buf := st.buf ++ [⟨st.accepted, ps⟩], accepted := st.accepted + 1 } } := by
  intro ps
  obtain ⟨e, hop, he⟩ := o.drainOp_eq op
  have hreach : s.dev.epochReached c e = true := by
    rcases he with rfl | he
    · exact hep
    · exact hadopted e he
  have hready : s.dev.dstReady c op.ins.d.toNat = true := by simp [Device.dstReady, hst, hroom]
  unfold State.drainTile
  extract_lets t cl
  rw [show t.drainQ = op :: rest from hq, show t.outs = o :: outs from houts]
  dsimp -zeta only
  extract_lets h op' g s1 ok s2 rs hdr intBad els
  have hop' : op' = { op with epoch := e } := hop
  have hps : ps = tallyPackets hdr rs := by simp only [ps, hdr, rs, hop, hop']
  have hkind' : g.kind = 4 := by simp only [g, hop']; exact hkind
  have hgo : ¬ (!o.ended || !t.turns op' || !s.dev.dstReady c h || !s.dev.epochReached c op'.epoch ||
      s.dev.holdOut ⟨.core c.die c.cluster c.core, 64⟩) = true := by
    have hturn' : t.turns op' = true := by rw [hop']; exact hturn
    have hreach' : s.dev.epochReached c op'.epoch = true := by rw [hop']; exact hreach
    simp only [hended, hturn', hready, hreach', hhold, h, Bool.not_true, Bool.or_self, Bool.false_eq_true, not_false_eq_true]
  have ht1 : s1.dev.tensor c = { t with drainQ := rest, outs := outs } := Device.tensor_onTensor_same ..
  have hst1 : s1.dev.stream c h = some st := by rw [Device.stream, ht1]; exact hst
  have hok : ok = (s1.dev, true) := Device.useHandle_usable hst1 hdrives hdir
  have hs2 : s2 = s1 := by simp only [s2, hok]; rfl
  rw [if_neg hgo, hs2, hok]
  simp -zeta only [hst1, hkind', Bool.not_true, Bool.false_eq_true, if_false, if_true]
  extract_lets td s3
  obtain ⟨hmem3, ht3⟩ := s1.sampleTile_frame c o st.desc.toNat td
  have hst3 : s3.dev.stream c h = some st := by rw [Device.stream, ht3]; exact hst1
  rw [State.onDev_mem, State.onDev_dev, Device.acceptItem_accepts _ _ hst3 hleft, Device.setStream, Device.tensor_onTensor_same, ht3,
    ht1, hps]
  exact ⟨hmem3, rfl⟩

/-! ## O30 -/

/-- Settles O30: each event of the calm core by the law of what it does; a drain in tally form sends the packets of the tallies'
records. -/
theorem latticePassesFillTalliesThatDrain : Obligations.LatticePassesFillTalliesThatDrain := by
  intro s c hcalm x tallies
  refine ⟨fun r o hrun hout => ⟨fun k hall hfreeze => ?_, fun w hall hfreeze htile hfront hzero => ?_,
    fun p rest col v e b hflight hadds hbad => ?_, fun ps p hfix hprods hp hdead hfin hclean => ?_,
    fun ps hprods hfix => ⟨fun hwait => ?_, fun hall hflight hlen => ?_⟩⟩,
    ?_⟩
  · have hb := State.broadcast_frozen hrun hout hall hfreeze
    refine ⟨_, (exec_passBroadcast s c).trans (engine_calm hcalm ?_ ?_), ?_, ?_⟩
    all_goals rw [hb]
    all_goals rfl
  · obtain ⟨hmem, r', htensor, hflight, hnext⟩ := State.broadcast_sends hrun hout hall hfreeze htile hfront hzero
    refine ⟨_, r', (exec_passBroadcast s c).trans (engine_calm hcalm ?_ ?_), hmem, ?_, hflight, hnext⟩
    all_goals rw [htensor]
  · have htensor := Device.tallyPass_enters hrun hout hflight hadds hbad
    refine ⟨_, (exec_tallyUpdate s c).trans (engine_calm hcalm ?_ ?_), rfl, ?_, ?_⟩
    all_goals simp only [tallies, State.onDev_dev, htensor]
    exact outs_map_of_change fun o' => tget_tput_same ..
  · obtain ⟨hmem, hbooks⟩ := State.outlierProduct_enters hrun hout hfix hprods hp hdead hfin hclean
    refine ⟨_, (exec_outlierProduct s c).trans (engine_calm hcalm hbooks.vectorQ hbooks.streamQ), hmem, hbooks.run, ?_⟩
    simp only [tallies, hbooks.outs]
    exact outs_map_of_change fun o' => tget_tput_same ..
  · exact (exec_runEnd s c).trans (engine_keep hcalm (State.endRun_waits hrun hout hprods hwait))
  · obtain ⟨hmem, u, hbooks, htensor⟩ := State.endRun_ends hrun hout hprods hfix hall hflight hlen
    refine ⟨_, (exec_runEnd s c).trans (engine_calm hcalm ?_ ?_), hmem, ?_, ?_⟩
    all_goals simp only [tallies, htensor]
    · exact hbooks.vectorQ
    · exact hbooks.streamQ
    · exact outs_map_of_change fun _ => rfl
  · intro op rest o outs st hq houts hturn h hep hadopted hhold hst hdrives hdir hroom hleft
    refine ⟨fun hended => ?_, fun hended hkind => ?_⟩
    · exact (exec_drainTile s c).trans (engine_keep hcalm (State.drainTile_waits hq houts hended))
    · obtain ⟨hmem, htensor⟩ := State.drainTile_sends hq houts hturn hep hadopted hhold hst hdrives hdir hroom hleft hended hkind
      obtain ⟨e, hop, he⟩ := o.drainOp_eq op
      refine ⟨_, tallyPackets (coreHdr c 0x01 op.tag (o.drainOp op).epoch) ((List.range (o.m * o.n)).map fun i => o.record i),
        (exec_drainTile s c).trans (engine_calm hcalm ?_ ?_), hmem, ?_, ?_, ?_, ?_, fun hkept p hp => ?_⟩
      · rw [htensor]
      · rw [htensor]
      · rw [htensor]
      · rw [htensor]
      · rw [Device.stream, htensor]
        exact tfind_tput_same ..
      · rw [tallyPackets_payload, List.map_map]
        rfl
      · rw [tallyPackets_epoch _ _ p hp, OutTile.drainOp, hkept]
        rfl

end Sys2Proof.Machine
end

section
/-!
PROOFS. The ring of a wire engine: what leaves its depth and HEAD as they are (R403).
-/
namespace Sys2Proof.Machine

/-! ## The registers of the ring -/

/-- Reporting counts in no register of a cluster. -/
theorem not_reportReg_clu (cl : ClusterId) (o : Nat) : ¬ reportReg (Reg.clu cl o) := fun h => by
  have := reportReg_bounds h
  simp only [Reg.clu, blockBase] at this
  omega

/-- A record of the wire engine changes nothing but the reports. -/
theorem Device.Reports.wireEmit (d : Device) (cl : ClusterId) (code : Nat) (cls : EvClass) (p : Bool)
    (det : List (Nat × Nat × Nat)) : d.Reports (d.wireEmit cl code cls p det) := Device.Reports.emit ..

/-- Reports leave the fields of CLU.WIRE_STAT. -/
theorem Device.Reports.rf_wireStat {d e : Device} {cl : ClusterId} (h : d.Reports e) (hi lo : Nat) :
    e.rf (Reg.wireStat cl) hi lo = d.rf (Reg.wireStat cl) hi lo := by
  have hreg : e.reg (Reg.wireStat cl) = d.reg (Reg.wireStat cl) := h.regs _ (not_reportReg_clu cl _)
  simp only [Device.rf, Device.regN, hreg]

/-- The ring of a cluster has its depth and its HEAD as before. -/
structure Device.KeepsHead (cl : ClusterId) (d e : Device) : Prop where
  depth : e.wireDepth cl = d.wireDepth cl
  head : e.wireHeadAt cl = d.wireHeadAt cl

namespace Device.KeepsHead
variable {cl : ClusterId} {d e f : Device}

theorem refl (d : Device) : d.KeepsHead cl d := ⟨rfl, rfl⟩

theorem trans (h : d.KeepsHead cl e) (h' : e.KeepsHead cl f) : d.KeepsHead cl f :=
  ⟨h'.depth.trans h.depth, h'.head.trans h.head⟩

/-- A change of a register other than CLU.WIRE_RING and CLU.WIRE_STAT. -/
theorem reg (h : d.KeepsHead cl e) (hring : f.reg (Reg.wireRing cl) = e.reg (Reg.wireRing cl))
    (hstat : f.reg (Reg.wireStat cl) = e.reg (Reg.wireStat cl)) : d.KeepsHead cl f := by
  refine h.trans ⟨?_, ?_⟩
  · simp only [Device.wireDepth, Device.rf, Device.regN, hring]
  · simp only [Device.wireHeadAt, Device.rf, Device.regN, hstat]

theorem regs (h : d.KeepsHead cl e) (hr : f.regs = e.regs) : d.KeepsHead cl f :=
  h.reg (by rw [Device.reg, hr, Device.reg]) (by rw [Device.reg, hr, Device.reg])

theorem reports (h : d.KeepsHead cl e) (hr : e.Reports f) : d.KeepsHead cl f :=
  h.reg (hr.regs _ (not_reportReg_clu cl _)) (hr.regs _ (not_reportReg_clu cl _))

/-- One change or another, of anything that holds a module. -/
theorem choice {β : Type} (dev : β → Device) {p : Prop} [Decidable p] {a b : β} (h : d.KeepsHead cl (dev a))
    (h' : d.KeepsHead cl (dev b)) : d.KeepsHead cl (dev (if p then a else b)) := by
  split
  · exact h
  · exact h'

theorem ite {p : Prop} [Decidable p] (h : d.KeepsHead cl e) (h' : d.KeepsHead cl f) : d.KeepsHead cl (if p then e else f) :=
  choice id h h'

/-- Steps that each keep the head, of anything that holds a module. -/
theorem foldl {α β : Type} {dev : β → Device} {g : β → α → β} {b : β} (l : List α) (h : d.KeepsHead cl (dev b))
    (hg : ∀ b a, (dev b).KeepsHead cl (dev (g b a))) : d.KeepsHead cl (dev (l.foldl g b)) := by
  induction l generalizing b with
  | nil => exact h
  | cons a r ih => exact ih (h.trans (hg b a))

/-! ## Records, counts and stores -/

section Steps
variable (h : d.KeepsHead cl e)
include h

theorem emit (src : EvSrc) (code : Nat) (cls : EvClass) (p : Bool) (det : List Byte) (o : Option (Nat × Nat)) :
    d.KeepsHead cl (e.emit src code cls p det o) := h.reports (Device.Reports.emit ..)

theorem wireEmit (x : ClusterId) (code : Nat) (cls : EvClass) (p : Bool) (det : List (Nat × Nat × Nat)) :
    d.KeepsHead cl (e.wireEmit x code cls p det) := h.reports (Device.Reports.wireEmit ..)

theorem send (o : Output) : d.KeepsHead cl (e.send o) := h.reports (Device.Reports.send ..)

/-- ERRORS stands beside HEAD in CLU.WIRE_STAT. -/
theorem wireError : d.KeepsHead cl (e.wireError cl) := by
  have hne : Reg.wireRing cl ≠ Reg.wireStat cl := by simp only [Reg.wireRing, Reg.wireStat, Reg.clu]; omega
  refine h.trans ⟨?_, Device.rf_setRf_apart _ _ _ (by decide) (by decide)⟩
  simp only [Device.wireDepth, Device.rf, Device.regN, Device.wireError, Device.reg_addRf_other _ _ _ _ hne]

theorem setUnits (x : ClusterId) (u : CluUnits) : d.KeepsHead cl (e.setUnits x u) := h.regs rfl
theorem setPort (p : Nat) (x : Port) : d.KeepsHead cl (e.setPort p x) := h.regs rfl
theorem onPort (p : Nat) (g : Port → Port) : d.KeepsHead cl (e.onPort p g) := h.regs rfl
theorem onPeer (g : PeerUnit → PeerUnit) : d.KeepsHead cl (e.onPeer g) := h.regs rfl

theorem scPoison (x : ClusterId) (n : Nat) : d.KeepsHead cl (e.scPoison x n) := h.regs rfl

theorem scAdd (x : ClusterId) (n off size k : Nat) : d.KeepsHead cl (e.scAdd x n off size k) := ite h (h.regs rfl)

theorem scMax (x : ClusterId) (n off size v : Nat) : d.KeepsHead cl (e.scMax x n off size v) := ite (h.regs rfl) h

theorem tsMax (i v : Nat) : d.KeepsHead cl (e.tsMax cl i v) := by
  have hring : Reg.wireRing cl ≠ Reg.tscaleMax cl i := by simp only [Reg.wireRing, Reg.tscaleMax, Reg.clu]; omega
  have hstat : Reg.wireStat cl ≠ Reg.tscaleMax cl i := by simp only [Reg.wireStat, Reg.tscaleMax, Reg.clu]; omega
  exact ite (h.reg (Device.reg_setRf_other _ _ _ _ hring) (Device.reg_setRf_other _ _ _ _ hstat)) h

theorem countElems (x : ClusterId) (n : Nat) (els : List El) (sat : Nat) : d.KeepsHead cl (e.countElems x n els sat) :=
  have counts := (h.scMax x n 0 4 _).scAdd x n 4 2 sat
  ite (counts.scPoison x n) counts

theorem countBlock (gen n ts index : Nat) (t : Rat) (els : List El) (r : ConvBlock) :
    d.KeepsHead cl (e.countBlock cl gen n ts index t els r) := by
  have counts := ((((h.countElems cl n els r.sat).tsMax ts (fp32Up (maxMag els))).scAdd cl n 6 1 (ofBool r.rangeSat)).scAdd cl n 7 1
    (ofBool r.blk.dead)).scAdd cl n 8 4 (ofBool (decide (r.blk = .zero)))
  exact ite (((h.scPoison cl n).scMax cl n 0 4 _).tsMax ts _) (ite counts (ite (counts.scAdd ..) counts))

/-! ## Packets to other seats (R469, R474) -/

theorem flitOut (p hdr : Nat) (payload : List Byte) : d.KeepsHead cl (e.flitOut p hdr payload) := by
  unfold Device.flitOut
  exact send (setPort (ite (h.reports (Device.Reports.addRf _ _ _ _ (Device.Reports.dbgCnt (by decide)))) h) ..) _

theorem sendFlit (p hdr : Nat) (payload : List Byte) : d.KeepsHead cl (e.sendFlit p hdr payload) :=
  ite (h.onPort ..) (h.flitOut ..)

theorem sendPacketFlits (p : Nat) (pk : PeerPacket) : d.KeepsHead cl (e.sendPacketFlits p pk) :=
  foldl (dev := id) _ (h.setPort p _) fun b _ => (refl b).sendFlit ..

theorem pumpFuel (n p : Nat) : d.KeepsHead cl (Device.pumpFuel n e p) := by
  induction n generalizing e with
  | zero => exact h
  | succ n ih =>
    unfold Device.pumpFuel
    split
    · exact h
    · exact ih ((h.onPort ..).sendPacketFlits ..)

theorem queuePacket (p vc : Nat) (bytes : List Byte) (entry : Option Nat) : d.KeepsHead cl (e.queuePacket p vc bytes entry) :=
  pumpFuel (h.onPort ..) ..

theorem unreachable (tag t : Nat) : d.KeepsHead cl (e.unreachable tag t) := ite h ((h.onPeer _).emit ..)

theorem sendToSeat (t net : Nat) (hdr : Header) (payload : List Byte) : d.KeepsHead cl (e.sendToSeat t net hdr payload) := by
  unfold Device.sendToSeat
  dsimp only
  split
  · exact unreachable (ite (h.send _) h) ..
  · exact ite ((h.onPeer _).queuePacket ..) (h.queuePacket ..)

end Steps

end Device.KeepsHead

/-- A store reaches no register: the register region takes none. -/
theorem State.store_regs (s : State) (a : Nat) (bs : List Byte) (p : Bool) : (s.store a bs p).dev.regs = s.dev.regs := by
  unfold State.store
  repeat' split
  all_goals rfl

/-- The sum of a shadow-class tensor leaves as packets (R524). -/
theorem State.sendSum_frame (cl : ClusterId) (s : State) (w : WireCmd) :
    (s.sendSum w).mem = s.mem ∧ s.dev.KeepsHead cl (s.sendSum w).dev := by
  unfold State.sendSum
  dsimp only
  split
  · exact ⟨rfl, .refl _⟩
  · split
    · exact ⟨rfl, .refl _⟩
    · split
      · exact ⟨rfl, .refl _⟩
      · exact ⟨rfl, .foldl (dev := id) _ (.refl _) fun d _ => (Device.KeepsHead.refl d).sendToSeat ..⟩

end Sys2Proof.Machine
end

section
/-!
PROOFS. The commands of a wire engine: what their blocks leave of the ring, and the completion that moves HEAD on (R405 to R409).
-/
namespace Sys2Proof.Machine

/-! ## Blocks -/

namespace Device.KeepsHead
variable {cl : ClusterId} {d : Device} {r : WireRun}

theorem store {s : State} (h : d.KeepsHead cl s.dev) (a : Nat) (bs : List Byte) (p : Bool) :
    d.KeepsHead cl (s.store a bs p).dev := h.regs (State.store_regs ..)

section Runs
variable (h : d.KeepsHead cl r.s.dev)
include h

theorem write (a : Nat) (bs : List Byte) (p : Bool) : d.KeepsHead cl (r.write a bs p).s.dev := h.store ..

theorem writeVals (a n : Nat) (vs : List (Option (List Byte))) : d.KeepsHead cl (r.writeVals a n vs).s.dev := by
  unfold WireRun.writeVals
  split
  · exact h.write ..
  · refine foldl (dev := fun r : WireRun => r.s.dev) _ h fun b v => ?_
    split
    · exact (refl _).write ..
    · exact refl _

theorem packBlock (w : WireCmd) (step b : Nat) : d.KeepsHead cl (r.packBlock cl w step b).s.dev := by
  unfold WireRun.packBlock
  dsimp only
  split
  · apply writeVals
    exact ite (((h.tsMax ..).scAdd ..).scPoison ..) ((h.tsMax ..).scAdd ..)
  · exact ite (((h.tsMax ..).scAdd ..).scPoison ..) ((h.tsMax ..).scAdd ..)

theorem addBlock (w : WireCmd) (b : Nat) : d.KeepsHead cl (r.addBlock cl w b).s.dev := by
  unfold WireRun.addBlock
  dsimp only
  split
  · apply write
    exact foldl (dev := id) _ h fun b _ => (refl b).wireEmit ..
  · exact foldl (dev := id) _ h fun b _ => (refl b).wireEmit ..

theorem unpackBlock (w : WireCmd) (step b : Nat) (dst : Bool) : d.KeepsHead cl (r.unpackBlock cl w step b dst).1.s.dev := by
  unfold WireRun.unpackBlock
  refine choice (fun x : WireRun × (Blk × List Byte × Bool) => x.1.s.dev) ?dead
    (choice (fun x : WireRun × (Blk × List Byte × Bool) => x.1.s.dev) ?fp32 ?narrow)
  case dead => exact ite (ite (h.scPoison ..) h) (wireEmit (ite (h.scPoison ..) h) ..)
  case fp32 =>
    dsimp only
    exact (h.countElems ..).tsMax ..
  case narrow =>
    cases hcb : r.s.dev.codebook cl (fmtCb w.fmt)
    case found cb => exact ite (((h.countBlock ..).setUnits ..).wireEmit ..) (h.countBlock ..)
    all_goals exact h

theorem writePair (a : Nat) (x y : Option (List Byte × Bool)) : d.KeepsHead cl (r.writePair a x y).s.dev := by
  have one : ∀ {r : WireRun} (a : Nat) (v : Option (List Byte × Bool)), d.KeepsHead cl r.s.dev →
      d.KeepsHead cl (match v with
        | some (bs, p) => r.write a bs p
        | none => r).s.dev := fun a v h => by
    split
    · exact h.write ..
    · exact h
  unfold WireRun.writePair
  split
  · exact h.write ..
  · exact one _ _ (one _ _ h)

theorem unpackBlocks (w : WireCmd) (step : Nat) (here : Nat → Bool) (l : List Nat) (bs : List (Blk × List Byte × Bool)) :
    d.KeepsHead cl (l.foldl (fun (a : WireRun × List (Blk × List Byte × Bool)) b =>
      let x := a.1.unpackBlock cl w step b (here b)
      (x.1, a.2 ++ [x.2])) (r, bs)).1.s.dev :=
  foldl (dev := fun a : WireRun × List (Blk × List Byte × Bool) => a.1.s.dev) l h fun a _ => (refl a.1.s.dev).unpackBlock ..

theorem unpack (w : WireCmd) (step : Nat) : d.KeepsHead cl (r.unpack cl w step).s.dev := by
  unfold WireRun.unpack
  refine choice (fun r : WireRun => r.s.dev) ?fp32 (choice (fun r : WireRun => r.s.dev) ?whole ?parts)
  case fp32 => exact foldl (dev := fun r : WireRun => r.s.dev) _ (h.unpackBlocks ..) fun r _ => (refl r.s.dev).writePair ..
  case whole => exact foldl (dev := fun r : WireRun => r.s.dev) _ (h.unpackBlocks ..) fun r _ => (refl r.s.dev).write ..
  case parts =>
    exact foldl (dev := fun r : WireRun => r.s.dev) _ (h.unpackBlocks ..) fun r _ =>
      choice (fun r : WireRun => r.s.dev) (((refl r.s.dev).write ..).write ..) (refl _)

end Runs

theorem reportMask {s : State} (h : d.KeepsHead cl s.dev) (step n : Nat) : d.KeepsHead cl (s.reportMask step n).dev := by
  unfold State.reportMask
  split
  · exact h
  · split
    · exact h
    · refine emit ?_ ..
      exact h.regs rfl

end Device.KeepsHead

/-! ## A command served (R405 to R409) -/

/-- The blocks of a command that no cause refuses: PACK (R405), ADD (R406) or UNPACK (R407). -/
def State.wireBlocks (s : State) (cl : ClusterId) (w : WireCmd) : WireRun :=
  let step := s.dev.rf (Reg.wcStep cl) 31 0
  match w.op with
  | 0 => (List.range (w.count / 32)).foldl (fun r b => r.packBlock cl w step b) ⟨s.reportMask step (fmtLayer w.fmt), none, false, none⟩
  | 1 => (List.range (w.count / 32)).foldl (fun r b => r.addBlock cl w b) ⟨s, none, false, none⟩
  | _ =>
    let r := (⟨s, none, false, none⟩ : WireRun).unpack cl w step
    if s.dev.layerValid cl 0 (fmtLayer w.fmt) then r
    else { r with s := r.s.onDev fun d => d.wireEmit cl 0x4008 .deferred true [(0, 2, w.tag), (2, 1, fmtLayer w.fmt)] }

theorem Device.KeepsHead.wireBlocks (s : State) (cl : ClusterId) (w : WireCmd) : s.dev.KeepsHead cl (s.wireBlocks cl w).s.dev := by
  have h := Device.KeepsHead.refl (cl := cl) s.dev
  unfold State.wireBlocks
  dsimp only
  split
  · exact .foldl (dev := fun r : WireRun => r.s.dev) _ (h.reportMask ..) fun r _ => (Device.KeepsHead.refl r.s.dev).packBlock ..
  · exact .foldl (dev := fun r : WireRun => r.s.dev) _ h fun r _ => (Device.KeepsHead.refl r.s.dev).addBlock ..
  · have hr := Device.KeepsHead.unpack (r := ⟨s, none, false, none⟩) h w (s.dev.rf (Reg.wcStep cl) 31 0)
    exact .choice (fun r : WireRun => r.s.dev) hr (hr.wireEmit ..)

/-- HEAD moves on by one around the ring. -/
theorem Device.wireHeadAt_wireAdvance (d : Device) {cl : ClusterId} (h : d.wireDepth cl ≤ 128) :
    (d.wireAdvance cl).wireHeadAt cl = (d.wireHeadAt cl + 1) % d.wireDepth cl := by
  have hpos : 0 < d.wireDepth cl := Nat.mul_pos (by decide) (Nat.two_pow_pos _)
  have hlt := Nat.mod_lt (d.wireHeadAt cl + 1) hpos
  refine (Device.rf_setRf_same _ _ _ _ (by decide)).trans (Nat.mod_eq_of_lt ?_)
  exact Nat.lt_of_lt_of_le hlt h

/-- The same after changes that keep the head. -/
theorem Device.KeepsHead.wireAdvance {d e : Device} {cl : ClusterId} (h : d.KeepsHead cl e) (hd : d.wireDepth cl ≤ 128) :
    (e.wireAdvance cl).wireHeadAt cl = (d.wireHeadAt cl + 1) % d.wireDepth cl := by
  rw [Device.wireHeadAt_wireAdvance e (h.depth ▸ hd), h.depth, h.head]

/-- The records and the semaphore that complete a command come before HEAD moves; without a semaphore no byte is written. -/
theorem WireRun.finish_eq (r : WireRun) (cl : ClusterId) (w : WireCmd) (a : Nat) :
    ∃ t : State, r.finish cl w a = (t.onDev fun d => d.wireAdvance cl) ∧ r.s.dev.KeepsHead cl t.dev ∧
      (w.flag 1 = false → t.mem = r.s.mem) := by
  obtain ⟨s, bad, missing, sat⟩ := r
  refine ⟨_, rfl, ?_, fun hf => by rw [if_neg (by simp [hf])]; rfl⟩
  have h := Device.KeepsHead.refl (cl := cl) s.dev
  refine .choice State.dev (.store ?records ..) ?records
  have hmissing : ∀ {e : Device} det, s.dev.KeepsHead cl e →
      s.dev.KeepsHead cl (if missing then e.wireEmit cl 0x8021 .deferred false det else e) := fun _ he => .ite (he.wireEmit ..) he
  cases bad
  case none =>
    cases sat
    case none => exact hmissing _ h
    case some x => exact hmissing _ (h.wireEmit ..)
  case some y =>
    cases sat
    case none => exact ((hmissing _ h).wireEmit ..).wireError
    case some x => exact ((hmissing _ (h.wireEmit ..)).wireEmit ..).wireError

/-- It is the turn of the command at HEAD, which is read unpoisoned and is of the row that an OP serves (R403, R409). -/
structure State.WireServes (s : State) (cl : ClusterId) (op : Nat) (w : WireCmd) : Prop where
  present : clusterPresent cl = true
  turn : s.dev.wireTurn cl = true
  load : s.load (s.dev.wireEntry cl (s.dev.wireHeadAt cl)) 64 = (w.bytes, false)
  row : (if w.op ≤ 2 then w.op else 0) = op

namespace State.WireServes
variable {s : State} {cl : ClusterId} {op : Nat} {w : WireCmd}

/-- A cause refuses the command: its record, one more error, and HEAD moves (R408). -/
theorem refuses (h : s.WireServes cl op w) {cause : Nat} (hcause : s.dev.wireCause cl w = some cause) :
    s.wireServe cl op = s.onDev fun d => ((d.wireEmit cl 0x8021 .deferred false
      [(0, 2, w.tag), (2, 1, w.op), (3, 1, s.dev.wireHeadAt cl), (4, 1, cause)]).wireError cl).wireAdvance cl := by
  unfold State.wireServe
  simp only [h.present, h.turn, h.load, h.row, hcause, Bool.not_true, Bool.or_self, Bool.false_eq_true, if_false, ne_eq,
    not_true_eq_false]

/-- No cause refuses the command: its blocks, then its completion. -/
theorem runs (h : s.WireServes cl op w) (hcause : s.dev.wireCause cl w = none) :
    s.wireServe cl op = (s.wireBlocks cl w).finish cl w (anchorByte (tsValue (s.dev.tscale cl 0 w.tscWire))) := by
  unfold State.wireServe
  simp only [h.present, h.turn, h.load, h.row, hcause, Bool.not_true, Bool.or_self, Bool.false_eq_true, if_false, ne_eq,
    not_true_eq_false]
  rfl

end State.WireServes

end Sys2Proof.Machine
end

section
/-!
PROOFS. O37: the commands of a wire engine, the sums that WIRE_ADD stores, and the registers of its ring.
-/
namespace Sys2Proof.Machine

/-! ## The turn of the ring (R403, R409) -/

/-- A ring that is off or empty has no turn. -/
theorem Device.wireTurn_idle {d : Device} {cl : ClusterId}
    (h : d.rbit (Reg.wireRing cl) 0 = false ∨ d.wireHeadAt cl = d.rf (Reg.wireTail cl) 6 0) : d.wireTurn cl = false := by
  have hwaits : d.wireWaits cl = false := by
    obtain hoff | hempty := h
    · simp [Device.wireWaits, hoff]
    · have hempty' : d.rf (Reg.wireStat cl) 6 0 = d.rf (Reg.wireTail cl) 6 0 := hempty
      simp [Device.wireWaits, hempty']
  rw [Device.wireTurn, hwaits, Bool.false_and]

/-- An update operation that can be served and reached the unit first has the turn. -/
theorem Device.wireTurn_behind {d : Device} {cl : ClusterId} (h : (d.unitsOf cl).wireAhead ≠ 0) (hready : d.updateReady cl = true) :
    d.wireTurn cl = false := by
  simp [Device.wireTurn, h, hready]

/-! ## What a refusal records and counts (R408) -/

/-- Where no partition is writing, a record of the wire engine is the newest. -/
theorem Device.wireEmit_newest {d : Device} (h : d.untraced) (cl : ClusterId) (code : Nat) (cls : EvClass) (p : Bool)
    (det : List (Nat × Nat × Nat)) : (d.wireEmit cl code cls p det).newest = some code := by
  unfold Device.wireEmit
  rw [Device.newest, Device.emit_log h]
  rfl

/-- ERRORS counts one more and stops at its largest value. -/
theorem Device.errors_wireError (cl : ClusterId) (d : Device) :
    (d.wireError cl).rf (Reg.wireStat cl) 31 16 = Nat.min 65535 (d.rf (Reg.wireStat cl) 31 16 + 1) := by
  refine (Device.rf_setRf_same _ _ _ _ (by decide)).trans ?_
  rw [satBits, Nat.mod_eq_of_lt (Nat.lt_of_le_of_lt (Nat.min_le_right ..) (by decide))]
  exact Nat.min_comm ..

theorem Device.newest_wireError (d : Device) (cl : ClusterId) : (d.wireError cl).newest = d.newest := rfl

theorem Device.newest_wireAdvance (d : Device) (cl : ClusterId) : (d.wireAdvance cl).newest = d.newest := rfl

theorem Device.errors_wireAdvance (d : Device) (cl : ClusterId) :
    (d.wireAdvance cl).rf (Reg.wireStat cl) 31 16 = d.rf (Reg.wireStat cl) 31 16 :=
  Device.rf_setRf_apart _ _ _ (by decide) (by decide)

/-! ## The three commands of the ring -/

/-- The row of each OP (R403): reserved OPs are PACK's. -/
def wireCommands (cl : ClusterId) : List (Nat × Instr) := [(0, .pack cl), (1, .wireAdd cl), (2, .unpack cl)]

theorem wireCommands_le {cl : ClusterId} {op : Nat} {c : Instr} (h : (op, c) ∈ wireCommands cl) : op ≤ 2 := by
  simp only [wireCommands, List.mem_cons, Prod.mk.injEq, List.not_mem_nil, or_false] at h
  omega

/-- No ADD is carried out next where the engine does not serve one that no cause refuses. -/
theorem State.addHead_none {s : State} {cl : ClusterId} (h : ∀ w, ¬ (s.WireServes cl 1 w ∧ s.dev.wireCause cl w = none)) :
    s.addHead cl = none := by
  refine if_neg fun hall => ?_
  simp only [Bool.and_eq_true, Bool.not_eq_true', decide_eq_true_eq, Option.isNone_iff_eq_none] at hall
  obtain ⟨⟨⟨⟨hc, hturn⟩, hp⟩, hop⟩, hcause⟩ := hall
  exact h ⟨_⟩ ⟨⟨hc, hturn, Prod.ext rfl hp, (if_pos (hop ▸ by decide)).trans hop⟩, hcause⟩

/-- A command of the ring answers what the engine serves; WIRE_ADD sends a sum after that, which writes no byte and moves no HEAD. -/
theorem exec_wireCommand {s : State} {cl : ClusterId} {op : Nat} {c : Instr} (hp : s.dev.power.input = true)
    (hc : (op, c) ∈ wireCommands cl) : ∃ t : State, exec c s = .next { s with mem := t.mem, dev := t.dev } ∧
      t.mem = (s.wireServe cl op).mem ∧ (s.wireServe cl op).dev.KeepsHead cl t.dev ∧
      (s.addHead cl = none → t = s.wireServe cl op) := by
  simp only [wireCommands, List.mem_cons, Prod.mk.injEq, List.not_mem_nil, or_false] at hc
  obtain ⟨rfl, rfl⟩ | ⟨rfl, rfl⟩ | ⟨rfl, rfl⟩ := hc
  · exact ⟨_, (exec_pack s cl).trans (memNext_on _ hp), rfl, .refl _, fun _ => rfl⟩
  · refine ⟨_, (exec_wireAdd s cl).trans (memNext_on _ hp), ?_⟩
    cases s.addHead cl with
    | none => exact ⟨rfl, .refl _, fun _ => rfl⟩
    | some w =>
      obtain ⟨hmem, hhead⟩ := State.sendSum_frame cl (s.wireServe cl 1) w
      exact ⟨hmem, hhead, fun h => nomatch h⟩
  · exact ⟨_, (exec_unpack s cl).trans (memNext_on _ hp), rfl, .refl _, fun _ => rfl⟩

section Commands
variable {s : State} {cl : ClusterId} {op : Nat} {c : Instr} {w : WireCmd}

/-- While it is not the turn of the ring, no command of it does anything (R403, R409). -/
theorem exec_wireCommand_waits (hp : s.dev.power.input = true) (hc : (op, c) ∈ wireCommands cl) (hturn : s.dev.wireTurn cl = false) :
    exec c s = .next s := by
  obtain ⟨t, hx, -, -, ht⟩ := exec_wireCommand hp hc
  have hstays : s.wireServe cl op = s := if_pos (by simp [hturn])
  have hidle : s.addHead cl = none := State.addHead_none fun w ⟨h, _⟩ =>
    Bool.false_ne_true (hturn.symm.trans h.turn)
  rw [hx, ht hidle, hstays]

/-- A command that no cause refuses is served, and HEAD moves. -/
theorem exec_wireCommand_runs (hp : s.dev.power.input = true) (hc : (op, c) ∈ wireCommands cl) (h : s.WireServes cl op w)
    (hd : s.dev.wireDepth cl ≤ 128) (hcause : s.dev.wireCause cl w = none) :
    ∃ t, exec c s = .next t ∧ t.dev.wireHeadAt cl = (s.dev.wireHeadAt cl + 1) % s.dev.wireDepth cl ∧
      (w.flag 1 = false → t.mem = (s.wireBlocks cl w).s.mem) := by
  obtain ⟨t, hx, hmem, hhead, -⟩ := exec_wireCommand hp hc
  obtain ⟨u, hu, hkeeps, hmemu⟩ := (s.wireBlocks cl w).finish_eq cl w (anchorByte (tsValue (s.dev.tscale cl 0 w.tscWire)))
  rw [h.runs hcause, hu] at hmem hhead
  refine ⟨_, hx, ?_, fun hf => hmem.trans (hmemu hf)⟩
  exact hhead.head.trans (((Device.KeepsHead.wireBlocks s cl w).trans hkeeps).wireAdvance hd)

/-- A command that a cause refuses writes no byte, is recorded and counted, and HEAD moves (R408). -/
theorem exec_wireCommand_refused (hp : s.dev.power.input = true) (hc : (op, c) ∈ wireCommands cl) (h : s.WireServes cl op w)
    (hd : s.dev.wireDepth cl ≤ 128) {cause : Nat} (hcause : s.dev.wireCause cl w = some cause) :
    ∃ t, exec c s = .next t ∧ t.mem = s.mem ∧ t.dev.wireHeadAt cl = (s.dev.wireHeadAt cl + 1) % s.dev.wireDepth cl ∧
      (s.dev.untraced → t.dev.newest = some 0x8021) ∧
      t.dev.rf (Reg.wireStat cl) 31 16 = Nat.min 65535 (s.dev.rf (Reg.wireStat cl) 31 16 + 1) := by
  obtain ⟨t, hx, -, -, ht⟩ := exec_wireCommand hp hc
  have hidle : s.addHead cl = none := State.addHead_none fun w' ⟨h', hnone⟩ => by
    have hw : w' = w := congrArg WireCmd.mk (Prod.ext_iff.mp (h'.load.symm.trans h.load)).1
    rw [hw, hcause] at hnone
    cases hnone
  rw [ht hidle, h.refuses hcause] at hx
  refine ⟨_, hx, rfl, ?_, fun hu => ?_, ?_⟩
  · exact (((Device.KeepsHead.refl s.dev).wireEmit ..).wireError).wireAdvance hd
  · rw [State.onDev_dev, Device.newest_wireAdvance, Device.newest_wireError, Device.wireEmit_newest hu]
  · rw [State.onDev_dev, Device.errors_wireAdvance, Device.errors_wireError, Device.Reports.rf_wireStat (Device.Reports.wireEmit ..)]

end Commands

/-! ## Sums of wire tallies (R177) -/

/-- Up to 16 tallies that share an anchor byte other than the poisoned one. -/
def wireSound (ws : List Nat) (a : Nat) : Prop := a ≠ 0xFF ∧ (∀ w ∈ ws, wireAnchor w = a) ∧ ws.length ≤ 16

/-- Tallies are sound where none of the conditions that poison their sum holds. -/
theorem wireSound_iff (w : Nat) (ws : List Nat) :
    (((w :: ws).map wireAnchor).contains 0xFF || ((w :: ws).map wireAnchor).any (fun x => x != wireAnchor w) ||
      decide (16 < (w :: ws).length)) = false ↔ wireSound (w :: ws) (wireAnchor w) := by
  rw [Bool.or_eq_false_iff, Bool.or_eq_false_iff, decide_eq_false_iff_not, Nat.not_lt, List.any_eq_false, List.forall_mem_map,
    ← Bool.not_eq_true, List.contains_iff_mem, List.mem_map]
  constructor
  · rintro ⟨⟨hclean, hsame⟩, hlen⟩
    refine ⟨fun h => hclean ⟨w, List.mem_cons_self, h⟩, fun x hx => ?_, hlen⟩
    exact Decidable.byContradiction fun hne => hsame x hx (bne_iff_ne.mpr hne)
  · rintro ⟨ha, hall, hlen⟩
    exact ⟨⟨fun ⟨x, hx, h⟩ => ha ((hall x hx).symm.trans h), fun x hx h => bne_iff_ne.mp h (hall x hx)⟩, hlen⟩

/-- Sound tallies sum to their anchor byte with the sum of their integers. -/
theorem wireSum_sound {w : Nat} {ws : List Nat} {a : Nat} (h : wireSound (w :: ws) a) :
    wireSum (w :: ws) = wireWord a (((w :: ws).map wireInt).foldl (· + ·) 0) := by
  obtain ⟨ha, hall, hlen⟩ := h
  obtain rfl : wireAnchor w = a := hall w List.mem_cons_self
  exact if_neg (Bool.eq_false_iff.mp ((wireSound_iff w ws).mpr ⟨ha, hall, hlen⟩))

/-- Other tallies sum to the poisoned one. -/
theorem wireSum_unsound {w : Nat} {ws : List Nat} (h : ∀ a, ¬ wireSound (w :: ws) a) : wireSum (w :: ws) = wireBad :=
  if_pos (Bool.of_not_eq_false fun hsound => h _ ((wireSound_iff w ws).mp hsound))

/-- The sum of wire tallies does not depend on their order. -/
theorem wireSum_perm {xs ys : List Nat} (h : xs.Perm ys) : wireSum xs = wireSum ys := by
  have hsound : ∀ a, wireSound xs a ↔ wireSound ys a := fun a => by simp only [wireSound, h.mem_iff, h.length_eq]
  cases xs with
  | nil => rw [h.nil_eq]
  | cons x xs =>
    cases ys with
    | nil => cases h.eq_nil
    | cons y ys =>
      by_cases hx : ∃ a, wireSound (x :: xs) a
      · obtain ⟨a, ha⟩ := hx
        have hsum := (h.map wireInt).foldl_eq' (f := (· + ·)) (fun _ _ _ _ _ => Int.add_right_comm ..) 0
        rw [wireSum_sound ha, wireSum_sound ((hsound a).mp ha), hsum]
      · have hx' := not_exists.mp hx
        rw [wireSum_unsound hx', wireSum_unsound fun a ha => hx' a ((hsound a).mpr ha)]

/-! ## A store after records -/

/-- A core store's core has its numbers in range (R356). -/
theorem regionOf_coreStore {a x y z o : Nat} (h : regionOf a = (.coreStore x y z, o)) : z < 64 ∧ y < 16 := by
  unfold regionOf at h
  split at h
  · cases h
  · split at h
    · dsimp only at h
      split at h
      · cases h
        omega
      · split at h <;> cases h
    · split at h
      · cases h
      · split at h <;> cases h

section Reports
variable {s : State} {e : Device} (h : s.dev.Reports e)
include h

/-- Records stop no core. -/
theorem Device.Reports.run {c : CoreId} (hc : c.core < 64 ∧ c.cluster < 16) : (e.core c).run = (s.dev.core c).run := by
  obtain ⟨b, hb⟩ := h.cores c hc
  rw [hb]

theorem State.behindWrapper_reports (a : Nat) : State.behindWrapper { s with dev := e } a = s.behindWrapper a := by
  unfold State.behindWrapper
  cases hr : (regionOf a).1 with
  | coreStore x y z =>
    have hc : (regionOf a) = (.coreStore x y z, (regionOf a).2) := by rw [← hr]
    simp only [h.rst, h.run (c := ⟨x, y, z⟩) (regionOf_coreStore hc)]
  | clusterStore x y => simp only [h.rst]
  | _ => rfl

theorem State.writeMem_reports (a : Nat) (bs : List Byte) (p : Bool) :
    (State.writeMem { s with dev := e } a bs p).mem = (s.writeMem a bs p).mem := by
  simp only [State.writeMem, h.memsys]

/-- What a store leaves in memory does not depend on the records before it. -/
theorem State.store_reports (a : Nat) (bs : List Byte) (p : Bool) :
    (State.store { s with dev := e } a bs p).mem = (s.store a bs p).mem := by
  unfold State.store
  rw [State.behindWrapper_reports h]
  dsimp only
  rw [h.memsys]
  split
  · rfl
  · split
    · split
      · rfl
      · exact State.writeMem_reports h ..
    · split
      · rfl
      · exact State.writeMem_reports h ..
    · split
      · rfl
      · exact State.writeMem_reports h ..
    · rfl
    · rfl
    · exact State.writeMem_reports h ..

end Reports

/-! ## The sums that WIRE_ADD stores (R177, R406) -/

/-- A number within loaded bytes is the number at its own address. -/
theorem State.leAt_load (s : State) (a : Nat) {i n m : Nat} (h : i + n ≤ m) : leAt (s.load a m).1 i n = s.loadN (a + i) n := by
  refine congrArg leNat (List.ext_getElem ?_ fun k hk hk' => ?_)
  · simp only [State.load, List.length_take, List.length_drop, List.length_map, List.length_range]
    omega
  · simp only [State.load, List.getElem_take, List.getElem_drop, List.getElem_map, List.getElem_range, Nat.add_assoc]

/-- The sums of 32 tallies of each of k inputs, by the addresses of the inputs. -/
def State.wireSums (s : State) (k : Nat) (src : Nat → Nat) : List Byte :=
  ((List.range 32).map fun j => leBytes 8 (wireSum ((List.range k).map fun i => s.loadN (src i + 8 * j) 8))).flatten

/-- A block whose inputs are read unpoisoned and whose destination is on memory: its records, then the sums stored. -/
theorem WireRun.addBlock_sums {r : WireRun} {cl : ClusterId} {w : WireCmd} {b : Nat}
    (hsrc : ∀ k < w.k, r.s.presentRange (w.src + k * w.stride + 256 * b) 256 = true ∧
      r.s.poisoned (w.src + k * w.stride + 256 * b) 256 = false)
    (hdst : r.s.presentRange (w.dst + 256 * b) 256 = true) :
    ∃ e, r.s.dev.Reports e ∧ (r.addBlock cl w b).s =
      State.store { r.s with dev := e } (w.dst + 256 * b) (r.s.wireSums w.k fun k => w.src + k * w.stride + 256 * b) false := by
  have hins : ((List.range w.k).map fun k => r.s.wireRead (w.src + k * w.stride + 256 * b) 256) =
      (List.range w.k).map fun k => some ((r.s.load (w.src + k * w.stride + 256 * b) 256).1, false) := by
    refine List.map_congr_left fun k hk => ?_
    obtain ⟨hpres, hclean⟩ := hsrc k (List.mem_range.mp hk)
    rw [State.wireRead, if_pos hpres]
    exact congrArg some (Prod.ext rfl hclean)
  have hhere : (r.s.presentRange (w.dst + 256 * b) 256 && ((List.range w.k).map fun k =>
      some ((r.s.load (w.src + k * w.stride + 256 * b) 256).1, false)).all Option.isSome) = true := by simp [hdst]
  unfold WireRun.addBlock
  dsimp only
  rw [hins, hhere, if_pos rfl]
  refine ⟨_, ?reports, congrArg (fun bs => State.store _ _ bs false) ?sums⟩
  case reports => exact Device.Reports.foldl _ (fun d _ => Device.Reports.wireEmit d ..) _ _
  case sums =>
    simp only [List.map_map]
    refine congrArg List.flatten (List.map_congr_left fun j hj => ?_)
    have hj' := List.mem_range.mp hj
    refine congrArg (fun ws => leBytes 8 (wireSum ws)) (List.map_congr_left fun k _ => ?_)
    exact State.leAt_load _ _ (by omega)

/-- An ADD of one block leaves in memory what storing the sums of its inputs leaves. -/
theorem State.wireBlocks_add {s : State} {cl : ClusterId} {w : WireCmd} (hop : w.op = 1) (hcount : w.count = 32)
    (hsrc : ∀ k < w.k, s.presentRange (w.src + k * w.stride) 256 = true ∧ s.poisoned (w.src + k * w.stride) 256 = false)
    (hdst : s.presentRange w.dst 256 = true) :
    (s.wireBlocks cl w).s.mem = (s.store w.dst (s.wireSums w.k fun k => w.src + k * w.stride) false).mem := by
  have hone : s.wireBlocks cl w = (⟨s, none, false, none⟩ : WireRun).addBlock cl w 0 := by
    rw [State.wireBlocks, hop, hcount]
    rfl
  obtain ⟨e, hreports, hs⟩ := WireRun.addBlock_sums (r := ⟨s, none, false, none⟩) (cl := cl) (b := 0) hsrc hdst
  rw [hone, hs]
  exact State.store_reports hreports ..

/-! ## CLU.WIRE_RING and CLU.WIRE_STAT (R403) -/

theorem Device.writeWireRing_busy {d : Device} {cl : ClusterId} (v : W64) (h : d.wireHeadAt cl ≠ d.rf (Reg.wireTail cl) 6 0) :
    d.writeWireRing cl v = d := if_pos h

theorem Device.writeWireRing_empty {d : Device} {cl : ClusterId} (v : W64) (h : d.wireHeadAt cl = d.rf (Reg.wireTail cl) 6 0) :
    d.writeWireRing cl v = d.writeFields (Reg.wireRing cl) v := if_neg (not_not_intro h)

/-- The block of a cluster of the module holds its first registers. -/
theorem blockAt_clu {cl : ClusterId} {o : Nat} (hc : clusterPresent cl = true) (ho : o < 0x1_0000) :
    blockAt (Reg.clu cl o) = some (.cluster cl.die cl.cluster, o) := by
  simp only [clusterPresent, Bool.and_eq_true, decide_eq_true_eq] at hc
  obtain ⟨hdie, hclu⟩ := hc
  have hoff : Reg.clu cl o = 0x40_0000 + (0x50_0000 * cl.die + (0x10_0000 + cl.cluster * 0x4_0000 + o)) := by
    simp only [Reg.clu, blockBase]
    omega
  have hlow : 0x10_0000 + cl.cluster * 0x4_0000 + o < 0x50_0000 := by omega
  rw [hoff]
  unfold blockAt
  iterate 14 rw [if_neg (by omega)]
  rw [if_pos (by omega), Nat.add_sub_cancel_left, Nat.mul_add_div (by decide), Nat.mul_add_mod, Nat.div_eq_of_lt hlow,
    Nat.mod_eq_of_lt hlow]
  unfold dieBlockAt
  rw [if_neg (by omega), if_neg (by omega)]
  dsimp only
  have h1 : (0x10_0000 + cl.cluster * 0x4_0000 + o - 0x10_0000) / 0x4_0000 = cl.cluster := by omega
  have h2 : (0x10_0000 + cl.cluster * 0x4_0000 + o - 0x10_0000) % 0x4_0000 = o := by omega
  rw [h1, h2, if_pos ho, Nat.add_zero]

theorem fieldsAt_wireStat {cl : ClusterId} (hc : clusterPresent cl = true) :
    fieldsAt (Reg.wireStat cl) = some [fRo 6 0 0, fRo 7 7 0, fRc 31 16] := by
  rw [fieldsAt, Reg.wireStat, blockAt_clu hc (by decide)]
  rfl

/-- WIRE_STAT once read: ERRORS is clear (R9). -/
theorem Device.clearRc_wireStat (d : Device) {cl : ClusterId} (hc : clusterPresent cl = true) :
    d.clearRc (Reg.wireStat cl) = d.setRf (Reg.wireStat cl) 31 16 0 := by
  rw [Device.clearRc, fieldsAt_wireStat hc]
  rfl

theorem exec_wireStatRead_clears {s : State} {cl : ClusterId} (hp : s.dev.power.input = true) (hc : clusterPresent cl = true) :
    ∃ t, exec (.wireStatRead cl) s = .next t ∧ t.mem = s.mem ∧
      t.dev.out = s.dev.out ++ [.reg (Reg.wireStat cl) (BitVec.ofNat 64 (s.dev.wireStatValue cl))] ∧
      t.dev.rf (Reg.wireStat cl) 31 16 = 0 := by
  have hx := onCluster_next
    (f := fun d => (d.send (.reg (Reg.wireStat cl) (BitVec.ofNat 64 (d.wireStatValue cl)))).clearRc (Reg.wireStat cl))
    (g := fun d => (d.send (.reg (Reg.wireStat cl) (BitVec.ofNat 64 (d.wireStatValue cl)))).setRf (Reg.wireStat cl) 31 16 0)
    hp hc (Device.clearRc_wireStat _ hc)
  refine ⟨_, (exec_wireStatRead s cl).trans hx, rfl, ?_, ?_⟩
  · rw [State.onDev_dev, Device.setRf_out, Device.send_out]
  · exact (Device.rf_setRf_same _ _ _ _ (by decide)).trans (Nat.zero_mod _)

/-! ## O37 -/

/-- Settles O37, by one lemma for each outcome of a command of the ring (waits, runs, is refused), the sums of an ADD's block, the
order that a sum does not depend on, and the two registers of the ring. That a wire command waits for the update operations that
reached the unit before it is the model's choice (log 184). -/
theorem wireCommandsRunInRingOrder : Obligations.WireCommandsRunInRingOrder := by
  intro s cl hp hc d i entry w waits moved
  have serves : ∀ {op}, waits → (if w.op ≤ 2 then w.op else 0) = op → s.WireServes cl op w := fun ⟨hturn, hclean, _⟩ hrow =>
    ⟨hc, hturn, Prod.ext rfl hclean, hrow⟩
  have depth : waits → d.wireDepth cl ≤ 128 := fun ⟨_, _, hdepth⟩ => hdepth
  refine ⟨fun op c hop => ⟨fun hidle => ?_, fun hahead hready => ?_, fun hw hrow hnone => ?_, fun cause hw hrow hcause => ?_⟩,
    fun hw hadd hnone hcount hflag hsrc hdst => ?_, fun _ _ => wireSum_perm, fun v => ⟨fun h => ?_, fun h => ?_⟩,
    exec_wireStatRead_clears hp hc⟩
  · exact exec_wireCommand_waits hp hop (Device.wireTurn_idle hidle)
  · exact exec_wireCommand_waits hp hop (Device.wireTurn_behind hahead hready)
  · have hle : w.op ≤ 2 := hrow ▸ wireCommands_le hop
    obtain ⟨t, hx, hmoved, -⟩ := exec_wireCommand_runs hp hop (serves hw ((if_pos hle).trans hrow)) (depth hw) hnone
    exact ⟨t, hx, hmoved⟩
  · have hserves : s.WireServes cl op w := serves hw (by
      obtain hrow | ⟨rfl, hbig⟩ := hrow
      · exact (if_pos (hrow ▸ wireCommands_le hop)).trans hrow
      · exact if_neg (by omega))
    exact exec_wireCommand_refused hp hop hserves (depth hw) hcause
  · have hserves : s.WireServes cl 1 w := serves hw (by rw [hadd]; rfl)
    obtain ⟨t, hx, -, hmem⟩ := exec_wireCommand_runs hp (c := .wireAdd cl) (by simp [wireCommands]) hserves (depth hw) hnone
    exact ⟨t, hx, (hmem hflag).trans (State.wireBlocks_add hadd hcount hsrc hdst)⟩
  · rw [exec_wireRingWrite]
    exact onCluster_next (g := id) hp hc (Device.writeWireRing_busy v h)
  · rw [exec_wireRingWrite]
    exact onCluster_next hp hc (Device.writeWireRing_empty v h)

end Sys2Proof.Machine
end

section
/-!
PROOFS. Registers of a cluster under folds and records, and the close of a step.
-/
namespace Sys2Proof.Machine

/-! ## Folds -/

/-- What every step of a fold keeps, the fold keeps. -/
theorem foldl_keeps {α β γ : Type} (g : β → γ) {f : β → α → β} {l : List α} (h : ∀ b, ∀ a ∈ l, g (f b a) = g b) (b : β) :
    g (l.foldl f b) = g b := by
  induction l generalizing b with
  | nil => rfl
  | cons a r ih =>
    obtain ⟨ha, hr⟩ : g (f b a) = g b ∧ ∀ b, ∀ c ∈ r, g (f b c) = g b :=
      ⟨h b a List.mem_cons_self, fun b c hc => h b c (List.mem_cons_of_mem _ hc)⟩
    exact (ih hr _).trans ha

/-- Registers that the other steps of a fold leave are as step n leaves them, which finds them as they were at first. -/
theorem Device.foldl_reg_of_mem {f : Device → Nat → Device} {l : List Nat} {n : Nat} {R : List Nat} (hl : l.Nodup) (hn : n ∈ l)
    (h : ∀ e, ∀ m ∈ l, m ≠ n → ∀ o ∈ R, (f e m).reg o = e.reg o) (d : Device) :
    ∃ e : Device, (∀ o ∈ R, e.reg o = d.reg o) ∧ ∀ o ∈ R, (l.foldl f d).reg o = (f e n).reg o := by
  obtain ⟨l₁, l₂, rfl⟩ := List.append_of_mem hn
  obtain ⟨-, hnd, hap⟩ := List.nodup_append.mp hl
  have hbefore : ∀ m ∈ l₁, m ≠ n := fun m hm => hap m hm n List.mem_cons_self
  have hafter : ∀ m ∈ l₂, m ≠ n := fun m hm e => (List.nodup_cons.mp hnd).1 (e ▸ hm)
  refine ⟨l₁.foldl f d, fun o ho => ?_, fun o ho => ?_⟩
  · exact foldl_keeps (fun e : Device => e.reg o) (fun e m hm => h e m (by simp [hm]) (hbefore m hm) o ho) d
  · rw [List.foldl_append, List.foldl_cons]
    exact foldl_keeps (fun e : Device => e.reg o) (fun e m hm => h e m (by simp [hm]) (hafter m hm) o ho) _

/-! ## Registers of a cluster -/

theorem Reg.clu_ne {cl : ClusterId} {a b : Nat} (h : a ≠ b) : Reg.clu cl a ≠ Reg.clu cl b := fun e => h (Nat.add_left_cancel e)

theorem Device.rf_congr {d e : Device} {o : Nat} (hi lo : Nat) (h : e.reg o = d.reg o) : e.rf o hi lo = d.rf o hi lo := by
  rw [Device.rf, Device.regN, h, Device.rf, Device.regN]

theorem Device.rbit_congr {d e : Device} {o : Nat} (i : Nat) (h : e.reg o = d.reg o) : e.rbit o i = d.rbit o i := by
  rw [Device.rbit, Device.regN, h, Device.rbit, Device.regN]

/-- A bit apart from the field that is set keeps its value. -/
theorem Device.rbit_setRf_apart (d : Device) (o v : Nat) {i hi lo : Nat} (h : i < 64) (hap : i < lo ∨ hi < i) :
    (d.setRf o hi lo v).rbit o i = d.rbit o i := by
  simp only [Device.rbit, bitAt, Device.setRf, Device.regN, Device.setRegN, Device.reg_setReg_same, BitVec.toNat_ofNat]
  rw [Nat.testBit_mod_two_pow, decide_eq_true h, Bool.true_and, testBit_setBits, if_neg (by omega)]

/-- A record of the width controller leaves the registers of clusters. -/
theorem Device.reg_wcEmit (d : Device) (cl x : ClusterId) (a code : Nat) (cls : EvClass) (det : List (Nat × Nat × Nat)) :
    (d.wcEmit cl code cls det).reg (Reg.clu x a) = d.reg (Reg.clu x a) :=
  (Device.Reports.emit ..).regs _ (not_reportReg_clu x a)

theorem Device.wcEmit_newest {d : Device} (h : d.untraced) (cl : ClusterId) (code : Nat) (cls : EvClass)
    (det : List (Nat × Nat × Nat)) : (d.wcEmit cl code cls det).newest = some code := by
  rw [Device.wcEmit, Device.newest, Device.emit_log h]
  rfl

@[simp] theorem Device.reg_setUnits (d : Device) (cl : ClusterId) (u : CluUnits) (o : Nat) : (d.setUnits cl u).reg o = d.reg o := rfl
@[simp] theorem Device.reg_setCluster (d : Device) (cl : ClusterId) (x : Cluster) (o : Nat) : (d.setCluster cl x).reg o = d.reg o := rfl
@[simp] theorem Device.reg_onPeer (d : Device) (f : PeerUnit → PeerUnit) (o : Nat) : (d.onPeer f).reg o = d.reg o := rfl

/-! ## STATE (R216) -/

section States
variable (d : Device) (cl : ClusterId)

theorem Device.reg_setWcState_other {o : Nat} (x : Nat) (h : o ≠ Reg.wcStat cl) : (d.setWcState cl x).reg o = d.reg o :=
  Device.reg_setRf_other d _ _ _ h

theorem Device.wcState_setWcState {x : Nat} (h : x < 4) : (d.setWcState cl x).wcState cl = x :=
  (Device.rf_setRf_same d (Reg.wcStat cl) 0 x (by decide)).trans (Nat.mod_eq_of_lt h)

theorem Device.nextReady_setWcState (x : Nat) : (d.setWcState cl x).nextReady cl = d.nextReady cl :=
  Device.rbit_setRf_apart d (Reg.wcStat cl) x (by decide) (by decide)

theorem Device.wcState_wcSequence (cause : Nat) : (d.wcSequence cl cause).wcState cl = d.wcState cl :=
  Device.rf_congr _ _ (Device.reg_wcEmit ..)

/-! ## CLOSE and COMMIT (R218, R219) -/

variable {d cl}

/-- A CLOSE out of its place is ignored with WC_SEQUENCE. -/
theorem Device.wcClose_refused (h : d.wcOn cl = false ∨ d.wcState cl ≠ 0) :
    ∃ cause, (d.wcClose cl (d.wcOn cl)).1 = d.wcSequence cl cause := by
  unfold Device.wcClose
  cases hon : d.wcOn cl with
  | false => exact ⟨3, rfl⟩
  | true =>
    have hstate : d.wcState cl ≠ 0 := h.resolve_left (by simp [hon])
    exact ⟨0, by simp [hstate]⟩

theorem Device.wcClose_accepted (hon : d.wcOn cl = true) (h : d.wcState cl = 0) :
    (d.wcClose cl (d.wcOn cl)).1 = d.setWcState cl 1 := by
  simp [Device.wcClose, hon, h]

/-- A COMMIT out of its place, or of an epoch other than the next, is ignored with WC_SEQUENCE. -/
theorem Device.wcCommit_refused
    (h : d.wcOn cl = false ∨ d.wcState cl ≠ 2 ∨ d.rf (Reg.wcEpoch cl) 47 32 ≠ (d.curEpoch cl + 1).toNat) :
    ∃ cause, (d.wcCommit cl (d.wcOn cl)).1 = d.wcSequence cl cause := by
  unfold Device.wcCommit
  cases hon : d.wcOn cl with
  | false => exact ⟨3, rfl⟩
  | true =>
    by_cases hstate : d.wcState cl = 2
    · have hepoch : d.rf (Reg.wcEpoch cl) 47 32 ≠ (d.curEpoch cl + 1).toNat := by simpa [hon, hstate] using h
      exact ⟨2, by simp only [Bool.not_true, Bool.false_eq_true, if_false, hstate, ne_eq, not_true, if_pos hepoch]⟩
    · exact ⟨1, by simp [hstate]⟩

theorem Device.wcCommit_accepted (hon : d.wcOn cl = true) (h : d.wcState cl = 2)
    (he : d.rf (Reg.wcEpoch cl) 47 32 = (d.curEpoch cl + 1).toNat) : (d.wcCommit cl (d.wcOn cl)).1 = d.setWcState cl 3 := by
  simp [Device.wcCommit, hon, h, he]

/-! ## CLOSE_BANK_SWAP (R102, R192, R218) -/

/-- Closing the maxima writes no register but theirs. -/
theorem Device.reg_closeMaxima {o : Nat} (h : ∀ i < 256, o ≠ Reg.tscaleMax cl i) : (d.closeMaxima cl).reg o = d.reg o := by
  refine foldl_keeps (fun e : Device => e.reg o) (fun e i hi => ?_) d
  have hclosed : (if e.regN (Reg.tscaleMax cl i) = 0 then e
      else e.setRegN (Reg.tscaleMax cl i) (e.regN (Reg.tscaleMax cl i) / 2 ^ 32)).reg o = e.reg o := by
    split
    · rfl
    · exact Device.reg_setReg_other e _ (h i (List.mem_range.mp hi))
  dsimp only
  split
  · exact hclosed
  · exact hclosed

/-- The rules of a layer write no register. -/
theorem Device.reg_evalLayer (x : ClusterId) (a bank n : Nat) (rules : List (Nat × Nat × Nat)) :
    (d.evalLayer cl bank n rules).reg (Reg.clu x a) = d.reg (Reg.clu x a) := by
  unfold Device.evalLayer
  dsimp only
  split
  · rfl
  · exact foldl_keeps (fun e : Device => e.reg (Reg.clu x a)) (fun e _ _ => Device.reg_wcEmit ..) (d.setCluster cl _)

theorem Device.closeSwap_waits (h : d.wcState cl ≠ 1 ∨ (d.unitsOf cl).samples ≠ []) : d.closeSwap cl = d :=
  if_pos (h.imp_right fun hs => by simpa using hs)

/-- The module of a cluster that closes, before STATE is proposed: banks swapped, maxima closed, rules evaluated (R218). -/
def Device.evaluated (d : Device) (cl : ClusterId) : Device :=
  let closed := d.openBank cl
  let d1 := d.closeMaxima cl
  let d2 := d1.setRf (Reg.wcStep cl) 31 0 (d1.rf (Reg.wcStep cl) 31 0 + 1)
  let lo := (0x8000 + 0x4000 * (1 - closed)) / 8
  let d3 := d2.setCluster cl ((d2.cluster cl).wcClear lo (lo + 0x800))
  let d4 := d3.setUnits cl { d3.unitsOf cl with seen := [], overflow := [] }
  (List.range 256).foldl (fun d n => d.evalLayer cl closed n (d4.enabledRules cl)) d4

/-- A close whose samples are in goes to proposed, and has its merge wait. -/
theorem Device.closeSwap_proposes (h : d.wcState cl = 1) (hs : (d.unitsOf cl).samples = []) :
    ∃ f, d.closeSwap cl = ((d.evaluated cl).setWcState cl 2).onPeer f :=
  ⟨_, if_neg (by simp [h, hs])⟩

/-- STEP goes up by one (R218). -/
theorem Device.rf_wcStep_evaluated :
    (d.evaluated cl).rf (Reg.wcStep cl) 31 0 = (d.rf (Reg.wcStep cl) 31 0 + 1) % 2 ^ 32 := by
  have hmax : ∀ i < 256, Reg.wcStep cl ≠ Reg.tscaleMax cl i := fun i _ => Reg.clu_ne (by omega)
  have hrules : ∀ (e : Device) (bank : Nat) rules,
      ((List.range 256).foldl (fun e n => e.evalLayer cl bank n rules) e).reg (Reg.wcStep cl) = e.reg (Reg.wcStep cl) := fun e bank rules =>
    foldl_keeps (fun e : Device => e.reg (Reg.wcStep cl)) (fun e n _ => Device.reg_evalLayer cl _ bank n rules) e
  unfold Device.evaluated
  rw [Device.rf_congr 31 0 (hrules _ _ _), Device.rf_congr 31 0 (Device.reg_setUnits ..), Device.rf_congr 31 0 (Device.reg_setCluster ..),
    Device.rf_setRf_same _ _ _ _ (by decide), Device.rf_congr 31 0 (Device.reg_closeMaxima hmax)]

/-- The open bank is STEP mod 2. -/
theorem Device.openBank_eq : d.openBank cl = d.rf (Reg.wcStep cl) 31 0 % 2 := by
  simp only [Device.openBank, Device.rf, bitsOf]
  omega

end States

end Sys2Proof.Machine
end

section
/-!
PROOFS. The generations of the width controller: their rotation and the commit.
-/
namespace Sys2Proof.Machine

/-! ## The generations (R213, R214, R219) -/

section Generations
variable {d : Device} {cl : ClusterId}

/-- The tensor-scale entry i rotates, unless it is pinned. -/
def Device.rotateScale (cl : ClusterId) (d : Device) (i : Nat) : Device :=
  if d.pinned cl i then d
  else
    (d.setReg (Reg.tscalePrior cl i) (d.reg (Reg.tscaleEnt cl i))).installTscale cl i
      (BitVec.ofNat 64 (d.runningMax cl i (d.regN (Reg.tscaleNext cl i))))

theorem Device.rotateScales_eq : d.rotateScales cl = (List.range 256).foldl (Device.rotateScale cl) d := rfl

theorem Device.reg_rotateScale_other {i o : Nat} (hent : o ≠ Reg.tscaleEnt cl i) (hprior : o ≠ Reg.tscalePrior cl i) :
    (Device.rotateScale cl d i).reg o = d.reg o := by
  unfold Device.rotateScale
  split
  · rfl
  · rw [Device.reg_installTscale, Device.reg_setReg_other _ _ hent, Device.reg_setReg_other _ _ hprior]

/-- A next word in learned-scale mode becomes current as it stands (R102, R215). -/
theorem Device.runningMax_learned {i w : Nat} (h : bitAt w 37 = true) : d.runningMax cl i w = w := by
  simp [Device.runningMax, h]

/-- An entry that is not pinned goes to the prior generation, and takes a next word in learned-scale mode as it stands. -/
theorem Device.rotateScale_rotates {i : Nat} (h : d.pinned cl i = false) :
    (Device.rotateScale cl d i).reg (Reg.tscalePrior cl i) = d.reg (Reg.tscaleEnt cl i) ∧
      (d.rbit (Reg.tscaleNext cl i) 37 = true →
        (Device.rotateScale cl d i).reg (Reg.tscaleEnt cl i) = d.reg (Reg.tscaleNext cl i)) := by
  have hne : Reg.tscalePrior cl i ≠ Reg.tscaleEnt cl i := Reg.clu_ne (by omega)
  unfold Device.rotateScale
  rw [if_neg (Bool.eq_false_iff.mp h)]
  refine ⟨?_, fun hlearned => ?_⟩
  · rw [Device.reg_installTscale, Device.reg_setReg_other _ _ hne, Device.reg_setReg_same]
  · rw [Device.reg_installTscale, Device.reg_setReg_same, Device.runningMax_learned hlearned, Device.regN, BitVec.ofNat_toNat,
      BitVec.setWidth_eq]

theorem Device.reg_rotateScales_other {o : Nat} (h : ∀ i < 256, o ≠ Reg.tscaleEnt cl i ∧ o ≠ Reg.tscalePrior cl i) :
    (d.rotateScales cl).reg o = d.reg o :=
  foldl_keeps (fun e : Device => e.reg o) (fun _ i hi =>
    Device.reg_rotateScale_other (h i (List.mem_range.mp hi)).1 (h i (List.mem_range.mp hi)).2) d

theorem Device.rotateScales_rotates {i : Nat} (hi : i < 256) (h : d.pinned cl i = false) :
    (d.rotateScales cl).reg (Reg.tscalePrior cl i) = d.reg (Reg.tscaleEnt cl i) ∧
      (d.rbit (Reg.tscaleNext cl i) 37 = true →
        (d.rotateScales cl).reg (Reg.tscaleEnt cl i) = d.reg (Reg.tscaleNext cl i)) := by
  let R := [Reg.tscalePrior cl i, Reg.tscaleEnt cl i, Reg.tscaleNext cl i, Reg.tscalePin cl (i / 64)]
  have hothers : ∀ e, ∀ m ∈ List.range 256, m ≠ i → ∀ o ∈ R, (Device.rotateScale cl e m).reg o = e.reg o := by
    intro e m hm hne o ho
    have hm' : m < 256 := List.mem_range.mp hm
    simp only [R, List.mem_cons, List.not_mem_nil, or_false] at ho
    obtain rfl | rfl | rfl | rfl := ho <;>
      exact Device.reg_rotateScale_other (Reg.clu_ne (by omega)) (Reg.clu_ne (by omega))
  obtain ⟨e, hbefore, hafter⟩ := Device.foldl_reg_of_mem List.nodup_range (List.mem_range.mpr hi) hothers d
  rw [← Device.rotateScales_eq] at hafter
  have hpin : e.pinned cl i = false := (Device.rbit_congr _ (hbefore _ (by simp [R]))).trans h
  obtain ⟨hprior, hent⟩ := Device.rotateScale_rotates hpin
  refine ⟨?_, fun hlearned => ?_⟩
  · rw [hafter _ (by simp [R]), hprior, hbefore _ (by simp [R])]
  · have hlearned' : e.rbit (Reg.tscaleNext cl i) 37 = true := (Device.rbit_congr 37 (hbefore _ (by simp [R]))).trans hlearned
    rw [hafter _ (by simp [R]), hent hlearned', hbefore _ (by simp [R])]

/-- Word k of layer n's descriptor rotates. -/
def Device.rotateWord (cl : ClusterId) (n : Nat) (d : Device) (k : Nat) : Device :=
  (d.setReg (Reg.layerPrior cl n k) (d.reg (Reg.layerDesc cl n k))).setReg (Reg.layerDesc cl n k) (d.reg (Reg.layerNext cl n k))

/-- Layer n's descriptor rotates, unless the layer is pinned. -/
def Device.rotateLayer (cl : ClusterId) (d : Device) (n : Nat) : Device :=
  if d.rbit (Reg.layerDesc cl n 0) 31 then d else (List.range 2).foldl (Device.rotateWord cl n) d

theorem Device.rotateLayers_eq : d.rotateLayers cl = (List.range 256).foldl (Device.rotateLayer cl) d := rfl

theorem Device.reg_rotateWord_other {n k o : Nat} (hdesc : o ≠ Reg.layerDesc cl n k) (hprior : o ≠ Reg.layerPrior cl n k) :
    (Device.rotateWord cl n d k).reg o = d.reg o := by
  rw [Device.rotateWord, Device.reg_setReg_other _ _ hdesc, Device.reg_setReg_other _ _ hprior]

theorem Device.reg_rotateLayer_other {n o : Nat} (h : ∀ k < 2, o ≠ Reg.layerDesc cl n k ∧ o ≠ Reg.layerPrior cl n k) :
    (Device.rotateLayer cl d n).reg o = d.reg o := by
  unfold Device.rotateLayer
  split
  · rfl
  · exact foldl_keeps (fun e : Device => e.reg o) (fun _ k hk =>
      Device.reg_rotateWord_other (h k (List.mem_range.mp hk)).1 (h k (List.mem_range.mp hk)).2) d

theorem Device.reg_rotateLayers_other {o : Nat} (h : ∀ n < 256, ∀ k < 2, o ≠ Reg.layerDesc cl n k ∧ o ≠ Reg.layerPrior cl n k) :
    (d.rotateLayers cl).reg o = d.reg o :=
  foldl_keeps (fun e : Device => e.reg o) (fun _ n hn => Device.reg_rotateLayer_other (h n (List.mem_range.mp hn))) d

/-- A layer that is not pinned goes to the prior generation and takes its next descriptor. -/
theorem Device.rotateLayer_rotates {n w : Nat} (hw : w < 2) (h : d.rbit (Reg.layerDesc cl n 0) 31 = false) :
    (Device.rotateLayer cl d n).reg (Reg.layerPrior cl n w) = d.reg (Reg.layerDesc cl n w) ∧
      (Device.rotateLayer cl d n).reg (Reg.layerDesc cl n w) = d.reg (Reg.layerNext cl n w) := by
  let R := [Reg.layerPrior cl n w, Reg.layerDesc cl n w, Reg.layerNext cl n w]
  have hothers : ∀ e, ∀ k ∈ List.range 2, k ≠ w → ∀ o ∈ R, (Device.rotateWord cl n e k).reg o = e.reg o := by
    intro e k hk hne o ho
    have hk' : k < 2 := List.mem_range.mp hk
    simp only [R, List.mem_cons, List.not_mem_nil, or_false] at ho
    obtain rfl | rfl | rfl := ho <;>
      exact Device.reg_rotateWord_other (Reg.clu_ne (by omega)) (Reg.clu_ne (by omega))
  obtain ⟨e, hbefore, hafter⟩ := Device.foldl_reg_of_mem List.nodup_range (List.mem_range.mpr hw) hothers d
  have hne : Reg.layerPrior cl n w ≠ Reg.layerDesc cl n w := Reg.clu_ne (by omega)
  rw [Device.rotateLayer, if_neg (Bool.eq_false_iff.mp h), hafter _ (by simp [R]), hafter _ (by simp [R]), Device.rotateWord,
    Device.reg_setReg_other _ _ hne, Device.reg_setReg_same, Device.reg_setReg_same]
  exact ⟨hbefore _ (by simp [R]), hbefore _ (by simp [R])⟩

theorem Device.rotateLayer_pinned {n : Nat} (h : d.rbit (Reg.layerDesc cl n 0) 31 = true) : Device.rotateLayer cl d n = d := if_pos h

/-- Each layer's descriptor rotates but for a pinned layer's. -/
theorem Device.rotateLayers_rotates {n w : Nat} (hn : n < 256) (hw : w < 2) :
    (d.rbit (Reg.layerDesc cl n 0) 31 = false →
      (d.rotateLayers cl).reg (Reg.layerPrior cl n w) = d.reg (Reg.layerDesc cl n w) ∧
      (d.rotateLayers cl).reg (Reg.layerDesc cl n w) = d.reg (Reg.layerNext cl n w)) ∧
    (d.rbit (Reg.layerDesc cl n 0) 31 = true → (d.rotateLayers cl).reg (Reg.layerDesc cl n w) = d.reg (Reg.layerDesc cl n w)) := by
  let R := [Reg.layerPrior cl n w, Reg.layerDesc cl n w, Reg.layerNext cl n w, Reg.layerDesc cl n 0]
  have hothers : ∀ e, ∀ m ∈ List.range 256, m ≠ n → ∀ o ∈ R, (Device.rotateLayer cl e m).reg o = e.reg o := by
    intro e m hm hne o ho
    have hm' : m < 256 := List.mem_range.mp hm
    simp only [R, List.mem_cons, List.not_mem_nil, or_false] at ho
    obtain rfl | rfl | rfl | rfl := ho <;>
      exact Device.reg_rotateLayer_other fun k hk => ⟨Reg.clu_ne (by omega), Reg.clu_ne (by omega)⟩
  obtain ⟨e, hbefore, hafter⟩ := Device.foldl_reg_of_mem List.nodup_range (List.mem_range.mpr hn) hothers d
  rw [← Device.rotateLayers_eq] at hafter
  have hpin : e.rbit (Reg.layerDesc cl n 0) 31 = d.rbit (Reg.layerDesc cl n 0) 31 := Device.rbit_congr 31 (hbefore _ (by simp [R]))
  refine ⟨fun h => ?_, fun h => ?_⟩
  · obtain ⟨hprior, hdesc⟩ := Device.rotateLayer_rotates hw (hpin.trans h)
    rw [hafter _ (by simp [R]), hafter _ (by simp [R]), hprior, hdesc]
    exact ⟨hbefore _ (by simp [R]), hbefore _ (by simp [R])⟩
  · rw [hafter _ (by simp [R]), Device.rotateLayer_pinned (hpin.trans h), hbefore _ (by simp [R])]

end Generations

/-! ## The generation swap (R219) -/

section Swap
variable {s : State} {d : Device} {cl : ClusterId}

/-- The module of a cluster as its generations swap. -/
def Device.swapGenerations (d : Device) (cl : ClusterId) : Device :=
  let o := Reg.wcEpoch cl
  let d1 := (d.rotateScales cl).rotateLayers cl
  let d2 := ((d1.setRf o 31 16 (d.rf o 15 0)).setRf o 15 0 (d.rf o 47 32)).setRf o 47 32 (d.rf o 47 32 + 1)
  (d2.setRf (Reg.wcStat cl) 2 2 0).setWcState cl 0

theorem Device.reg_mergeRound (o : Nat) : (d.mergeRound cl).reg o = d.reg o := rfl

/-- The end of the merge and the record leave the registers of clusters as the swap has them. -/
theorem State.reg_generationSwap (h : s.dev.wcState cl = 3) (hheld : s.commitHeld cl = false) (a : Nat) :
    (s.generationSwap cl).dev.reg (Reg.clu cl a) = ((s.buildInPlace cl).dev.swapGenerations cl).reg (Reg.clu cl a) := by
  have hgo : ¬ (s.dev.wcState cl ≠ 3 ∨ s.commitHeld cl = true) := by simp [h, hheld]
  rw [State.generationSwap, if_neg hgo, State.onDev_dev, Device.swapGenerations]
  dsimp only
  rw [Device.reg_wcEmit, Device.reg_mergeRound]

theorem State.generationSwap_mem (h : s.dev.wcState cl = 3) (hheld : s.commitHeld cl = false) :
    (s.generationSwap cl).mem = (s.buildInPlace cl).mem := by
  have hgo : ¬ (s.dev.wcState cl ≠ 3 ∨ s.commitHeld cl = true) := by simp [h, hheld]
  rw [State.generationSwap, if_neg hgo, State.onDev_mem]

theorem State.generationSwap_waits (h : s.dev.wcState cl ≠ 3 ∨ s.commitHeld cl = true) : s.generationSwap cl = s := if_pos h

theorem State.buildMaps_regs (n w : Nat) : (s.buildMaps cl n w).dev.regs = s.dev.regs := by
  unfold State.buildMaps
  dsimp only
  split
  · rfl
  · rw [State.store_regs, State.store_regs, State.store_regs]

/-- The map areas built at a commit hold no register. -/
theorem State.buildInPlace_regs : (s.buildInPlace cl).dev.regs = s.dev.regs := by
  refine foldl_keeps (fun t : State => t.dev.regs) (fun t n _ => ?_) s
  split
  · exact State.buildMaps_regs ..
  · rfl

theorem State.buildInPlace_none (h : (s.dev.unitsOf cl).mergedLayers = []) : s.buildInPlace cl = s := by
  rw [State.buildInPlace, h, List.foldl_nil]

theorem Device.swapGenerations_state : (d.swapGenerations cl).wcState cl = 0 ∧ (d.swapGenerations cl).nextReady cl = false := by
  refine ⟨Device.wcState_setWcState _ _ (by decide), ?_⟩
  rw [Device.swapGenerations, Device.nextReady_setWcState, Device.nextReady, Device.rbit_setRf_same _ _ _ (by decide)]
  rfl

/-- The expected epoch becomes current, and the current one prior. -/
theorem Device.swapGenerations_epochs :
    (d.swapGenerations cl).rf (Reg.wcEpoch cl) 15 0 = d.rf (Reg.wcEpoch cl) 47 32 ∧
      (d.swapGenerations cl).rf (Reg.wcEpoch cl) 31 16 = d.rf (Reg.wcEpoch cl) 15 0 := by
  have hstat : Reg.wcEpoch cl ≠ Reg.wcStat cl := Reg.clu_ne (by decide)
  unfold Device.swapGenerations
  dsimp only
  constructor
  · rw [Device.rf_congr _ _ (Device.reg_setWcState_other _ cl 0 hstat), Device.rf_congr _ _ (Device.reg_setRf_other _ _ _ _ hstat),
      Device.rf_setRf_apart _ _ _ (by decide) (by decide), Device.rf_setRf_same _ _ _ _ (by decide)]
    exact Nat.mod_eq_of_lt (bitsOf_lt _ _ _)
  · rw [Device.rf_congr _ _ (Device.reg_setWcState_other _ cl 0 hstat), Device.rf_congr _ _ (Device.reg_setRf_other _ _ _ _ hstat),
      Device.rf_setRf_apart _ _ _ (by decide) (by decide), Device.rf_setRf_apart _ _ _ (by decide) (by decide),
      Device.rf_setRf_same _ _ _ _ (by decide)]
    exact Nat.mod_eq_of_lt (bitsOf_lt _ _ _)

/-- Other registers than WC_EPOCH and WC_STAT are as the rotation leaves them. -/
theorem Device.reg_swapGenerations {o : Nat} (hepoch : o ≠ Reg.wcEpoch cl) (hstat : o ≠ Reg.wcStat cl) :
    (d.swapGenerations cl).reg o = ((d.rotateScales cl).rotateLayers cl).reg o := by
  unfold Device.swapGenerations
  dsimp only
  rw [Device.reg_setWcState_other _ _ _ hstat, Device.reg_setRf_other _ _ _ _ hstat, Device.reg_setRf_other _ _ _ _ hepoch,
    Device.reg_setRf_other _ _ _ _ hepoch, Device.reg_setRf_other _ _ _ _ hepoch]

/-- The layers' generations rotate but for what is pinned (R213). -/
theorem Device.swapGenerations_layers {n w : Nat} (hn : n < 256) (hw : w < 2) :
    (d.rbit (Reg.layerDesc cl n 0) 31 = false →
      (d.swapGenerations cl).reg (Reg.layerPrior cl n w) = d.reg (Reg.layerDesc cl n w) ∧
      (d.swapGenerations cl).reg (Reg.layerDesc cl n w) = d.reg (Reg.layerNext cl n w)) ∧
    (d.rbit (Reg.layerDesc cl n 0) 31 = true →
      (d.swapGenerations cl).reg (Reg.layerDesc cl n w) = d.reg (Reg.layerDesc cl n w)) := by
  have hscales : ∀ a, 0x3000 ≤ a → (d.rotateScales cl).reg (Reg.clu cl a) = d.reg (Reg.clu cl a) := fun a ha =>
    Device.reg_rotateScales_other fun i hi => ⟨Reg.clu_ne (by omega), Reg.clu_ne (by omega)⟩
  have hdesc : (d.rotateScales cl).reg (Reg.layerDesc cl n w) = d.reg (Reg.layerDesc cl n w) := hscales _ (by omega)
  have hnext : (d.rotateScales cl).reg (Reg.layerNext cl n w) = d.reg (Reg.layerNext cl n w) := hscales _ (by omega)
  have hpin : (d.rotateScales cl).rbit (Reg.layerDesc cl n 0) 31 = d.rbit (Reg.layerDesc cl n 0) 31 :=
    Device.rbit_congr 31 (hscales _ (by omega))
  obtain ⟨hfree, hkept⟩ := Device.rotateLayers_rotates (d := d.rotateScales cl) (cl := cl) hn hw
  rw [Device.reg_swapGenerations (o := Reg.layerDesc cl n w) (Reg.clu_ne (by omega)) (Reg.clu_ne (by omega)),
    Device.reg_swapGenerations (o := Reg.layerPrior cl n w) (Reg.clu_ne (by omega)) (Reg.clu_ne (by omega)), ← hdesc, ← hnext, ← hpin]
  exact ⟨hfree, hkept⟩

/-- The tensor scales' generations rotate but for what is pinned (R213). -/
theorem Device.swapGenerations_scales {i : Nat} (hi : i < 256) (h : d.pinned cl i = false) :
    (d.swapGenerations cl).reg (Reg.tscalePrior cl i) = d.reg (Reg.tscaleEnt cl i) ∧
      (d.rbit (Reg.tscaleNext cl i) 37 = true →
        (d.swapGenerations cl).reg (Reg.tscaleEnt cl i) = d.reg (Reg.tscaleNext cl i)) := by
  have hlayers : ∀ a, 0x40 ≤ a → a < 0x3000 → (d.swapGenerations cl).reg (Reg.clu cl a) = (d.rotateScales cl).reg (Reg.clu cl a) := by
    intro a ha ha'
    rw [Device.reg_swapGenerations (Reg.clu_ne (by omega)) (Reg.clu_ne (by omega))]
    exact Device.reg_rotateLayers_other fun n hn k hk => ⟨Reg.clu_ne (by omega), Reg.clu_ne (by omega)⟩
  have hprior : (d.swapGenerations cl).reg (Reg.tscalePrior cl i) = (d.rotateScales cl).reg (Reg.tscalePrior cl i) :=
    hlayers _ (by omega) (by omega)
  have hent : (d.swapGenerations cl).reg (Reg.tscaleEnt cl i) = (d.rotateScales cl).reg (Reg.tscaleEnt cl i) :=
    hlayers _ (by omega) (by omega)
  rw [hprior, hent]
  exact Device.rotateScales_rotates hi h

end Swap

end Sys2Proof.Machine
end

section
/-!
PROOFS. NEXT_COPY_DONE and WC_ABANDON.
-/
namespace Sys2Proof.Machine

section Copies
variable {d : Device} {cl : ClusterId}

/-! ## NEXT_COPY_DONE (R219) -/

/-- Word k of layer i's descriptor is copied to the next generation. -/
def Device.copyWord (cl : ClusterId) (i : Nat) (d : Device) (k : Nat) : Device :=
  d.setReg (Reg.layerNext cl i k) (d.reg (Reg.layerDesc cl i k))

/-- Entry i and layer i's descriptor are copied to the next generation. -/
def Device.copyNext (cl : ClusterId) (d : Device) (i : Nat) : Device :=
  (List.range 2).foldl (Device.copyWord cl i) (d.setReg (Reg.tscaleNext cl i) (d.reg (Reg.tscaleEnt cl i)))

theorem Device.nextCopied_ready (h : d.nextReady cl = true) : d.nextCopied cl = d := if_pos h

theorem Device.nextCopied_copies (h : d.nextReady cl = false) :
    d.nextCopied cl = ((List.range 256).foldl (Device.copyNext cl) d).setRf (Reg.wcStat cl) 2 2 1 := if_neg (Bool.eq_false_iff.mp h)

theorem Device.nextReady_nextCopied (h : d.nextReady cl = false) : (d.nextCopied cl).nextReady cl = true := by
  rw [Device.nextCopied_copies h, Device.nextReady, Device.rbit_setRf_same _ _ _ (by decide)]
  rfl

theorem Device.reg_copyWords_other {i o : Nat} (h : ∀ k < 2, o ≠ Reg.layerNext cl i k) :
    ((List.range 2).foldl (Device.copyWord cl i) d).reg o = d.reg o :=
  foldl_keeps (fun e : Device => e.reg o) (fun e k hk => Device.reg_setReg_other e _ (h k (List.mem_range.mp hk))) d

theorem Device.reg_copyNext_other {i o : Nat} (hts : o ≠ Reg.tscaleNext cl i) (h : ∀ k < 2, o ≠ Reg.layerNext cl i k) :
    (Device.copyNext cl d i).reg o = d.reg o := by
  rw [Device.copyNext, Device.reg_copyWords_other h, Device.reg_setReg_other _ _ hts]

theorem Device.copyNext_scale {i : Nat} (hi : i < 256) :
    (Device.copyNext cl d i).reg (Reg.tscaleNext cl i) = d.reg (Reg.tscaleEnt cl i) := by
  have hne : ∀ k < 2, Reg.tscaleNext cl i ≠ Reg.layerNext cl i k := fun k _ => Reg.clu_ne (by omega)
  rw [Device.copyNext, Device.reg_copyWords_other hne, Device.reg_setReg_same]

theorem Device.copyNext_word {i w : Nat} (hi : i < 256) (hw : w < 2) :
    (Device.copyNext cl d i).reg (Reg.layerNext cl i w) = d.reg (Reg.layerDesc cl i w) := by
  let R := [Reg.layerNext cl i w, Reg.layerDesc cl i w]
  have hothers : ∀ e, ∀ k ∈ List.range 2, k ≠ w → ∀ o ∈ R, (Device.copyWord cl i e k).reg o = e.reg o := by
    intro e k hk hne o ho
    have hk' : k < 2 := List.mem_range.mp hk
    simp only [R, List.mem_cons, List.not_mem_nil, or_false] at ho
    obtain rfl | rfl := ho <;> exact Device.reg_setReg_other _ _ (Reg.clu_ne (by omega))
  have hne : Reg.layerDesc cl i w ≠ Reg.tscaleNext cl i := Reg.clu_ne (by omega)
  obtain ⟨e, hbefore, hafter⟩ := Device.foldl_reg_of_mem List.nodup_range (List.mem_range.mpr hw) hothers
    (d.setReg (Reg.tscaleNext cl i) (d.reg (Reg.tscaleEnt cl i)))
  rw [Device.copyNext, hafter _ (by simp [R]), Device.copyWord, Device.reg_setReg_same, hbefore _ (by simp [R]),
    Device.reg_setReg_other _ _ hne]

/-- The next generation holds a copy of the current one. -/
theorem Device.nextCopied_holds (h : d.nextReady cl = false) {n : Nat} (hn : n < 256) :
    (d.nextCopied cl).reg (Reg.tscaleNext cl n) = d.reg (Reg.tscaleEnt cl n) ∧
      ∀ w < 2, (d.nextCopied cl).reg (Reg.layerNext cl n w) = d.reg (Reg.layerDesc cl n w) := by
  let R := [Reg.tscaleNext cl n, Reg.tscaleEnt cl n, Reg.layerNext cl n 0, Reg.layerNext cl n 1, Reg.layerDesc cl n 0,
    Reg.layerDesc cl n 1]
  have hothers : ∀ e, ∀ m ∈ List.range 256, m ≠ n → ∀ o ∈ R, (Device.copyNext cl e m).reg o = e.reg o := by
    intro e m hm hne o ho
    have hm' : m < 256 := List.mem_range.mp hm
    simp only [R, List.mem_cons, List.not_mem_nil, or_false] at ho
    obtain rfl | rfl | rfl | rfl | rfl | rfl := ho <;>
      exact Device.reg_copyNext_other (Reg.clu_ne (by omega)) fun k hk => Reg.clu_ne (by omega)
  obtain ⟨e, hbefore, hafter⟩ := Device.foldl_reg_of_mem List.nodup_range (List.mem_range.mpr hn) hothers d
  have hts : Reg.tscaleNext cl n ≠ Reg.wcStat cl := Reg.clu_ne (by omega)
  rw [Device.nextCopied_copies h]
  refine ⟨?_, fun w hw => ?_⟩
  · rw [Device.reg_setRf_other _ _ _ _ hts, hafter _ (by simp [R]), Device.copyNext_scale hn, hbefore _ (by simp [R])]
  · have hstat : Reg.layerNext cl n w ≠ Reg.wcStat cl := Reg.clu_ne (by omega)
    have hR : Reg.layerNext cl n w ∈ R ∧ Reg.layerDesc cl n w ∈ R := by
      obtain rfl | rfl : w = 0 ∨ w = 1 := by omega
      · simp [R]
      · simp [R]
    rw [Device.reg_setRf_other _ _ _ _ hstat, hafter _ hR.1, Device.copyNext_word hn hw, hbefore _ hR.2]

/-! ## WC_ABANDON (R543) -/

theorem Device.writeWcAbandon_closed (h : d.wcState cl ≠ 0) : d.writeWcAbandon cl 1 = d := if_pos (by simp [h])

/-- The open maximum of entry i is cleared. -/
def Device.clearMaximum (cl : ClusterId) (d : Device) (i : Nat) : Device :=
  if d.rf (Reg.tscaleMax cl i) 63 32 = 0 then d else d.setRf (Reg.tscaleMax cl i) 63 32 0

/-- The open bank of a cluster is cleared. -/
def Device.clearBank (d : Device) (cl : ClusterId) : Device :=
  let lo := (0x8000 + 0x4000 * d.openBank cl) / 8
  d.setCluster cl ((d.cluster cl).wcClear lo (lo + 0x800))

theorem Device.writeWcAbandon_open (h : d.wcState cl = 0) :
    d.writeWcAbandon cl 1 = (List.range 256).foldl (Device.clearMaximum cl) (d.clearBank cl) := if_neg (by simp [h, bitAt])

theorem Device.reg_clearMaximum_other {i o : Nat} (h : o ≠ Reg.tscaleMax cl i) : (Device.clearMaximum cl d i).reg o = d.reg o := by
  unfold Device.clearMaximum
  split
  · rfl
  · exact Device.reg_setRf_other _ _ _ _ h

theorem Device.rf_clearMaximum (i : Nat) : (Device.clearMaximum cl d i).rf (Reg.tscaleMax cl i) 63 32 = 0 := by
  unfold Device.clearMaximum
  split
  case isTrue h => exact h
  case isFalse => exact (Device.rf_setRf_same _ _ _ _ (by decide)).trans (Nat.zero_mod _)

theorem Device.cluster_clearMaximum (i : Nat) (x : ClusterId) : (Device.clearMaximum cl d i).cluster x = d.cluster x := by
  unfold Device.clearMaximum
  split <;> rfl

theorem Device.writeWcAbandon_clears (h : d.wcState cl = 0) :
    (d.writeWcAbandon cl 1).wcState cl = 0 ∧
      (∀ j < 0x800, tget ((d.writeWcAbandon cl 1).cluster cl).wc 0 ((0x8000 + 0x4000 * d.openBank cl) / 8 + j) = 0) ∧
      ∀ i < 256, (d.writeWcAbandon cl 1).rf (Reg.tscaleMax cl i) 63 32 = 0 := by
  rw [Device.writeWcAbandon_open h]
  refine ⟨?_, fun j hj => ?_, fun i hi => ?_⟩
  · refine (Device.rf_congr 1 0 (foldl_keeps (fun e : Device => e.reg (Reg.wcStat cl)) (fun e i _ => ?_) (d.clearBank cl))).trans h
    exact Device.reg_clearMaximum_other (Reg.clu_ne (by omega))
  · rw [foldl_keeps (fun e : Device => e.cluster cl) (fun e i _ => Device.cluster_clearMaximum i cl) (d.clearBank cl), Device.clearBank,
      Device.cluster_setCluster_same]
    exact Cluster.wcClear_word _ (by omega) (by omega)
  · have hothers : ∀ e, ∀ m ∈ List.range 256, m ≠ i → ∀ o ∈ [Reg.tscaleMax cl i], (Device.clearMaximum cl e m).reg o = e.reg o := by
      intro e m _ hne o ho
      rw [List.mem_singleton] at ho
      exact ho ▸ Device.reg_clearMaximum_other (Reg.clu_ne (by omega))
    obtain ⟨e, -, hafter⟩ := Device.foldl_reg_of_mem List.nodup_range (List.mem_range.mpr hi) hothers (d.clearBank cl)
    exact (Device.rf_congr 63 32 (hafter _ List.mem_cons_self)).trans (Device.rf_clearMaximum i)

end Copies

end Sys2Proof.Machine
end

section
/-!
PROOFS. Scorecards, and the completion of an agreement sample.
-/
namespace Sys2Proof.Machine

/-! ## Scorecards (R192 to R194, R199) -/

section Scorecards
variable {cl : ClusterId}

/-- A scorecard field that is set reads as the value given. -/
theorem Cluster.scGet_scPut_same (x : Cluster) (bank n v : Nat) {off size : Nat} (hsize : 0 < size) (h : off % 8 + size ≤ 8) :
    (x.scPut bank n off size v).scGet bank n off size = v % 2 ^ (8 * size) := by
  have hw : 8 * (off % 8) + 8 * size - 1 + 1 - 8 * (off % 8) = 8 * size := by omega
  simp only [Cluster.scGet, Cluster.scPut, tget_tput_same, BitVec.toNat_ofNat]
  rw [bitsOf_mod _ _ _ (by omega), bitsOf_setBits_same, hw]

/-- A scorecard field whose bytes are apart from those of the field that is set keeps its value. -/
theorem Cluster.scGet_scPut_apart (x : Cluster) (bank n v : Nat) {off size off' size' : Nat} (hsize : 0 < size) (hsize' : 0 < size')
    (h : off % 8 + size ≤ 8) (hap : off + size ≤ off' ∨ off' + size' ≤ off) :
    (x.scPut bank n off' size' v).scGet bank n off size = x.scGet bank n off size := by
  simp only [Cluster.scGet, Cluster.scPut]
  by_cases hword : scWord bank n off = scWord bank n off'
  · have hsame : off / 8 = off' / 8 := by
      simp only [scWord] at hword
      omega
    rw [hword, tget_tput_same, BitVec.toNat_ofNat, bitsOf_mod _ _ _ (by omega), bitsOf_setBits_other _ _ (by omega)]
  · rw [tget_tput_other _ _ _ hword]

theorem Cluster.scGet_le (x : Cluster) (bank n off : Nat) {size : Nat} (hsize : 0 < size) :
    x.scGet bank n off size ≤ 2 ^ (8 * size) - 1 := by
  have hlt := bitsOf_lt (tget x.wc (0 : W64) (scWord bank n off)).toNat (8 * (off % 8) + 8 * size - 1) (8 * (off % 8))
  have hw : 8 * (off % 8) + 8 * size - 1 + 1 - 8 * (off % 8) = 8 * size := by omega
  rw [hw] at hlt
  exact Nat.le_sub_one_of_lt hlt

/-- A field of the scorecard of a layer in the open bank. -/
def Device.scOpen (d : Device) (cl : ClusterId) (n off size : Nat) : Nat := (d.cluster cl).scGet (d.openBank cl) n off size

theorem Device.scAdd_openBank (d : Device) (x : ClusterId) (n off size k : Nat) : (d.scAdd cl n off size k).openBank x = d.openBank x := by
  unfold Device.scAdd
  split <;> rfl

theorem Device.scMax_openBank (d : Device) (x : ClusterId) (n off size v : Nat) : (d.scMax cl n off size v).openBank x = d.openBank x := by
  unfold Device.scMax
  dsimp only
  split <;> rfl

theorem Device.scAdd_unitsOf (d : Device) (x : ClusterId) (n off size k : Nat) : (d.scAdd cl n off size k).unitsOf x = d.unitsOf x := by
  unfold Device.scAdd
  split <;> rfl

theorem Device.scMax_unitsOf (d : Device) (x : ClusterId) (n off size v : Nat) : (d.scMax cl n off size v).unitsOf x = d.unitsOf x := by
  unfold Device.scMax
  dsimp only
  split <;> rfl

/-- A count stops at the largest value of its field. -/
theorem Device.scOpen_scAdd_same (d : Device) (n k : Nat) {off size : Nat} (hsize : 0 < size) (h : off % 8 + size ≤ 8) :
    (d.scAdd cl n off size k).scOpen cl n off size = Nat.min (2 ^ (8 * size) - 1) (d.scOpen cl n off size + k) := by
  rw [Device.scOpen, Device.scAdd_openBank, Device.scAdd]
  split
  case isTrue hk =>
    rw [hk, Nat.add_zero]
    exact (Nat.min_eq_right (Cluster.scGet_le _ _ _ _ hsize)).symm
  case isFalse =>
    have hlt : ∀ a, satBits (8 * size) a < 2 ^ (8 * size) := fun a =>
      Nat.lt_of_le_of_lt (Nat.min_le_right _ _) (Nat.sub_lt (Nat.two_pow_pos _) Nat.one_pos)
    rw [Device.cluster_setCluster_same, Cluster.scGet_scPut_same _ _ _ _ hsize h, Nat.mod_eq_of_lt (hlt _)]
    exact Nat.min_comm _ _

theorem Device.scOpen_scAdd_apart (d : Device) (n k : Nat) {off size off' size' : Nat} (hsize : 0 < size) (hsize' : 0 < size')
    (h : off % 8 + size ≤ 8) (hap : off + size ≤ off' ∨ off' + size' ≤ off) :
    (d.scAdd cl n off' size' k).scOpen cl n off size = d.scOpen cl n off size := by
  rw [Device.scOpen, Device.scAdd_openBank, Device.scAdd]
  split
  · rfl
  · rw [Device.cluster_setCluster_same, Cluster.scGet_scPut_apart _ _ _ _ hsize hsize' h hap, Device.scOpen]

theorem Device.scOpen_scMax_apart (d : Device) (n v : Nat) {off size off' size' : Nat} (hsize : 0 < size) (hsize' : 0 < size')
    (h : off % 8 + size ≤ 8) (hap : off + size ≤ off' ∨ off' + size' ≤ off) :
    (d.scMax cl n off' size' v).scOpen cl n off size = d.scOpen cl n off size := by
  rw [Device.scOpen, Device.scMax_openBank, Device.scMax]
  split
  · rw [Device.cluster_setCluster_same, Cluster.scGet_scPut_apart _ _ _ _ hsize hsize' h hap, Device.scOpen]
  · rfl

end Scorecards

/-! ## AGREEMENT_SAMPLE (R199) -/

section Samples
variable {d : Device} {cl : ClusterId} {x : Sample} {rest : List Sample} {ws : List (List W32)}

/-- A cluster whose oldest sample has been taken. -/
def Device.sampleTaken (d : Device) (cl : ClusterId) (rest : List Sample) : Device :=
  d.setUnits cl { d.unitsOf cl with samples := rest }

theorem Device.scOpen_sampleTaken (n off size : Nat) : (d.sampleTaken cl rest).scOpen cl n off size = d.scOpen cl n off size := rfl

theorem Device.completeSample_some {e : Nat} (h : (d.unitsOf cl).samples = x :: rest) (he : x.err ws = some e) :
    d.completeSample cl ws =
      (((d.sampleTaken cl rest).scAdd cl x.layer 20 2 1).scMax cl x.layer 22 2 e).scAdd cl x.layer 24 4 e := by
  simp only [Device.completeSample, h, he, Device.sampleTaken]

theorem Device.completeSample_none (h : (d.unitsOf cl).samples = x :: rest) (he : x.err ws = none) :
    d.completeSample cl ws = (d.sampleTaken cl rest).scPoison cl x.layer := by
  simp only [Device.completeSample, h, he, Device.sampleTaken]

/-- The oldest sample is taken, and the open bank stays. -/
theorem Device.completeSample_takes (h : (d.unitsOf cl).samples = x :: rest) :
    ((d.completeSample cl ws).unitsOf cl).samples = rest ∧ (d.completeSample cl ws).openBank cl = d.openBank cl := by
  have htaken : ((d.sampleTaken cl rest).unitsOf cl).samples = rest := by rw [Device.sampleTaken, Device.unitsOf_setUnits_same]
  cases he : x.err ws with
  | none =>
    rw [Device.completeSample_none h he]
    exact ⟨htaken, rfl⟩
  | some e =>
    rw [Device.completeSample_some h he, Device.scAdd_unitsOf, Device.scMax_unitsOf, Device.scAdd_unitsOf, Device.scAdd_openBank,
      Device.scMax_openBank, Device.scAdd_openBank]
    exact ⟨htaken, rfl⟩

/-- A finite sample counts, and its error adds to the sum. -/
theorem Device.completeSample_counts {e : Nat} (h : (d.unitsOf cl).samples = x :: rest) (he : x.err ws = some e) :
    (d.completeSample cl ws).scOpen cl x.layer 20 2 = Nat.min 65535 (d.scOpen cl x.layer 20 2 + 1) ∧
      (d.completeSample cl ws).scOpen cl x.layer 24 4 = Nat.min (2 ^ 32 - 1) (d.scOpen cl x.layer 24 4 + e) := by
  rw [Device.completeSample_some h he]
  constructor
  · exact (Device.scOpen_scAdd_apart _ _ _ (by decide) (by decide) (by decide) (by decide)).trans
      ((Device.scOpen_scMax_apart _ _ _ (by decide) (by decide) (by decide) (by decide)).trans
        (Device.scOpen_scAdd_same _ _ _ (by decide) (by decide)))
  · refine (Device.scOpen_scAdd_same _ _ _ (by decide) (by decide)).trans ?_
    have hsum : ((d.sampleTaken cl rest).scAdd cl x.layer 20 2 1 |>.scMax cl x.layer 22 2 e).scOpen cl x.layer 24 4 =
        d.scOpen cl x.layer 24 4 :=
      (Device.scOpen_scMax_apart _ _ _ (by decide) (by decide) (by decide) (by decide)).trans
        (Device.scOpen_scAdd_apart _ _ _ (by decide) (by decide) (by decide) (by decide))
    exact congrArg (fun n => Nat.min (2 ^ 32 - 1) (n + e)) hsum

/-- A sample that is not finite sets POISONED and does not count. -/
theorem Device.completeSample_poisons (h : (d.unitsOf cl).samples = x :: rest) (he : x.err ws = none) :
    bitAt ((d.completeSample cl ws).scOpen cl x.layer 16 1) 7 = true ∧
      (d.completeSample cl ws).scOpen cl x.layer 20 2 = d.scOpen cl x.layer 20 2 := by
  have hopen : ∀ off size, ((d.sampleTaken cl rest).scPoison cl x.layer).scOpen cl x.layer off size =
      ((d.cluster cl).scPut (d.openBank cl) x.layer 16 1 ((d.cluster cl).scGet (d.openBank cl) x.layer 16 1 ||| 0x80)).scGet
        (d.openBank cl) x.layer off size := fun off size =>
    congrArg (fun y : Cluster => y.scGet (d.openBank cl) x.layer off size) (Device.cluster_setCluster_same _ cl _)
  rw [Device.completeSample_none h he, hopen, hopen, Cluster.scGet_scPut_same _ _ _ _ (by decide) (by decide),
    Cluster.scGet_scPut_apart _ _ _ _ (by decide) (by decide) (by decide) (by decide), bitAt, Nat.testBit_mod_two_pow,
    Nat.testBit_or]
  exact ⟨by simp [show Nat.testBit 0x80 7 = true by decide], rfl⟩

end Samples

end Sys2Proof.Machine
end

section
/-!
PROOFS. A MERGE of one word.
-/
namespace Sys2Proof.Machine

/-! ## MERGE (R205, R220, R221) -/

section Merge
variable {d e : Device} {cl : ClusterId} {n : Nat}

/-- A field of the current descriptor depends on its two words. -/
theorem Device.layerF_congr (hi lo : Nat) (h : ∀ k < 2, e.reg (Reg.layerDesc cl n k) = d.reg (Reg.layerDesc cl n k)) :
    e.layerF cl 0 n hi lo = d.layerF cl 0 n hi lo := by
  have hwords : ∀ f : Device, f.layerF cl 0 n hi lo =
      bitsOf (f.regN (Reg.layerDesc cl n 0) + f.regN (Reg.layerDesc cl n 1) <<< 64) hi lo := fun _ => rfl
  rw [hwords, hwords, Device.regN, Device.regN, h 0 (by decide), h 1 (by decide), Device.regN, Device.regN]

/-- The merged word depends on the registers of clusters and on the clusters alone. -/
theorem Device.mergedWord_congr (hreg : ∀ x a, e.reg (Reg.clu x a) = d.reg (Reg.clu x a)) (hcl : ∀ x, e.cluster x = d.cluster x)
    (cl : ClusterId) (n w : Nat) : e.mergedWord cl n w = d.mergedWord cl n w := by
  have hon : ∀ x, e.wcOn x = d.wcOn x := fun x => Device.rbit_congr _ (hreg x 0)
  have hstate : ∀ x, e.wcState x = d.wcState x := fun x => Device.rf_congr _ _ (hreg x 8)
  have hvalid : ∀ x, e.layerValid x 0 n = d.layerValid x 0 n := fun x => by
    rw [Device.layerValid, Device.layerF_congr 37 37 (fun k _ => hreg x _), Device.layerValid]
  simp only [Device.mergedWord, Device.sharing, hon, hvalid, hstate, hcl]

/-- A rung of the next descriptor o of a layer under a merged word: its field at p.2, with the record of a clamp (R220). -/
def Device.applyRung (cl : ClusterId) (n w cur lim ladder : Nat) (d : Device) (p : Nat × Nat) : Device :=
  let r : Int := (bitsOf cur (p.2 + 2) p.2 : Nat) + sext (bitsOf w (p.2 + 3) p.2) 4
  let x := clampRung ladder lim r
  let d1 := d.setRf (Reg.layerNext cl n 0) (p.2 + 2) p.2 x
  if (x : Int) = r then d1
  else d1.wcEmit cl 0x4002 .notice [(0, 1, n), (1, 1, p.1), (2, 1, wrapInt r 8), (3, 1, x)]

/-- OUTL_ALLOW of the next descriptor of a layer under a merged word (R220). -/
def Device.mergedAllow (d : Device) (cl : ClusterId) (n w : Nat) : Nat :=
  (min (max ((d.rf (Reg.layerDesc cl n 0) 22 16 : Nat) + sext (bitsOf w 23 16) 8) 0) 64).toNat

/-- OBSERVED of the next descriptor of a layer under a merged word (R220). -/
def Device.applyObserved (cl : ClusterId) (n w : Nat) (d : Device) : Device :=
  match bitsOf w 15 14 with
  | 1 => d.setRf (Reg.layerNext cl n 0) 29 29 1
  | 2 => d.setRf (Reg.layerNext cl n 0) 29 29 0
  | _ => d

/-- MODE of a layer's next tensor-scale entries under a merged word (R101, R220). -/
def Device.applyScale (cl : ClusterId) (w lim : Nat) (d : Device) : Device :=
  match bitsOf w 13 12 with
  | 0 => d
  | m => (d.setRf (Reg.tscaleNext cl (bitsOf lim 55 48)) 37 37 (2 - m)).setRf (Reg.tscaleNext cl (bitsOf lim 63 56)) 37 37 (2 - m)

theorem Device.applyWord_eq (w : Nat) : d.applyWord cl n w =
    Device.applyScale cl w (d.regN (Reg.layerNext cl n 0)) (Device.applyObserved cl n w
      (([(0, 0), (1, 4)].foldl (Device.applyRung cl n w (d.regN (Reg.layerDesc cl n 0)) (d.regN (Reg.layerNext cl n 0))
        (d.regN (Reg.wcLadder cl))) d).setRf (Reg.layerNext cl n 0) 22 16 (d.mergedAllow cl n w))) := rfl

theorem Device.reg_applyRung_other (w cur lim ladder : Nat) (p : Nat × Nat) {a : Nat} (h : Reg.clu cl a ≠ Reg.layerNext cl n 0) :
    (Device.applyRung cl n w cur lim ladder d p).reg (Reg.clu cl a) = d.reg (Reg.clu cl a) := by
  unfold Device.applyRung
  dsimp only
  split
  · exact Device.reg_setRf_other _ _ _ _ h
  · rw [Device.reg_wcEmit, Device.reg_setRf_other _ _ _ _ h]

theorem Device.clusters_applyRung (w cur lim ladder : Nat) (p : Nat × Nat) :
    (Device.applyRung cl n w cur lim ladder d p).clusters = d.clusters := by
  unfold Device.applyRung
  dsimp only
  split
  · rfl
  · exact (Device.Reports.emit ..).clusters

theorem Device.reg_applyObserved_other (w : Nat) {o : Nat} (h : o ≠ Reg.layerNext cl n 0) :
    (Device.applyObserved cl n w d).reg o = d.reg o := by
  unfold Device.applyObserved
  split
  · exact Device.reg_setRf_other _ _ _ _ h
  · exact Device.reg_setRf_other _ _ _ _ h
  · rfl

/-- OBSERVED stands apart from OUTL_ALLOW. -/
theorem Device.allow_applyObserved (w : Nat) :
    (Device.applyObserved cl n w d).rf (Reg.layerNext cl n 0) 22 16 = d.rf (Reg.layerNext cl n 0) 22 16 := by
  unfold Device.applyObserved
  split
  · exact Device.rf_setRf_apart _ _ _ (by decide) (by decide)
  · exact Device.rf_setRf_apart _ _ _ (by decide) (by decide)
  · rfl

theorem Device.clusters_applyObserved (w : Nat) : (Device.applyObserved cl n w d).clusters = d.clusters := by
  unfold Device.applyObserved
  split <;> rfl

theorem Device.reg_applyScale_other (w lim : Nat) {o : Nat} (h : ∀ i < 256, o ≠ Reg.tscaleNext cl i) :
    (Device.applyScale cl w lim d).reg o = d.reg o := by
  unfold Device.applyScale
  split
  · rfl
  · rw [Device.reg_setRf_other _ _ _ _ (h _ (bitsOf_lt lim 63 56)), Device.reg_setRf_other _ _ _ _ (h _ (bitsOf_lt lim 55 48))]

theorem Device.clusters_applyScale (w lim : Nat) : (Device.applyScale cl w lim d).clusters = d.clusters := by
  unfold Device.applyScale
  split <;> rfl

/-- A merged word writes word 0 of the next descriptor and next entries. -/
theorem Device.reg_applyWord_other (w : Nat) {a : Nat} (h : Reg.clu cl a ≠ Reg.layerNext cl n 0)
    (hts : ∀ i < 256, Reg.clu cl a ≠ Reg.tscaleNext cl i) : (d.applyWord cl n w).reg (Reg.clu cl a) = d.reg (Reg.clu cl a) := by
  rw [Device.applyWord_eq, Device.reg_applyScale_other _ _ hts, Device.reg_applyObserved_other _ h, Device.reg_setRf_other _ _ _ _ h]
  exact foldl_keeps (fun f : Device => f.reg (Reg.clu cl a)) (fun _ p _ => Device.reg_applyRung_other _ _ _ _ p h) d

theorem Device.clusters_applyWord (w : Nat) : (d.applyWord cl n w).clusters = d.clusters := by
  rw [Device.applyWord_eq, Device.clusters_applyScale, Device.clusters_applyObserved, Device.setRf_clusters]
  exact foldl_keeps (fun f : Device => f.clusters) (fun _ p _ => Device.clusters_applyRung _ _ _ _ p) d

/-- OUTL_ALLOW takes the current descriptor's and the word's, within 0 to 64. -/
theorem Device.allow_applyWord (w : Nat) : (d.applyWord cl n w).rf (Reg.layerNext cl n 0) 22 16 = d.mergedAllow cl n w := by
  have hts : ∀ i < 256, Reg.layerNext cl n 0 ≠ Reg.tscaleNext cl i := fun i _ => Reg.clu_ne (by omega)
  have hle : d.mergedAllow cl n w < 2 ^ 7 := by
    unfold Device.mergedAllow
    omega
  rw [Device.applyWord_eq, Device.rf_congr _ _ (Device.reg_applyScale_other _ _ hts), Device.allow_applyObserved,
    Device.rf_setRf_same _ _ _ _ (by decide)]
  exact Nat.mod_eq_of_lt hle

/-- A word of the width-controller region that is put reads as it was put. -/
theorem Cluster.wcPut_word {x : Cluster} (i v : Nat) (h : tsorted x.wc = true) : tget (x.wcPut i v).wc 0 i = BitVec.ofNat 64 v := by
  unfold Cluster.wcPut
  dsimp only
  split
  case isTrue hv =>
    rw [tget_tdel _ _ _ h, if_pos rfl, hv]
    rfl
  case isFalse => exact tget_tput_same ..

/-- The module after one word w of layer n is merged in a cluster. -/
def Device.mergeWord (d : Device) (cl : ClusterId) (n w : Nat) : Device :=
  let d1 := (d.setCluster cl ((d.cluster cl).wcPut n w)).applyWord cl n w
  d1.setUnits cl { d1.unitsOf cl with mergedLayers := sinsert (d1.unitsOf cl).mergedLayers n }

theorem Device.cluster_mergeWord (w : Nat) : (d.mergeWord cl n w).cluster cl = (d.cluster cl).wcPut n w := by
  refine Eq.trans (congrArg (fun t => tget t Cluster.init (clusterKey cl)) (Device.clusters_applyWord w)) ?_
  exact Device.cluster_setCluster_same d cl _

theorem Device.reg_mergeWord_other (w : Nat) {a : Nat} (h : Reg.clu cl a ≠ Reg.layerNext cl n 0)
    (hts : ∀ i < 256, Reg.clu cl a ≠ Reg.tscaleNext cl i) : (d.mergeWord cl n w).reg (Reg.clu cl a) = d.reg (Reg.clu cl a) :=
  (Device.reg_applyWord_other w h hts).trans (Device.reg_setCluster ..)

theorem Device.allow_mergeWord (w : Nat) : (d.mergeWord cl n w).rf (Reg.layerNext cl n 0) 22 16 = d.mergedAllow cl n w :=
  Device.allow_applyWord (d := d.setCluster cl ((d.cluster cl).wcPut n w)) w

end Merge

section MergeMessage
variable {s : State} {cl : ClusterId} {n : Nat}

/-- A message that is taken moves the head of the receive ring, which is no register of a cluster. -/
theorem State.takeMessage_frame (mtype seat : Nat) :
    (s.takeMessage mtype seat).mem = s.mem ∧ (∀ x, (s.takeMessage mtype seat).dev.cluster x = s.dev.cluster x) ∧
      ∀ x a, (s.takeMessage mtype seat).dev.reg (Reg.clu x a) = s.dev.reg (Reg.clu x a) := by
  have hne : ∀ x a, Reg.clu x a ≠ Reg.msgRx := fun x a => by
    simp only [Reg.clu, blockBase, Reg.msgRx]
    omega
  unfold State.takeMessage
  dsimp only
  split
  · exact ⟨rfl, fun _ => rfl, fun x a => Device.reg_setRf_other _ _ _ _ (hne x a)⟩
  · exact ⟨rfl, fun _ => rfl, fun _ _ => rfl⟩

/-- One word of a MERGE: it is merged, and a next map area that is not the current one is built. -/
def State.mergeStep (cl : ClusterId) (s : State) (p : Nat × W64) : State :=
  let n := p.1 % 256
  let w := s.dev.mergedWord cl n p.2.toNat
  let s2 := s.onDev fun d => d.mergeWord cl n w
  if s2.dev.rf (Reg.layerNext cl n 1) 43 0 = s2.dev.layerF cl 0 n 107 64 then s2 else s2.buildMaps cl n w

/-- A MERGE without maxima that reaches a cluster in proposed merges its words in turn. -/
theorem State.mergeWords_words (seat : Nat) (words : List (Nat × W64)) (hc : clusterPresent cl = true) (hstate : s.dev.wcState cl = 2)
    (hnext : s.dev.nextReady cl = true) :
    ∃ f, s.mergeWords cl seat words [] = words.foldl (State.mergeStep cl) (s.onDev fun d => d.onPeer f) :=
  ⟨fun x => { x with mergedFrom := sinsert x.mergedFrom (256 * seat + clusterKey cl) }, if_neg (by simp [hc, hstate, hnext])⟩

/-- A word of a layer whose next map area is its current one is merged, and no map is built. -/
theorem State.mergeStep_same (v : W64) (hn : n < 256)
    (hmap : s.dev.rf (Reg.layerNext cl n 1) 43 0 = s.dev.layerF cl 0 n 107 64) :
    s.mergeStep cl (n, v) = s.onDev fun d => d.mergeWord cl n (s.dev.mergedWord cl n v.toNat) := by
  have hmod : n % 256 = n := Nat.mod_eq_of_lt hn
  have hkept : ∀ w, (s.dev.mergeWord cl n w).rf (Reg.layerNext cl n 1) 43 0 = (s.dev.mergeWord cl n w).layerF cl 0 n 107 64 := by
    intro w
    have hnext : (s.dev.mergeWord cl n w).reg (Reg.layerNext cl n 1) = s.dev.reg (Reg.layerNext cl n 1) :=
      Device.reg_mergeWord_other w (Reg.clu_ne (by omega)) fun i _ => Reg.clu_ne (by omega)
    have hdesc : ∀ k < 2, (s.dev.mergeWord cl n w).reg (Reg.layerDesc cl n k) = s.dev.reg (Reg.layerDesc cl n k) := fun k hk =>
      Device.reg_mergeWord_other w (Reg.clu_ne (by omega)) fun i _ => Reg.clu_ne (by omega)
    rw [Device.rf_congr _ _ hnext, Device.layerF_congr _ _ hdesc, hmap]
  unfold State.mergeStep
  dsimp only
  rw [hmod, State.onDev_dev, if_pos (hkept _)]

theorem Device.mergedAllow_congr {d e : Device} (w : Nat) (h : e.reg (Reg.layerDesc cl n 0) = d.reg (Reg.layerDesc cl n 0)) :
    e.mergedAllow cl n w = d.mergedAllow cl n w := by
  rw [Device.mergedAllow, Device.rf_congr 22 16 h, Device.mergedAllow]

/-- A MERGE of one word writes it and the next descriptor's OUTL_ALLOW. -/
theorem exec_merge_word {k seat : Nat} (v : W64) (hp : s.dev.power.input = true) (hcl : clusterOf k = cl) (hk : k < 128) (hn : n < 256)
    (hsort : tsorted (s.dev.cluster cl).wc = true) (hstate : s.dev.wcState cl = 2) (hnext : s.dev.nextReady cl = true)
    (hmap : s.dev.rf (Reg.layerNext cl n 1) 43 0 = s.dev.layerF cl 0 n 107 64) :
    ∃ t, exec (.merge seat k [(n, v)] []) s = .next t ∧ t.mem = s.mem ∧
      tget (t.dev.cluster cl).wc 0 n = BitVec.ofNat 64 (s.dev.mergedWord cl n v.toNat) ∧
      t.dev.rf (Reg.layerNext cl n 0) 22 16 = s.dev.mergedAllow cl n (s.dev.mergedWord cl n v.toNat) := by
  have hc : clusterPresent cl = true := by
    have hdie : k / 16 < 8 ∧ k % 16 < 16 := by omega
    simp [← hcl, clusterPresent, clusterOf, hdie]
  obtain ⟨hmem, hclusters, hregs⟩ := s.takeMessage_frame 0x20 seat
  obtain ⟨f, hwords⟩ := State.mergeWords_words seat [(n, v)] hc ((Device.rf_congr 1 0 (hregs cl 8)).trans hstate)
    ((Device.rbit_congr 2 (hregs cl 8)).trans hnext)
  let u : State := (s.takeMessage 0x20 seat).onDev fun d => d.onPeer f
  have hureg : ∀ x a, u.dev.reg (Reg.clu x a) = s.dev.reg (Reg.clu x a) := hregs
  have hucl : ∀ x, u.dev.cluster x = s.dev.cluster x := hclusters
  have humap : u.dev.rf (Reg.layerNext cl n 1) 43 0 = u.dev.layerF cl 0 n 107 64 :=
    (Device.rf_congr 43 0 (hureg cl _)).trans (hmap.trans (Device.layerF_congr 107 64 fun k _ => hureg cl _).symm)
  have hword : u.dev.mergedWord cl n v.toNat = s.dev.mergedWord cl n v.toNat := Device.mergedWord_congr hureg hucl cl n v.toNat
  rw [List.foldl_cons, List.foldl_nil, State.mergeStep_same v hn humap, hword] at hwords
  refine ⟨_, (exec_merge ..).trans (memNext_on _ hp), ?_, ?_, ?_⟩
  all_goals simp only [hcl, hwords, State.onDev_dev, State.onDev_mem]
  · exact hmem
  · rw [Device.cluster_mergeWord, Cluster.wcPut_word n _ ((congrArg (fun x : Cluster => tsorted x.wc) (hucl cl)).trans hsort)]
  · rw [Device.allow_mergeWord, Device.mergedAllow_congr _ (hureg cl _)]

end MergeMessage

end Sys2Proof.Machine
end

section
/-!
PROOFS. MERGE_TIMEOUT: what leaves the peer unit, and the hold of the commits, as they are.
-/
namespace Sys2Proof.Machine

/-! ## What keeps the peer unit as it is (R467 to R474) -/

section Peer
variable (d : Device)

@[simp] theorem Device.emit_peer (src : EvSrc) (code : Nat) (cls : EvClass) (p : Bool) (det : List Byte) (o : Option (Nat × Nat)) :
    (d.emit src code cls p det o).peer = d.peer := (Device.Reports.emit ..).peer

theorem Device.flitOut_peer (p hdr : Nat) (payload : List Byte) : (d.flitOut p hdr payload).peer = d.peer := by
  unfold Device.flitOut
  dsimp only
  rw [(Device.Reports.send ..).peer]
  split <;> rfl

theorem Device.sendFlit_peer (p hdr : Nat) (payload : List Byte) : (d.sendFlit p hdr payload).peer = d.peer := by
  unfold Device.sendFlit
  split
  · rfl
  · exact Device.flitOut_peer d p hdr payload

theorem Device.sendPacketFlits_peer (p : Nat) (pk : PeerPacket) : (d.sendPacketFlits p pk).peer = d.peer :=
  foldl_keeps (fun e : Device => e.peer) (fun e _ _ => Device.sendFlit_peer e p _ _) (d.setPort p _)

theorem Device.pumpFuel_peer (n p : Nat) : (Device.pumpFuel n d p).peer = d.peer := by
  induction n generalizing d with
  | zero => rfl
  | succ n ih =>
    unfold Device.pumpFuel
    split
    · rfl
    · rw [ih, Device.sendPacketFlits_peer]
      rfl

theorem Device.queuePacket_peer (p vc : Nat) (bytes : List Byte) (entry : Option Nat) :
    (d.queuePacket p vc bytes entry).peer = d.peer := Device.pumpFuel_peer _ _ _

/-! ## What keeps the commits held (R221, R492, R494 to R498) -/

/-- A change of the peer unit that keeps the commits held, or not. -/
theorem Device.onPeer_mergeHeld {f : PeerUnit → PeerUnit} (h : ∀ x, (f x).mergeHeld = x.mergeHeld) :
    (d.onPeer f).peer.mergeHeld = d.peer.mergeHeld := h d.peer

theorem Device.unreachable_mergeHeld (tag t : Nat) : (d.unreachable tag t).peer.mergeHeld = d.peer.mergeHeld := by
  unfold Device.unreachable
  split
  · rfl
  · rw [Device.emit_peer]
    rfl

theorem Device.sendMessage_mergeHeld (t stew : Nat) (bytes : List Byte) (p : Bool) :
    (d.sendMessage t stew bytes p).peer.mergeHeld = d.peer.mergeHeld := by
  unfold Device.sendMessage
  dsimp only
  split
  · rw [Device.queuePacket_peer]
  · split
    · rw [Device.queuePacket_peer]
    · exact Device.unreachable_mergeHeld d 0 t

theorem Device.firmwareMessage_mergeHeld (t mtype : Nat) (body : List Byte) :
    (d.firmwareMessage t mtype body).peer.mergeHeld = d.peer.mergeHeld := Device.sendMessage_mergeHeld d.takeFresh ..

theorem Device.regainQuorum_mergeHeld : d.regainQuorum.peer.mergeHeld = d.peer.mergeHeld := by
  unfold Device.regainQuorum
  split <;> rfl

theorem Device.acceptRoster_mergeHeld (epoch : Nat) (es : List W64) (proposer : Nat) :
    (d.acceptRoster epoch es proposer).peer.mergeHeld = d.peer.mergeHeld := by
  refine Eq.trans (Device.onPeer_mergeHeld _ fun _ => rfl) ?_
  rw [Device.setRf_peer, Device.setRf_peer, foldl_keeps (fun e : Device => e.peer) fun _ _ _ => Device.setReg_peer ..]

/-- Messages to seats leave the commits held. -/
theorem Device.firmwareMessages_mergeHeld (mtype : Nat) (body : List Byte) (l : List Nat) :
    (l.foldl (fun (e : Device) t => if t = e.seat then e else e.firmwareMessage t mtype body) d).peer.mergeHeld = d.peer.mergeHeld := by
  refine foldl_keeps (fun e : Device => e.peer.mergeHeld) (fun e t _ => ?_) d
  split
  · rfl
  · exact Device.firmwareMessage_mergeHeld ..

/-- A proposal leaves the commits held: a roster commit is what lets them go. -/
theorem Device.proposeAs_mergeHeld (same : Bool) : (d.proposeAs same).peer.mergeHeld = d.peer.mergeHeld := by
  unfold Device.proposeAs
  dsimp only
  split
  · rw [Device.loseQuorum, Device.peerEmit, Device.emit_peer, Device.setRf_peer]
    exact Device.onPeer_mergeHeld _ fun _ => rfl
  · refine Eq.trans (Device.firmwareMessages_mergeHeld ..) (Eq.trans (Device.onPeer_mergeHeld _ fun _ => rfl) ?_)
    rw [Device.acceptRoster_mergeHeld, Device.regainQuorum_mergeHeld]
    exact Device.onPeer_mergeHeld _ fun _ => rfl

theorem Device.takeReport_mergeHeld (seat live : Nat) (suspect : Bool) :
    (d.takeReport seat live suspect).peer.mergeHeld = d.peer.mergeHeld := by
  unfold Device.takeReport
  have hlive : (if seat < 9 then d.onPeer fun x => { x with live := tput x.live seat (live % 512) } else d).peer.mergeHeld =
      d.peer.mergeHeld := by
    split
    · exact Device.onPeer_mergeHeld _ fun _ => rfl
    · rfl
  dsimp only
  split
  · exact hlive
  · split
    · exact (Device.proposeAs_mergeHeld ..).trans hlive
    · exact hlive

/-! ## MERGE_TIMEOUT (R221) -/

/-- The seat's commits are held once a merge wait has run out. -/
theorem Device.mergeTimeout_holds (stew seat : Nat) : (d.mergeTimeout stew seat).peer.mergeHeld = true := by
  unfold Device.mergeTimeout
  dsimp only
  split
  · rfl
  · split
    · exact Device.takeReport_mergeHeld ..
    · exact Device.firmwareMessage_mergeHeld ..

/-- MERGE_TIMEOUT is the newest record of a seat that has no leader to tell. -/
theorem Device.mergeTimeout_newest {d : Device} (stew seat : Nat) (h : d.untraced) (hno : d.rosterEpoch = 0 ∨ 9 ≤ d.leaderNow) :
    (d.mergeTimeout stew seat).newest = some 0x4006 := by
  rw [Device.mergeTimeout, if_pos hno, Device.newest, Device.onPeer_log, Device.emit_log h]
  rfl

end Peer

end Sys2Proof.Machine
end

section
/-!
PROOFS. O34: steps close and commit in order.
-/
namespace Sys2Proof.Machine

/-! ## The commands of a step -/

section Commands
variable {s : State} {cl : ClusterId} (hp : s.dev.power.input = true) (hc : clusterPresent cl = true)
include hp hc

theorem exec_close_next : exec (.close cl) s = .next (s.onDev fun d => (d.wcClose cl (d.wcOn cl)).1) :=
  onCluster_next hp hc rfl

theorem exec_closeBankSwap_next : exec (.closeBankSwap cl) s = .next (s.onDev fun d => d.closeSwap cl) :=
  onCluster_next hp hc rfl

theorem exec_commit_next : exec (.commit cl) s = .next (s.onDev fun d => (d.wcCommit cl (d.wcOn cl)).1) :=
  onCluster_next hp hc rfl

theorem exec_nextCopyDone_next : exec (.nextCopyDone cl) s = .next (s.onDev fun d => d.nextCopied cl) :=
  onCluster_next hp hc rfl

theorem exec_wcAbandon_next : exec (.wcAbandon cl) s = .next (s.onDev fun d => d.writeWcAbandon cl 1) :=
  onCluster_next hp hc rfl

theorem exec_agreementSample_next (ws : List (List W32)) :
    exec (.agreementSample cl ws) s = .next (s.onDev fun d => d.completeSample cl ws) :=
  onCluster_next hp hc rfl

theorem exec_generationSwap_next : exec (.generationSwap cl) s =
    .next { s with mem := (s.generationSwap cl).mem, dev := (s.generationSwap cl).dev } := by
  rw [exec_generationSwap, execGenerationSwap, memNext_on _ hp, if_pos hc]

/-- A bank swap that goes puts the cluster in proposed, with STEP up by one and the other bank open. -/
theorem exec_closeBankSwap_proposes (h : s.dev.wcState cl = 1) (hs : (s.dev.unitsOf cl).samples = []) :
    ∃ t, exec (.closeBankSwap cl) s = .next t ∧ t.mem = s.mem ∧ t.dev.wcState cl = 2 ∧
      t.dev.rf (Reg.wcStep cl) 31 0 = (s.dev.rf (Reg.wcStep cl) 31 0 + 1) % 2 ^ 32 ∧
      t.dev.openBank cl = 1 - s.dev.openBank cl := by
  obtain ⟨f, hswap⟩ := Device.closeSwap_proposes h hs
  have hne : Reg.wcStep cl ≠ Reg.wcStat cl := Reg.clu_ne (by decide)
  have hstep : (s.dev.closeSwap cl).rf (Reg.wcStep cl) 31 0 = (s.dev.rf (Reg.wcStep cl) 31 0 + 1) % 2 ^ 32 := by
    rw [hswap, Device.rf_congr 31 0 (Device.reg_onPeer ..), Device.rf_congr 31 0 (Device.reg_setWcState_other _ cl 2 hne),
      Device.rf_wcStep_evaluated]
  have hstate : (s.dev.closeSwap cl).wcState cl = 2 := by
    rw [hswap]
    exact (Device.rf_congr 1 0 (Device.reg_onPeer ..)).trans (Device.wcState_setWcState _ cl (by decide))
  refine ⟨_, exec_closeBankSwap_next hp hc, rfl, hstate, hstep, ?_⟩
  rw [State.onDev_dev, Device.openBank_eq, hstep, Device.openBank_eq]
  omega

/-- A commit that nothing holds opens the step, with the expected epoch current, and rotates what is not pinned. -/
theorem exec_generationSwap_rotates (h : s.dev.wcState cl = 3) (hheld : s.commitHeld cl = false) :
    ∃ t, exec (.generationSwap cl) s = .next t ∧ ((s.dev.unitsOf cl).mergedLayers = [] → t.mem = s.mem) ∧
      (t.dev.wcState cl = 0 ∧ t.dev.nextReady cl = false) ∧
      (t.dev.rf (Reg.wcEpoch cl) 15 0 = s.dev.rf (Reg.wcEpoch cl) 47 32 ∧
        t.dev.rf (Reg.wcEpoch cl) 31 16 = s.dev.rf (Reg.wcEpoch cl) 15 0) ∧
      (∀ n < 256, ∀ w < 2, (s.dev.rbit (Reg.layerDesc cl n 0) 31 = false →
          t.dev.reg (Reg.layerPrior cl n w) = s.dev.reg (Reg.layerDesc cl n w) ∧
          t.dev.reg (Reg.layerDesc cl n w) = s.dev.reg (Reg.layerNext cl n w)) ∧
        (s.dev.rbit (Reg.layerDesc cl n 0) 31 = true → t.dev.reg (Reg.layerDesc cl n w) = s.dev.reg (Reg.layerDesc cl n w))) ∧
      ∀ i < 256, s.dev.pinned cl i = false → t.dev.reg (Reg.tscalePrior cl i) = s.dev.reg (Reg.tscaleEnt cl i) ∧
        (s.dev.rbit (Reg.tscaleNext cl i) 37 = true → t.dev.reg (Reg.tscaleEnt cl i) = s.dev.reg (Reg.tscaleNext cl i)) := by
  have hmaps : ∀ o, (s.buildInPlace cl).dev.reg o = s.dev.reg o := fun o =>
    congrArg (fun r => tget r (regReset o) o) State.buildInPlace_regs
  have hreg := State.reg_generationSwap h hheld
  obtain ⟨hstate, hnext⟩ := Device.swapGenerations_state (d := (s.buildInPlace cl).dev) (cl := cl)
  obtain ⟨hcur, hprior⟩ := Device.swapGenerations_epochs (d := (s.buildInPlace cl).dev) (cl := cl)
  refine ⟨_, exec_generationSwap_next hp hc, fun hnone => ?_, ⟨?_, ?_⟩, ⟨?_, ?_⟩, fun n hn w hw => ?_, fun i hi hpin => ?_⟩
  · exact (State.generationSwap_mem h hheld).trans (congrArg State.mem (State.buildInPlace_none hnone))
  · exact (Device.rf_congr 1 0 (hreg 8)).trans hstate
  · exact (Device.rbit_congr 2 (hreg 8)).trans hnext
  · exact (Device.rf_congr 15 0 (hreg 0x20)).trans (hcur.trans (Device.rf_congr 47 32 (hmaps _)))
  · exact (Device.rf_congr 31 16 (hreg 0x20)).trans (hprior.trans (Device.rf_congr 15 0 (hmaps _)))
  · rw [← hmaps (Reg.layerDesc cl n w), ← hmaps (Reg.layerNext cl n w), ← Device.rbit_congr 31 (hmaps (Reg.layerDesc cl n 0))]
    obtain ⟨hfree, hkept⟩ := Device.swapGenerations_layers (d := (s.buildInPlace cl).dev) (cl := cl) hn hw
    exact ⟨fun hrot => ⟨(hreg _).trans (hfree hrot).1, (hreg _).trans (hfree hrot).2⟩, fun hrot => (hreg _).trans (hkept hrot)⟩
  · obtain ⟨hscale, hent⟩ := Device.swapGenerations_scales (d := (s.buildInPlace cl).dev) (cl := cl) hi
      ((Device.rbit_congr _ (hmaps _)).trans hpin)
    exact ⟨(hreg _).trans (hscale.trans (hmaps _)),
      fun hlearned => (hreg _).trans ((hent ((Device.rbit_congr 37 (hmaps _)).trans hlearned)).trans (hmaps _))⟩

end Commands

/-! ## O34 -/

/-- Settles O34: each command answers with one change of the module, with one law for each state that the cluster is in. That a command
whose condition does not hold changes nothing, that a frozen drain does not hold the commit, when the wait of a merge starts and the epoch that
MERGE_TIMEOUT names are the model's choice (logs 24, 58, 214). -/
theorem stepsCloseAndCommitInOrder : Obligations.StepsCloseAndCommitInOrder := by
  intro s cl hp hc d on e
  refine ⟨fun hon h => ?_, fun h => ?_, fun h => ?_, fun h hs => ?_, fun hon h he => ?_, fun h => ?_, fun h => ?_, fun h hheld => ?_,
    fun h => ?_, fun h => ?_, fun h => ?_, fun h => ?_, fun x rest ws h => ?_, fun st seat hst => ?_,
    fun seat k n v hk hn hsort h hnext hmap => ?_⟩
  · exact exec_next_congr (exec_close_next hp hc) (Device.wcClose_accepted hon h)
  · obtain ⟨cause, hseq⟩ := Device.wcClose_refused h
    refine ⟨_, exec_next_congr (exec_close_next hp hc) (g := fun d => d.wcSequence cl cause) hseq, rfl,
      Device.wcState_wcSequence d cl cause, fun hu => Device.wcEmit_newest hu ..⟩
  · exact exec_next_keep (exec_closeBankSwap_next hp hc) (Device.closeSwap_waits h)
  · exact exec_closeBankSwap_proposes hp hc h hs
  · exact exec_next_congr (exec_commit_next hp hc) (Device.wcCommit_accepted hon h he)
  · obtain ⟨cause, hseq⟩ := Device.wcCommit_refused h
    exact ⟨_, exec_next_congr (exec_commit_next hp hc) (g := fun d => d.wcSequence cl cause) hseq, rfl,
      Device.wcState_wcSequence d cl cause⟩
  · rw [exec_generationSwap_next hp hc, State.generationSwap_waits h]
  · obtain ⟨t, hx, hmem, ⟨hstate, hnext⟩, ⟨hcur, hprior⟩, hlayers, hscales⟩ := exec_generationSwap_rotates hp hc h hheld
    exact ⟨t, hx, hmem, hstate, hnext, hcur, hprior, fun n hn w hw => (hlayers n hn w hw).1, fun n hn w hw => (hlayers n hn w hw).2,
      hscales⟩
  · exact exec_next_keep (exec_nextCopyDone_next hp hc) (Device.nextCopied_ready h)
  · exact ⟨_, exec_nextCopyDone_next hp hc, rfl, Device.nextReady_nextCopied h, fun n hn => Device.nextCopied_holds h hn⟩
  · exact exec_next_keep (exec_wcAbandon_next hp hc) (Device.writeWcAbandon_closed h)
  · exact ⟨_, exec_wcAbandon_next hp hc, rfl, Device.writeWcAbandon_clears h⟩
  · obtain ⟨hrest, hbank⟩ := Device.completeSample_takes (ws := ws) h
    have hcard : ∀ off size, ((d.completeSample cl ws).cluster cl).scGet (d.openBank cl) x.layer off size =
        (d.completeSample cl ws).scOpen cl x.layer off size := fun off size => by rw [Device.scOpen, hbank]
    refine ⟨_, exec_agreementSample_next hp hc ws, rfl, hrest, fun e he => ?_, fun he => ?_⟩
    all_goals simp only [State.onDev_dev]
    · rw [hcard, hcard]
      exact Device.completeSample_counts h he
    · rw [hcard, hcard]
      exact Device.completeSample_poisons h he
  · have hx : exec (.mergeTimeout st seat) s =
        .next (s.onDev fun d => if st < 4 && s.mergeOverdue seat then d.mergeTimeout st seat else d) := devNext_on _ hp
    refine ⟨fun h => exec_next_keep hx (if_neg (by simp [h])), fun h => ?_⟩
    refine ⟨_, exec_next_congr hx (g := fun d => d.mergeTimeout st seat) (if_pos (by simp [hst, h])), rfl,
      Device.mergeTimeout_holds d st seat, fun hu hno => Device.mergeTimeout_newest st seat hu hno⟩
  · exact exec_merge_word v hp rfl hk hn hsort h hnext (Nat.eq_of_mul_eq_mul_left (by decide) hmap)

end Sys2Proof.Machine
end

section
/-!
PROOFS. O27: handles as they are armed, the tiles of a read stream, and the words that the feeders of a run take.
-/
namespace Sys2Proof.Machine

/-! ## Events of the engines -/

/-- An event of the engines after which no vector operation and no stream instruction is queued is all that happens. -/
theorem engine_settled {s : State} {c : CoreId} {f : State → State} (hp : s.dev.power.input = true) (hpres : corePresent c = true)
    (hcomp : isCompute c = true) (hv : ((f s).dev.tensor c).vectorQ = []) (hs : ((f s).dev.tensor c).streamQ = []) :
    engine s c f = .next { s with mem := (f s).mem, dev := (f s).dev } := by
  rw [engine, memNext_on _ hp]
  simp only [hpres, hcomp, Bool.and_self, if_true, State.settle_idle 32 hv hs]

/-- An event of a calm core that keeps memory and the work of the engines is all that happens. -/
theorem engine_bookkept {s : State} {c : CoreId} {f : State → State} (h : s.calm c = true) (hb : State.Bookkept c s (f s)) :
    engine s c f = .next { s with mem := (f s).mem, dev := (f s).dev } :=
  engine_calm h hb.tensor.vectorQ hb.tensor.streamQ

/-- An event of a calm core that replaces a handle of it answers the state with the handle replaced. -/
theorem engine_setStream {s : State} {c : CoreId} {f : Device → Device} {h : Nat} {st : Stream} (hcalm : s.calm c = true)
    (hf : f s.dev = s.dev.setStream c h st) : engine s c (fun s => s.onDev f) = .next (s.onDev fun d => d.setStream c h st) := by
  have hon : s.onDev f = s.onDev fun d => d.setStream c h st := congrArg (fun d => { s with dev := d }) hf
  refine (engine_bookkept hcalm ?_).trans ?_
  · rw [hon]
    exact .onDev (Device.bookkept_setStream ..)
  · rw [hon]
    rfl

/-! ## Handles under records -/

section Handles
variable (d : Device) (c : CoreId) (h : Nat)

theorem Device.stream_congr {d e : Device} (h : Nat) (he : e.tensor c = d.tensor c) : e.stream c h = d.stream c h := by
  rw [Device.stream, he, Device.stream]

theorem Device.stream_setRun (r : Run) : (d.setRun c r).stream c h = d.stream c h := by
  rw [Device.stream, Device.tensor_setRun, Device.stream]

theorem Device.stream_trec (unit code : Nat) (cls : EvClass) (p : Bool) (tag : W16) (det : List (Nat × Nat × Nat)) :
    (d.trec c unit code cls p tag det).stream c h = d.stream c h := Device.stream_congr c h (Device.tensor_trec ..)

/-- A record emitted once leaves the handles. -/
theorem Device.stream_trecOnce (unit code : Nat) (cls : EvClass) (p : Bool) (tag : W16) (n : Nat) (det : List (Nat × Nat × Nat)) :
    (d.trecOnce c unit code cls p tag n det).stream c h = d.stream c h := by
  unfold Device.trecOnce
  dsimp only
  split
  · rfl
  · rw [Device.stream_trec, Device.stream, Device.tensor_setTensor_same, Device.stream]

/-- A stream fault leaves the handles. -/
theorem Device.stream_streamFault (code : Nat) (p : Bool) (tag : W16) (n : Nat) (det : List (Nat × Nat × Nat)) :
    (d.streamFault c code p tag n det).stream c h = d.stream c h := by
  unfold Device.streamFault
  split
  · rfl
  · exact (Device.stream_congr c h (Device.tensor_tfault ..)).trans (Device.stream_trecOnce ..)

/-- A stream fault that has not been reported yet sets FPEND (R257, R351). -/
theorem Device.fpend_streamFault {d : Device} {code : Nat} {tag : W16} {n : Nat} (p : Bool) (det : List (Nat × Nat × Nat))
    (hnew : (code, tag.toNat, n) ∉ (d.tensor c).once) : ((d.streamFault c code p tag n det).core c).csr.fpend = true := by
  rw [Device.streamFault, if_neg (by simpa using hnew)]
  exact Device.fpend_tfault ..

/-- The records of forming an item leave the handles. -/
theorem State.stream_formItem (s : State) (st : Stream) (n : Nat) (f : Fetch) :
    (s.formItem c n st f).1.dev.stream c h = s.dev.stream c h := by
  have hwhen : ∀ (p : Prop) [Decidable p] (t : State) (g : Device → Device), (∀ d : Device, (g d).stream c h = d.stream c h) →
      (if p then t.onDev g else t).dev.stream c h = t.dev.stream c h := by
    intro p _ t g hg
    split
    · exact hg _
    · rfl
  unfold State.formItem
  dsimp only
  split
  · exact (hwhen _ _ _ fun d => d.stream_trec ..).trans (hwhen _ _ _ fun d => d.stream_trecOnce ..)
  · rfl

/-- An item formed of a tile has its number. -/
theorem State.formItem_tile (s : State) (st : Stream) (f : Fetch) : (s.formItem c h st f).2.tile = f.tile := by
  unfold State.formItem
  dsimp only
  split
  · rfl
  · rfl

end Handles

/-! ## STREAM_ARMED (R310) -/

@[simp] theorem Device.tensor_popStreamQ (d : Device) (c : CoreId) :
    (d.popStreamQ c).tensor c = { d.tensor c with streamQ := (d.tensor c).streamQ.drop 1 } := Device.tensor_onTensor_same ..

theorem Device.stream_popStreamQ (d : Device) (c : CoreId) (h : Nat) : (d.popStreamQ c).stream c h = d.stream c h := by
  rw [Device.stream, Device.tensor_popStreamQ, Device.stream]

/-! ### Reads of memory while the engines change (R361, R362) -/

section Reads
variable (s : State) (c : CoreId) (g : Tensor → Tensor)

theorem State.load_onTensor : (s.onDev fun d => d.onTensor c g).load = s.load := rfl

theorem State.poisoned_onTensor : (s.onDev fun d => d.onTensor c g).poisoned = s.poisoned := rfl

theorem State.present_onTensor : (s.onDev fun d => d.onTensor c g).present = s.present := rfl

theorem State.reserveClosed_onTensor : (s.onDev fun d => d.onTensor c g).reserveClosed = s.reserveClosed := rfl

theorem State.regN_onTensor : (s.onDev fun d => d.onTensor c g).dev.regN = s.dev.regN := rfl

theorem State.walkRead_onTensor : (s.onDev fun d => d.onTensor c g).walkRead = s.walkRead := by
  funext a
  rw [State.walkRead, State.loadN, State.presentRange, State.load_onTensor, State.poisoned_onTensor, State.present_onTensor,
    State.reserveClosed_onTensor]
  rfl

theorem State.translateMem_onTensor (f a : Nat) (acc : Access) :
    (s.onDev fun d => d.onTensor c g).translateMem f a acc = s.translateMem f a acc := by
  rw [State.translateMem, State.translate, State.walkRead_onTensor, State.present_onTensor, State.reserveClosed_onTensor,
    State.regN_onTensor]
  rfl

theorem State.loadV_onTensor (f a n : Nat) : (s.onDev fun d => d.onTensor c g).loadV f a n = s.loadV f a n := by
  simp only [State.loadV, State.translateMem_onTensor, State.load_onTensor]

theorem State.loadV_popStreamQ (f a n : Nat) : (s.onDev fun d => d.popStreamQ c).loadV f a n = s.loadV f a n :=
  State.loadV_onTensor ..

end Reads

/-! ### SARM carried out -/

/-- In its turn the SARM at the head of the queue is carried out. -/
theorem State.streamArmed_head {s : State} {c : CoreId} {h : Nat} {op : TOp} {rest : List TOp}
    (hq : (s.dev.tensor c).streamQ = op :: rest) (hopc : op.opc = 0x80) (hd : op.ins.d.toNat = h)
    (hturn : (s.dev.tensor c).turn op h = true) : s.streamArmed c h = (s.onDev fun d => d.popStreamQ c).armStream c op h := by
  simp only [State.streamArmed, hq, hopc, hd, hturn, and_self, if_true]

section Arming
variable {s : State} {c : CoreId} {op : TOp} {h : Nat} {bs : List Byte} (hst : s.dev.stream c h = none)
  (hload : s.loadV op.fn op.x.toNat 64 = some (bs, false))
include hst hload

/-- A descriptor that passes the checks arms its handle. -/
theorem State.armStream_arms (hcause : s.armCause c op.fn h (leNat bs) = none) (hlink : sdLinked (leNat bs) = false) :
    (s.armStream c op h).mem = s.mem ∧ ((s.armStream c op h).dev.tensor c).vectorQ = (s.dev.tensor c).vectorQ ∧
      ((s.armStream c op h).dev.tensor c).streamQ = (s.dev.tensor c).streamQ ∧
      (s.armStream c op h).dev.stream c h = some (s.armed c op (leNat bs)) := by
  simp only [State.armStream, hst, hload, hcause, hlink, Bool.false_eq_true, Bool.false_and, if_false, State.onDev_mem,
    State.onDev_dev, true_and]
  split
  all_goals simp only [Device.stream, Device.setStream, Device.tensor_onTensor_same, tfind_tput_same, and_self]

/-- A descriptor that fails a check is STREAM_DESC with its cause (R351). -/
theorem State.armStream_refuses {n : Nat} (hcause : s.armCause c op.fn h (leNat bs) = some n) :
    ∃ partner, s.armStream c op h = s.onDev fun d => d.streamDesc c op.tag h n partner := by
  simp only [State.armStream, hst, hload, hcause, Bool.false_eq_true, if_false]
  exact ⟨_, rfl⟩

end Arming

/-- STREAM_ARMED of a core with nothing else queued carries the SARM out. -/
theorem exec_streamArmed_alone {s t : State} {c : CoreId} {h : Nat} {op : TOp} (hp : s.dev.power.input = true)
    (hpres : corePresent c = true) (hcomp : isCompute c = true) (hvec : (s.dev.tensor c).vectorQ = [])
    (hq : (s.dev.tensor c).streamQ = [op]) (hopc : op.opc = 0x80) (hd : op.ins.d.toNat = h)
    (hturn : (s.dev.tensor c).turn op h = true) (ht : (s.onDev fun d => d.popStreamQ c).armStream c op h = t)
    (hv : (t.dev.tensor c).vectorQ = ((s.dev.popStreamQ c).tensor c).vectorQ)
    (hs : (t.dev.tensor c).streamQ = ((s.dev.popStreamQ c).tensor c).streamQ) :
    exec (.streamArmed c h) s = .next { s with mem := t.mem, dev := t.dev } ∧ (t.dev.tensor c).streamQ = [] := by
  have hhead : s.streamArmed c h = t := (State.streamArmed_head hq hopc hd hturn).trans ht
  have hv' : (t.dev.tensor c).vectorQ = [] := by rw [hv, Device.tensor_popStreamQ, ← hvec]
  have hs' : (t.dev.tensor c).streamQ = [] := by
    rw [hs, Device.tensor_popStreamQ]
    simp only [hq, List.drop_one, List.tail_cons]
  refine ⟨?_, hs'⟩
  rw [exec_streamArmed, execStreamArmed, engine_settled hp hpres hcomp (hhead ▸ hv') (hhead ▸ hs'), hhead]

/-! ## Re-arms (R346) -/

theorem Stream.rearmed_some {st : Stream} {b : Nat} {e tag : W16} (h : st.rearm = some (b, e, tag)) :
    st.rearmed = { st with base := b, passEpoch := e, passTag := tag, passes := st.passes + 1, rearm := none } := by
  simp only [Stream.rearmed, h]

theorem Stream.rearmDue_of_requested {st : Stream} {x : Tensor} {r : Nat × W16 × W16} (h : st.rearm = some r)
    (hreq : st.limit x ≤ st.requested) : st.rearmDue x = true := by
  simp [Stream.rearmDue, h, hreq]

/-! ## TILE_REQUEST (R323) -/

/-- A read stream of memory that no index stream drives. -/
structure Stream.Plain (st : Stream) : Prop where
  dir : sdDir st.desc.toNat = 0
  place : sdEnd st.desc.toNat = 0
  unlinked : sdLinked st.desc.toNat = false
  link : st.link = none
  orbit : st.orbit = none

/-- A stream that nothing drives takes no index values. -/
theorem Device.pullIndices_unlinked {d : Device} {c : CoreId} {h : Nat} {st : Stream} (fuel n : Nat)
    (hst : d.stream c h = some st) (hlink : st.link = none) : Device.pullIndices fuel d c h n = d := by
  cases fuel with
  | zero => rfl
  | succ fuel => simp only [Device.pullIndices, hst, hlink, ite_self]

theorem Stream.Plain.rows1_eq {st : Stream} (hp : st.Plain) (x : Tensor) : st.rows1 x = sdExt st.desc.toNat 1 := by
  simp only [Stream.rows1, hp.link]

/-- A plain stream requests a tile while fewer than AHEAD are outstanding and it has not requested its last. -/
theorem Stream.Plain.mayRequest_iff {st : Stream} (hp : st.Plain) (x : Tensor) : st.mayRequest x = true ↔
    st.staged.length + st.flight.length < sdAhead st.desc.toNat ∧ st.requested < st.limit x := by
  simp [Stream.mayRequest, hp.dir, hp.place, hp.unlinked, hp.orbit]

/-- With AHEAD tiles outstanding nothing is requested. -/
theorem State.requestTile_full {s : State} {c : CoreId} {h : Nat} {st : Stream} (hst : s.dev.stream c h = some st) (hp : st.Plain)
    (hfull : sdAhead st.desc.toNat ≤ st.staged.length + st.flight.length) : s.requestTile c h = s := by
  have hmay : st.mayRequest (s.dev.tensor c) = false := by
    rw [Bool.eq_false_iff, Ne, hp.mayRequest_iff]
    exact fun hlt => Nat.not_lt.mpr hfull hlt.1
  simp only [State.requestTile, hst, hmay, Bool.not_false, if_true]

/-- A request reads the tile from memory and puts it in flight. -/
theorem State.requestTile_reads {s : State} {c : CoreId} {h : Nat} {st : Stream} (hst : s.dev.stream c h = some st) (hp : st.Plain)
    (hleft : st.requested < st.limit (s.dev.tensor c))
    (hroom : st.staged.length + st.flight.length < sdAhead st.desc.toNat) {rows : List FetchRow}
    (hread : s.fetchTile (s.dev.coreFn c) st (sdExt st.desc.toNat 1)
      (st.requested % sdTiles st.desc.toNat (sdExt st.desc.toNat 1)) = (rows, none)) :
    s.requestTile c h = s.onDev fun d => (d.setStream c h
      { st with requested := st.requested + 1
                flight := st.flight ++ [⟨st.requested, st.passEpoch, st.passTag, rows⟩] }).takeFresh := by
  have hmay : st.mayRequest (s.dev.tensor c) = true := (hp.mayRequest_iff _).mpr ⟨hroom, hleft⟩
  have hpull : ∀ n, (s.onDev fun d => Device.pullIndices 4096 d c h n) = s := fun n =>
    congrArg (fun d => { s with dev := d }) (Device.pullIndices_unlinked 4096 n hst hp.link)
  simp only [State.requestTile, hst, hmay, hpull, hp.rows1_eq, hread, hp.link, hp.orbit, Stream.badIndex, Bool.not_true,
    Option.isSome_none, Bool.false_and, Bool.false_eq_true, if_false]

/-! ## TILE_STAGED (R316, R323) -/

/-- The bytes of a tile in flight have arrived: its item is staged. -/
theorem State.stageTile_stages {s : State} {c : CoreId} {h n : Nat} {st : Stream} {f : Fetch} (hst : s.dev.stream c h = some st)
    (hf : st.flight.find? (fun f => decide (f.tile = n)) = some f) :
    ∃ it : Item, it.tile = n ∧ (s.stageTile c h n).dev.stream c h = some
      { st with flight := st.flight.filter fun f => decide (f.tile ≠ n), staged := st.staged ++ [it] } := by
  have htile : f.tile = n := by simpa using List.find?_some hf
  refine ⟨(s.formItem c h st f).2, (State.formItem_tile ..).trans htile, ?_⟩
  simp only [State.stageTile, hst, hf, State.onDev_dev, State.stream_formItem]
  exact Device.stream_setStream_same ..

/-! ## TILE_TAKEN (R319, R323) -/

theorem Stream.orbitStep_none {st : Stream} (x : Tensor) (h : st.orbit = none) : st.orbitStep x = st := by
  unfold Stream.orbitStep
  rw [h, Option.map_none, ← h]

/-- Outside an orbit a handle is replaced and nothing else. -/
theorem Device.putStream_unorbited (d : Device) (c : CoreId) (h : Nat) {st : Stream} (ho : st.orbit = none) :
    d.putStream c h st = d.setStream c h st := by
  rw [Device.putStream, Stream.orbitStep_none _ ho]

/-- The staged tile whose turn it is leaves its buffer. -/
theorem Stream.takeStaged_some {st : Stream} {it : Item} (hit : st.staged.find? (fun i => decide (i.tile = st.taken)) = some it)
    (ho : st.orbit = none) : st.takeStaged =
      { st with
        staged := st.staged.filter fun j => decide (j.tile ≠ st.taken), given := st.given ++ [it]
        taken := st.taken + 1, owed := if sdEnd st.desc.toNat = 1 then st.owed + 1 else st.owed } := by
  simp only [Stream.takeStaged, hit, ho, Option.map_none]

theorem Stream.takeStaged_orbit {st : Stream} (h : st.orbit = none) : st.takeStaged.orbit = none := by
  unfold Stream.takeStaged
  split
  · exact h
  · simp only [h, Option.map_none]

theorem Stream.pop_orbit {st : Stream} (h : st.orbit = none) : st.pop.orbit = none := by
  simp only [Stream.pop]
  split
  · exact Stream.takeStaged_orbit h
  · exact h

/-- Past the last tile of the stream there is none to take. -/
theorem exec_tileTaken_over {s : State} {c : CoreId} {h : Nat} {st : Stream} (hcalm : s.calm c = true)
    (hst : s.dev.stream c h = some st) (hover : st.limit (s.dev.tensor c) ≤ st.taken) : exec (.tileTaken c h) s = .next s := by
  have hnone : decide (st.taken < st.limit (s.dev.tensor c)) = false := decide_eq_false (Nat.not_lt.mpr hover)
  refine (exec_tileTaken s c h).trans (engine_keep hcalm ?_)
  simp only [State.onDev, hst, hnone, Bool.false_and, Bool.false_eq_true, if_false]

/-- Where a consumer holds the handle, a tile of the stream is taken. -/
theorem exec_tileTaken_takes {s : State} {c : CoreId} {h : Nat} {st : Stream} (hcalm : s.calm c = true)
    (hst : s.dev.stream c h = some st) (hleft : st.taken < st.limit (s.dev.tensor c)) (horbit : st.orbit = none)
    (hheld : st.drives ≠ none ∨ ∃ o ∈ (s.dev.tensor c).ops, h ∈ o.holds) :
    exec (.tileTaken c h) s = .next (s.onDev fun d => d.setStream c h st.takeStaged) := by
  have hmay : (st.drives.isSome || (s.dev.tensor c).ops.any fun o => o.holds.contains h) = true := by
    rcases hheld with hdrives | ⟨o, ho, hin⟩
    · rw [Option.isSome_iff_ne_none.mpr hdrives, Bool.true_or]
    · rw [Bool.or_eq_true, List.any_eq_true]
      exact .inr ⟨o, ho, by simpa using hin⟩
  have hleft' : decide (st.taken < st.limit (s.dev.tensor c)) = true := decide_eq_true hleft
  refine (exec_tileTaken s c h).trans (engine_setStream hcalm ?_)
  simp only [hst, hleft', hmay, Bool.and_self, if_true, Device.putStream_unorbited _ _ _ (Stream.takeStaged_orbit horbit)]

/-! ## FEEDER_REFILL (R323, R326, R327) -/

/-- What letting go of activation tiles leaves of a run: the first tiles it holds may go, and the operation may hold its handle no
longer. -/
structure Run.Released (r r' : Run) : Prop where
  feeders : r'.feeders = r.feeders
  acts : r'.acts = r.acts
  covered : r'.covered = r.covered
  held : ∃ k, r'.held = r.held.drop k

theorem Run.Released.refl (r : Run) : r.Released r := ⟨rfl, rfl, rfl, 0, rfl⟩

/-- Letting go of tiles changes the handles of the core and the tiles that the run holds. -/
theorem Device.releaseActs_released (n : Nat) (d : Device) (c : CoreId) (r : Run) :
    (d.tensor c).Bookkept ((Device.releaseActs n d c r).1.tensor c) ∧ r.Released (Device.releaseActs n d c r).2 := by
  induction n generalizing d r with
  | zero => exact ⟨.refl _, .refl r⟩
  | succ n ih =>
    unfold Device.releaseActs
    dsimp only
    split
    · refine ⟨.refl _, ?_⟩
      split
      · exact ⟨rfl, rfl, rfl, 0, rfl⟩
      · exact .refl r
    · rename_i u rest hheld
      split
      · exact ⟨.refl _, .refl r⟩
      · split
        · exact ⟨.refl _, .refl r⟩
        · rename_i st _
          obtain ⟨hbooks, hrun⟩ := ih (d.putStream c r.op.ins.a.toNat st.pop) { r with held := rest }
          obtain ⟨k, hk⟩ := hrun.held
          exact ⟨(Device.bookkept_putStream ..).trans hbooks, hrun.feeders, hrun.acts, hrun.covered, k + 1,
            by rw [hk, hheld, List.drop_succ_cons]⟩

/-- A run that holds no tile and has still to take some keeps its handle. -/
theorem Device.releaseActs_idle (n : Nat) (d : Device) (c : CoreId) {r : Run} (hheld : r.held = []) (hleft : r.covered < r.k) :
    Device.releaseActs n d c r = (d, r) := by
  cases n with
  | zero => rfl
  | succ n => simp only [Device.releaseActs, hheld, if_neg (Nat.not_le.mpr hleft)]

/-- A tile with a word still to be taken keeps its buffer, and those behind it keep theirs. -/
theorem Device.releaseActs_uncovered (n : Nat) (d : Device) (c : CoreId) {r : Run} {u : Nat × Nat} {rest : List (Nat × Nat)}
    (hheld : r.held = u :: rest) (hcov : r.covers u = false) : Device.releaseActs n d c r = (d, r) := by
  cases n with
  | zero => rfl
  | succ n => simp only [Device.releaseActs, hheld, hcov, Bool.not_false, if_true]

/-- The only tile held leaves its buffer when every feeder has taken its words of it. -/
theorem Device.releaseActs_last (n : Nat) {d : Device} {c : CoreId} {r : Run} {u : Nat × Nat} {st : Stream} (hheld : r.held = [u])
    (hcov : r.covers u = true) (hst : d.stream c r.op.ins.a.toNat = some st) (ho : st.orbit = none) :
    ∃ r', Device.releaseActs (n + 2) d c r = (d.setStream c r.op.ins.a.toNat st.pop, r') ∧ r'.held = [] := by
  simp only [Device.releaseActs, hheld, hcov, hst, Bool.not_true, Bool.false_eq_true, if_false,
    Device.putStream_unorbited _ _ _ (Stream.pop_orbit ho)]
  refine ⟨_, rfl, ?_⟩
  split <;> rfl

/-- The run with feeder f given its next word. -/
def Run.fed (r : Run) (f : Nat) : Run := { r with feeders := r.feeders.set f (r.feeders.getD f 0 + 1) }

/-- A feeder in use with room takes the next word of its row, which the activation tiles taken hold (log 12: sixteen words fit); the
tiles that this empties leave their buffers. -/
theorem Device.refill_feeds {d : Device} {c : CoreId} {r : Run} {f n : Nat} (hrun : (d.tensor c).run = some r)
    (hn : r.feeders.getD f 0 = n) (hf : f < 64) (hpos : f < (r.form.getD .single).positions) (hroom : n < r.tile + 16)
    (hk : n * (r.form.getD .single).positions + f < r.k) (hcov : n * (r.form.getD .single).positions + f < r.covered) :
    d.refill c f = (Device.releaseActs (r.held.length + 1) d c (r.fed f)).1.setRun c
      (Device.releaseActs (r.held.length + 1) d c (r.fed f)).2 := by
  subst hn
  have hgo : ¬ (64 ≤ f ∨ (r.form.getD .single).positions ≤ f ∨ r.tile + 16 ≤ r.feeders.getD f 0 ∨
      r.k ≤ r.feeders.getD f 0 * (r.form.getD .single).positions + f) := by omega
  simp only [Device.refill, hrun, if_neg hgo, if_neg (Nat.not_le.mpr hcov), if_pos hcov]
  rfl

/-- FEEDER_REFILL of a calm core whose feeder takes its next word. -/
theorem exec_feederRefill_feeds {s : State} {c : CoreId} {f : Nat} {q : Device × Run} (hcalm : s.calm c = true)
    (hb : (s.dev.tensor c).Bookkept (q.1.tensor c)) (hfill : s.dev.refill c f = q.1.setRun c q.2) :
    exec (.feederRefill c f) s = .next (s.onDev fun _ => q.1.setRun c q.2) := by
  refine (exec_feederRefill s c f).trans ((engine_calm hcalm ?_ ?_).trans ?_)
  · rw [State.onDev_dev, hfill, Device.tensor_setRun]
    exact hb.vectorQ
  · rw [State.onDev_dev, hfill, Device.tensor_setRun]
    exact hb.streamQ
  · rw [State.onDev_dev, hfill]
    rfl

/-! ## O27 -/

/-- Settles O27: each event by the law of what it does. That the bytes of a tile are those of memory at TILE_REQUEST and that a
feeder holds at most sixteen words are the model's choice (logs 48, 12). -/
theorem streamTilesMoveThroughTheirStages : Obligations.StreamTilesMoveThroughTheirStages := by
  intro s c h x put
  refine ⟨fun op bs hp hpres hcomp hvec hq hopc hd hturn hst hload => ?_, fun st hcalm hst => ?_,
    fun r f n hcalm hrun hn => ?_⟩
  · intro w cause
    have hst0 := (s.dev.stream_popStreamQ c h).trans hst
    have hload0 := (s.loadV_popStreamQ c op.fn op.x.toNat 64).trans hload
    refine ⟨fun hcause hlink => ?_, fun hcause honce => ?_⟩
    · obtain ⟨hmem, hv, hs, harmed⟩ := State.armStream_arms hst0 hload0 hcause hlink
      obtain ⟨hx, hempty⟩ := exec_streamArmed_alone hp hpres hcomp hvec hq hopc hd hturn rfl hv hs
      exact ⟨_, hx, hmem, hempty, _, harmed, rfl, rfl, rfl, rfl, rfl, rfl, rfl, rfl⟩
    · obtain ⟨n, hn⟩ := Option.ne_none_iff_exists'.mp hcause
      obtain ⟨partner, hdesc⟩ := State.armStream_refuses hst0 hload0 hn
      have hbooks : ((s.dev.popStreamQ c).tensor c).Bookkept (((s.dev.popStreamQ c).streamDesc c op.tag h n partner).tensor c) :=
        Device.bookkept_streamFault ..
      have hnew : (0x6010, op.tag.toNat, h) ∉ ((s.dev.popStreamQ c).tensor c).once := by
        rw [Device.tensor_popStreamQ]
        exact honce
      obtain ⟨hx, -⟩ := exec_streamArmed_alone hp hpres hcomp hvec hq hopc hd hturn hdesc hbooks.vectorQ hbooks.streamQ
      exact ⟨_, hx, rfl, (Device.stream_streamFault ..).trans hst0, Device.fpend_streamFault c _ _ hnew⟩
  · intro w
    refine ⟨fun b e tag hre hreq => ?_, fun hdir hend hlinked hlink horbit hleft => ?_, fun n f hf => ?_, fun hover => ?_,
      fun it hleft hit horbit hheld => ?_⟩
    · refine (exec_rearmTakeEffect s c h).trans (engine_setStream hcalm ?_)
      have hdue : st.rearmDue (s.dev.tensor c) = true := Stream.rearmDue_of_requested hre hreq
      simp only [hst, hdue, Stream.rearmed_some hre, if_true]
    · intro tile
      have hplain : st.Plain := ⟨hdir, hend, hlinked, hlink, horbit⟩
      refine ⟨fun hfull => ?_, fun hroom hread => ?_⟩
      · exact (exec_tileRequest s c h).trans (engine_keep hcalm (State.requestTile_full hst hplain hfull))
      · have hreq := State.requestTile_reads hst hplain hleft hroom (rows := tile.1) (Prod.ext rfl hread)
        refine (exec_tileRequest s c h).trans ((engine_bookkept hcalm (State.bookkept_requestTile ..)).trans ?_)
        rw [hreq]
        rfl
    · obtain ⟨it, htile, hstaged⟩ := State.stageTile_stages hst hf
      have hbooks := State.bookkept_stageTile c s h n
      exact ⟨_, it, (exec_tileStaged s c h n).trans (engine_bookkept hcalm hbooks), hbooks.mem, htile, hstaged⟩
    · exact exec_tileTaken_over hcalm hst hover
    · rw [exec_tileTaken_takes hcalm hst hleft horbit hheld, Stream.takeStaged_some hit horbit]
  · intro p r1 given hf hpos hroom hk hcov
    have hfill := Device.refill_feeds hrun hn hf hpos hroom hk hcov
    have hr1 : r.fed f = r1 := by
      subst hn
      rfl
    rw [hr1] at hfill
    obtain ⟨hbooks, hrel⟩ := Device.releaseActs_released (r.held.length + 1) s.dev c r1
    have hx := exec_feederRefill_feeds hcalm hbooks hfill
    refine ⟨fun hheld hleft => ?_, fun u rest hheld hcovers => ?_, fun u st hheld hcovers hst horbit => ?_, ?_⟩
    · rw [hx, Device.releaseActs_idle (r := r1) _ _ _ hheld hleft]
      rfl
    · rw [hx, Device.releaseActs_uncovered (r := r1) _ _ _ hheld hcovers]
      rfl
    · obtain ⟨r', hlast, hheld'⟩ := Device.releaseActs_last (r := r1) 0 hheld hcovers hst horbit
      rw [show r.held.length + 1 = 0 + 2 by rw [hheld]; rfl, hlast] at hx
      refine ⟨_, r', hx, rfl, ?_, ?_, hheld'⟩
      · exact (Device.stream_setRun ..).trans (Device.stream_setStream_same ..)
      · rw [State.onDev_dev, Device.tensor_setRun]
    · obtain ⟨k, hk'⟩ := hrel.held
      exact ⟨_, _, k, hx, rfl, by rw [State.onDev_dev, Device.tensor_setRun], hrel.feeders, hrel.acts, hrel.covered, hk'⟩

end Sys2Proof.Machine
end

section
/-!
PROOFS. O28: a record that takes a page away before the tile is placed in it.
-/
namespace Sys2Proof.Machine

/-! ## A page table in the event history (R361, R628) -/

/-- Core 0 of cluster 0 of die 0. -/
def firstCore : CoreId := ⟨0, 0, 0⟩

/-- A record whose time, 13, is also a table entry: valid, writable, of a page of 1 GiB at address 0 (R37, R361). -/
def entryRecord : EventRec :=
  { time := 0xD, src := ⟨0, none, 0, 0, 0⟩, code := 0, cls := .deferred, poison := false, lost := false, detail := [] }

/-- A packet of one BF16 element whose header breaks R57: it names a codebook. -/
def brokenPacket : Packet := ⟨{ coreHdr firstCore 0x04 0 0 with width := 0x9, codebook := 1, len := 2 }, [1, 1]⟩

/-- The item of the packet. -/
def brokenItem : Item := ⟨0, [brokenPacket]⟩

/-- The descriptor of a write stream of memory at address 0 whose tensor is one BF16 element. -/
def oneElement : Nat :=
  1 <<< 64 + 1 <<< 96 + 1 <<< 128 + 1 <<< 160 + 1 <<< 192 + 1 <<< 426 + 1 <<< 448 + 1 <<< 464 + 1 <<< 480 + 1 <<< 484

/-- The handle with the item at its head. -/
def oneTileStream : Stream :=
  { desc := BitVec.ofNat 512 oneElement, tag := 0, epoch := 0, base := 0, passEpoch := 0, passTag := 0, passes := 1, rearm := none
    requested := 0, taken := 0, flight := [], staged := [], given := [], used := 0, link := none, indices := [], drives := none
    cur := [], tail := [], count := 0, puts := [], buf := [brokenItem], writing := 0, accepted := 1, placed := 0
    shown := none, owed := 0, grants := 0, arriving := [], orbit := none, loose := false }

/-- The core writes through handle 0, and the table of its function is the event history, full of the record. -/
def historyTable : State :=
  { State.reset with
    dev := { Device.reset with
      log := ⟨List.replicate 4096 entryRecord, 4096⟩
      regs := [(Reg.xlatRoot 0, BitVec.ofNat 64 (hubStoreAddr historyOff + 1))]
      tensors := [(coreKey firstCore, { Tensor.init with streams := [(0, oneTileStream)] })] } }

/-- Memory after a command, where it answers a next state. -/
def memoryAfter (o : Host.Outcome State Fault Refusal) : Option Memory :=
  match o with
  | .next t => some t.mem
  | .fault _ => none
  | .refused _ => none

/-- The address that the item is to be placed at. -/
def brokenAddr : Nat :=
  let w := oneTileStream.desc.toNat
  let t := historyTable.dev.tileAt firstCore oneTileStream brokenItem.tile
  sdRowAddr w oneTileStream.base t t.x1 + t.x0 * (sdElemBits w / 8)

/-- The address stands in the page until a record of the broken header takes the slot of the entry. -/
theorem historyTable_loses_page : historyTable.translateMem (historyTable.dev.coreFn firstCore) brokenAddr ⟨false, true⟩ = some 0 ∧
    (historyTable.onDev fun d => d.badHeaders firstCore true [brokenPacket]).translateMem
      (historyTable.dev.coreFn firstCore) brokenAddr ⟨false, true⟩ = none := by
  decide +kernel

/-- So the step leaves memory empty. -/
theorem historyTable_placesNothing :
    memoryAfter (exec (.streamWriteTile firstCore 0) historyTable) = some ⟨[], [], []⟩ := by decide +kernel

/-- The byte that a store of the packet would have left. -/
theorem historyTable_store : (historyTable.store 0 [1, 1] false).mem.get 0 = 1 := by decide +kernel

/-! ## O28 -/

/-- Refutes O28, in the clause of a tile of one row that is placed whole: it asks for no sound header. STREAM_WRITE_TILE emits
HEADER_INVALID before it translates the tile's address (R57, R320); where the page table stands in the event history (R628), that
record overwrites the oldest one, which held the entry, and nothing is placed. -/
theorem not_writesChainsAndOrbitsMoveItems : ¬ Obligations.WritesChainsAndOrbitsMoveItems := by
  intro hall
  have hcalm : historyTable.calm firstCore = true := by decide +kernel
  obtain ⟨hwrite, -⟩ := hall historyTable firstCore 0 oneTileStream hcalm rfl
  have hdir : sdDir oneTileStream.desc.toNat = 1 := by decide +kernel
  have hend : sdEnd oneTileStream.desc.toNat = 0 := by decide +kernel
  have hkind : fmtKind (sdFmt oneTileStream.desc.toNat) ≠ 0 := by decide +kernel
  have hrows : (historyTable.dev.tileAt firstCore oneTileStream brokenItem.tile).rows = 1 := by decide +kernel
  have hwidth : brokenPacket.hdr.width.toNat = kindWidth (fmtKind (sdFmt oneTileStream.desc.toNat)) := by decide +kernel
  have hlen : brokenPacket.payload.length =
      (historyTable.dev.tileAt firstCore oneTileStream brokenItem.tile).cols * (sdElemBits oneTileStream.desc.toNat / 8) := by decide +kernel
  have hpieces : pieces brokenAddr brokenPacket.payload.length = [(brokenAddr, brokenPacket.payload.length)] := by decide +kernel
  obtain ⟨u, hstep, hmem⟩ := (hwrite brokenItem [] rfl hdir hend).2 brokenPacket 0 rfl rfl hkind hrows rfl
    rfl hwidth hlen hpieces historyTable_loses_page.1
  have hempty : some u.mem = some ⟨[], [], []⟩ := by
    rw [← historyTable_placesNothing, hstep]
    rfl
  have hbyte : u.mem.get 0 = 1 := by
    rw [hmem]
    exact historyTable_store
  rw [Option.some.inj hempty] at hbyte
  exact absurd hbyte (by decide)

end Sys2Proof.Machine
end
